-- ==== Sys2Proof/Word.lean ====
section
/-! DEFINITION. The word types of the CN32 model: a byte of a frame or message, a node ID (00, section 3) and a code of the
sense converter (09, 9.1: a signed whole number from −2048 to 2047). -/

namespace Sys2Proof

/-- One byte of a line frame or a coach link message. -/
abbrev Byte := BitVec 8

/-- The 32-bit identity of a node (00, section 3). -/
abbrev NodeId := BitVec 32

/-- A code of the sense converter: 12 bits, read as a signed number −2048..2047 (R151). -/
abbrev Code := BitVec 12

end Sys2Proof
end

