-- ==== Sys2Proof/Syntax.lean ====
section
/-! DEFINITION. The commands of the CN32: one constructor of `Instr` for each row of spec/opcode_table.json, in the table's order,
with the operands the surroundings bring at that moment. What a delivered frame or a received message carries is no operand: it
is read from its bytes where the node holds it (log 6). -/

namespace Sys2Proof

/-- A physical train-line port (01, 1.1). -/
inductive Port where
  | a
  | b
  deriving DecidableEq, Repr

/-- A side of the coach (00, 4.2). -/
inductive Side where
  | one
  | two
  deriving DecidableEq, Repr

/-- The two routes by which a management request reaches the management unit (R172). -/
inductive Route where
  | line
  | coachLink
  deriving DecidableEq, Repr

/-- The input levels that a start-up samples: the ENDSWAP strap (R2) and the two loop inputs (R72; true is made). -/
structure ResetPins where
  endswap : Bool
  loop1 : Bool
  loop2 : Bool
  deriving DecidableEq, Repr

/-- The commands (steps) of the part, one per row of spec/opcode_table.json. -/
inductive Instr where
  /-- POWER_ON (R178), with the levels of the inputs sampled. -/
  | powerOn (pins : ResetPins)
  /-- POWER_LOSS (R176, R177). -/
  | powerLoss
  /-- PILOT_WINDOW_CLOSE (R4, R5): the window of `port` closes, having seen `edges` edges. -/
  | pilotWindowClose (port : Port) (edges : Nat)
  /-- LINE_FRAME_CLOSED (R8): `bytes` came in on `port` since its frame start and the assembly closed, at a new frame start if `byStart`
  (log 38). -/
  | lineFrameClosed (port : Port) (bytes : List Byte) (byStart : Bool)
  /-- LINE_TX_COMPLETE (R14). -/
  | lineTxComplete (port : Port)
  /-- CENSUS_CALL_TAKEN (R43 to R46). -/
  | censusCallTaken
  /-- CENSUS_RETURN_TAKEN (R38, R39). -/
  | censusReturnTaken
  /-- CONSIST_ANNOUNCE_TAKEN (R48 to R50). -/
  | consistAnnounceTaken
  /-- TOPOLOGY_CHANGE_TAKEN (R36). -/
  | topologyChangeTaken
  /-- BEACON_TAKEN (R65, R67, R52). -/
  | beaconTaken
  /-- DOOR_ORDER_TAKEN (R78). -/
  | doorOrderTaken
  /-- DOOR_STATE_TAKEN (R107). -/
  | doorStateTaken
  /-- HEAT_DEMAND_TAKEN (R124). -/
  | heatDemandTaken
  /-- HEAT_GRANT_TAKEN (R137). -/
  | heatGrantTaken
  /-- CAB_ASSERTION_TAKEN (R33). -/
  | cabAssertionTaken
  /-- CAB_RELEASE_TAKEN (R33, R34). -/
  | cabReleaseTaken
  /-- CENSUS_TIMER_EXPIRY (R37). -/
  | censusTimerExpiry
  /-- SURVEY_HOLD_EXPIRY (R47). -/
  | surveyHoldExpiry
  /-- CYCLE_TICK (R62). -/
  | cycleTick
  /-- SLOT_BOUNDARY (R63). -/
  | slotBoundary
  /-- ZSP_CHANGE_TAKEN (R61): the filtered level becomes `level` (true is asserted). -/
  | zspChangeTaken (level : Bool)
  /-- SUPERVISION_TIMER_EXPIRY (R68). -/
  | supervisionTimerExpiry
  /-- DOOR_COMMAND (R75 to R77). -/
  | doorCommand
  /-- LOOP_CHANGE_TAKEN (R83): the filtered loop level of `side` becomes `level` (true is made). -/
  | loopChangeTaken (side : Side) (level : Bool)
  /-- MAXIMUM_RELEASE_TIME_EXPIRY (R96). -/
  | maximumReleaseTimeExpiry (side : Side)
  /-- WARNING_LEAD_TIME_EXPIRY (R88). -/
  | warningLeadTimeExpiry (side : Side)
  /-- CLOSE_TIMEOUT_EXPIRY (R89). -/
  | closeTimeoutExpiry (side : Side)
  /-- WARNING_PHASE_CHANGE (R82). -/
  | warningPhaseChange (side : Side)
  /-- DOOR_REPORT (R97, R98). -/
  | doorReport
  /-- DEMAND (R115). -/
  | demand
  /-- DEMAND_HOLD_EXPIRY (R116). -/
  | demandHoldExpiry
  /-- PACER_TICK (R152). -/
  | pacerTick
  /-- CONVERSION_COMPLETE (R154): the conversion in flight gives `code`. -/
  | conversionComplete (code : Code)
  /-- COACH_LINK_MESSAGE_COMPLETE (R179): `bytes` came in on the coach link, the last of them completing a message. -/
  | coachLinkMessageComplete (bytes : List Byte)
  /-- COACH_LINK_BYTE_TIMEOUT (R179): `bytes` came in, and then none for more than 5 ms. -/
  | coachLinkByteTimeout (bytes : List Byte)
  /-- COACH_LINK_TX_COMPLETE (R180). -/
  | coachLinkTxComplete
  /-- IDENTIFY (R55). -/
  | identify (route : Route)
  /-- READ_CONSIST (R55). -/
  | readConsist (route : Route)
  /-- READ_DOOR (R102, R113). -/
  | readDoor (route : Route)
  /-- READ_HEATING (R134, R149). -/
  | readHeating (route : Route)
  /-- READ_SENSE (R162). -/
  | readSense (route : Route)
  /-- READ_CAPTURE (R161). -/
  | readCapture (route : Route)
  /-- READ_COUNTERS (R165). -/
  | readCounters (route : Route)
  /-- READ_NOTICES (R171). -/
  | readNotices (route : Route)
  /-- CLEAR_COUNTERS (R166). -/
  | clearCounters (route : Route)
  /-- CLEAR_NOTICES (R170). -/
  | clearNotices (route : Route)
  /-- SET_NOTICE_ENABLE (R171). -/
  | setNoticeEnable (route : Route)
  /-- LOAD_TABLE (R174). -/
  | loadTable (route : Route)
  /-- APPLY (R175). -/
  | apply (route : Route)
  /-- STORE (R176). -/
  | store (route : Route)
  /-- STORE_WRITE_COMPLETE (R176). -/
  | storeWriteComplete
  /-- SET_BUDGET (R126). -/
  | setBudget (route : Route)
  /-- SET_SENSE (R157). -/
  | setSense (route : Route)
  /-- SAMPLE (R153). -/
  | sample (route : Route)
  /-- START_CAPTURE (R160). -/
  | startCapture (route : Route)
  /-- STOP_CAPTURE (R160). -/
  | stopCapture (route : Route)
  /-- CLEAR_GROUP_FAULT (R148). -/
  | clearGroupFault (route : Route)
  /-- RECENSUS (R59). -/
  | recensus (route : Route)
  /-- RESTART (R177). -/
  | restart (route : Route)
  /-- RESTART_TAKES_EFFECT (R177, R178), with the levels of the inputs sampled. -/
  | restartTakesEffect (pins : ResetPins)
  /-- COACH_LINK_BYTE_ERROR (R179): `bytes` came in, and then a byte with a parity or framing error. -/
  | coachLinkByteError (bytes : List Byte)
  deriving DecidableEq, Repr

end Sys2Proof
end

