-- ==== Sys2Proof/Decode.lean ====
section
/-! DEFINITION. The command that a word of spec/opcode_table.json spells. The table gives no row any bits (the part has no register
window and no command words, 00 "About this manual"), so no word spells a command (log 23). The byte formats of the frames and
messages themselves (chapter 12) are in Machine/Format.lean. -/

namespace Sys2Proof

/-- The command spelt by the `nbits` bits of `w`, for the rows of the table that give bits: there are none. -/
def decodeTableWord (_nbits _w : Nat) : Option Instr := none

end Sys2Proof
end

