-- ==== Sys2Proof/Config.lean ====
section
/-! DEFINITION. What is fixed for the part: the capacities and times the rules state, and the free values (values the spec does
not state, log 22). -/

namespace Sys2Proof.Config

/-- A byte whose value the spec does not state. It has no body: nothing can be proved about its value. The argument is the
count of free values used before (`State.freeCount`), so that no two uses are known to be equal (log 9, log 10, log 22). -/
opaque freeByte : Nat → Byte

/-- Capacity of an urgent queue (R27). -/
def urgentCapacity : Nat := 8
/-- Capacity of a normal queue (R27). -/
def normalCapacity : Nat := 16
/-- Largest line frame: 16 header bytes, 264 payload bytes, 2 CRC bytes (12.2). -/
def maxFrameBytes : Nat := 282
/-- Largest line frame payload (12.2). -/
def maxFramePayload : Nat := 264
/-- Largest coach link payload (12.6). -/
def maxMessagePayload : Nat := 72
/-- Receive buffers of the coach link (R179). -/
def rxBuffers : Nat := 2
/-- Places of the coach link transmit queue (R180). -/
def txPlaces : Nat := 8
/-- Entries of the capture FIFO (R160). -/
def fifoEntries : Nat := 32
/-- Codes of a channel window and of an on-window (R154). -/
def windowCodes : Nat := 8
/-- Census timer (R35), in ms. -/
def censusTimerMs : Nat := 600
/-- Survey hold (R45), in ms. -/
def surveyHoldMs : Nat := 3000
/-- Supervision timer (R66), in ms. -/
def supervisionMs : Nat := 350
/-- Demand hold (R115), in ms. -/
def demandHoldMs : Nat := 30000
/-- Delay of a RESTART (R177), in ms. -/
def restartMs : Nat := 100
/-- Age at which a channel is stale (R155), in ms. -/
def staleMs : Nat := 500
/-- Most parts of one reply (R172). -/
def maxParts : Nat := 16

end Sys2Proof.Config
end

