-- ==== Sys2Proof/Machine/State.lean ====
section
/-! DEFINITION. The state of the CN32 as plain data, and State.reset: the node after its first power-on (R178). INVENTORY.md,
"State", lists every piece with the rule that names it. -/

namespace Sys2Proof.Machine

/-- The manual names no fault that stops the part: bad input is discarded, counted or answered (INVENTORY.md, "Faults"). No command
ends in a fault, so the type has no constructor. -/
inductive Fault where
  deriving DecidableEq, Repr

/-- Why a command is refused. -/
inductive Refusal where
  /-- Raised by an arm of `exec` whose command has no meaning yet (none is left). Safe: the machine stops. -/
  | notModelled (mnemonic : String)
  deriving DecidableEq, Repr

/-! ## Names of the chapters -/

/-- Direction of a frame (00, 4.2; coded in 12.2). -/
inductive Dir where
  | away
  | toward
  deriving DecidableEq, Repr

/-- Destination kind of a frame (01, 1.3). -/
inductive DestKind where
  | broadcast
  | position
  | nodeId
  | lead
  deriving DecidableEq, Repr

/-- Logical end number (R2). -/
inductive EndNo where
  | one
  | two
  deriving DecidableEq, Repr

/-- Pilot state (R1, R5). -/
inductive Pilot where
  | parted
  | mating
  | mated
  deriving DecidableEq, Repr

/-- Orientation of a coach (00, 4.2). -/
inductive Orientation where
  | normal
  | reversed
  deriving DecidableEq, Repr

/-- Census state (03, 3.1). -/
inductive CensusState where
  | detached
  | survey
  | settled
  | stale
  deriving DecidableEq, Repr

/-- Lead census state (03, 3.1). -/
inductive LeadState where
  | off
  | calling
  | holding
  | blocked
  deriving DecidableEq, Repr

/-- Last failure reason (03, 3.1). -/
inductive Failure where
  | none
  | cabCoupled
  | noReturn
  | tooLong
  | duplicateId
  | twoLeads
  deriving DecidableEq, Repr

/-- Kind of a topology change (R53). -/
inductive TopologyKind where
  | matedOn
  | matedOff
  | numbering
  | cabEnd
  | epochMismatch
  | announceMismatch
  | notInTable
  deriving DecidableEq, Repr

/-- Supervision state (04, 4.5). -/
inductive Supervision where
  | none
  | live
  | lost
  deriving DecidableEq, Repr

/-- Side of the train (00, 4.2). -/
inductive TrainSide where
  | left
  | right
  deriving DecidableEq, Repr

/-- Action of a door order (05, 5.3). -/
inductive DoorAction where
  | release
  | close
  deriving DecidableEq, Repr

/-- State of a side machine (05, 5.1). -/
inductive SideState where
  | absent
  | locked
  | released
  | warning
  | closing
  | fault
  deriving DecidableEq, Repr

/-- Recorded cause of a withdrawal (05, 5.1). -/
inductive Cause where
  | none
  | zeroSpeedLost
  | lineLost
  | consistChanged
  | closeOrder
  | releaseTimeout
  deriving DecidableEq, Repr

/-- Last refusal of a door order (05, 5.1). -/
inductive DoorRefusal where
  | none
  | notSettled
  | epochMismatch
  | noDoors
  | noZeroSpeed
  deriving DecidableEq, Repr

/-- Warning mode of the door table (R103). -/
inductive WarnMode where
  | steady
  | pulsed
  deriving DecidableEq, Repr

/-- Side state as a door summary record holds it: a side state or NOT_REPORTED (06, 6.1). -/
inductive SummaryState where
  | notReported
  | reported (st : SideState)
  deriving DecidableEq, Repr

/-- Heater group state (08, 8.1). -/
inductive GroupState where
  | notFitted
  | enabled
  | failed
  deriving DecidableEq, Repr

/-- Grant source (08, 8.1). -/
inductive GrantSource where
  | onTime
  | late
  | held
  | fallback
  deriving DecidableEq, Repr

/-- Undervoltage judgement (R127). -/
inductive Undervoltage where
  | normal
  | undervoltage
  | skippedUnsupervised
  | skippedStale
  deriving DecidableEq, Repr

/-- Case of an allocation (07, 7.3.1). -/
inductive AllocCase where
  | unscaled
  | class0Scaled
  | class1Scaled
  deriving DecidableEq, Repr

/-- Mode of the sense converter (09, 9.3). -/
inductive SenseMode where
  | single
  | singleCont
  | scan
  | scanCont
  deriving DecidableEq, Repr

/-- Action of a class table entry (R21). -/
inductive ClassAction where
  | relay
  | deliver
  | both
  | drop
  deriving DecidableEq, Repr

/-- Direction restriction of a class table entry (R21). -/
inductive Restriction where
  | any
  | awayOnly
  | towardOnly
  deriving DecidableEq, Repr

/-- The notice flags in their order (10, 10.2.1). -/
inductive Flag where
  | topology
  | censusFailed
  | lineLost
  | doorRefused
  | doorFault
  | doorForced
  | groupFailed
  | groupOpen
  | senseDegraded
  | framesDropped
  | counterException
  | configDefaulted
  | captureHalf
  deriving DecidableEq, Repr

/-! ## Frames and messages -/

/-- A line frame as the relay unit holds it: header fields and payload (01, 1.3). The CRC is formed at sending (R13). -/
structure Frame where
  cls : Nat
  urgent : Bool
  dir : Dir
  hop : Nat
  epoch : Nat
  srcPos : Nat
  destKind : DestKind
  destVal : BitVec 32
  srcId : NodeId
  payload : List Byte
  deriving DecidableEq, Repr

/-- A coach link message: type and payload (12.6). The CRC is checked at reception and formed at sending. -/
structure Message where
  kind : Nat
  payload : List Byte
  deriving DecidableEq, Repr

/-- A frame in assembly at an end unit: the bytes stored, and whether bytes beyond the largest frame came (R8). -/
structure Assembly where
  bytes : List Byte
  overlong : Bool
  deriving DecidableEq, Repr

/-- A frame delivered to a block: with the port of arrival and the end number it carried then (R12, R17). -/
structure Delivery where
  port : Port
  endNo : EndNo
  frame : Frame
  deriving DecidableEq, Repr

/-- An attempt tag: lead node ID and attempt number (00, section 3). -/
structure Tag where
  lead : NodeId
  attempt : Nat
  deriving DecidableEq, Repr

/-- A census entry (R45). -/
structure Entry where
  id : NodeId
  orient : Orientation
  drivable : Bool
  heating : Bool
  preferred : Bool
  doors1 : Nat
  doors2 : Nat
  rating : Nat
  deriving DecidableEq, Repr

/-- A consist table record: a position and what the census entry gave (R54). -/
structure ConsistRecord where
  pos : Nat
  entry : Entry
  deriving DecidableEq, Repr

/-! ## Loadable tables (11, 11.2) -/

/-- The COACH table (11, 11.2). -/
structure CoachTable where
  drivable : Bool
  cabEnd : EndNo
  endSwap : Bool
  remoteConfig : Bool
  arraySize : Nat
  deriving DecidableEq, Repr

/-- The DOOR table (R103). Warning lead time in tenths of a second, the other times in seconds. -/
structure DoorTable where
  count1 : Nat
  count2 : Nat
  warnLead : Nat
  warnMode : WarnMode
  closeTimeout : Nat
  maxRelease : Nat
  deriving DecidableEq, Repr

/-- The HEAT table (R119, R136). -/
structure HeatTable where
  enabled : Bool
  g0 : Nat
  g1 : Nat
  g2 : Nat
  g3 : Nat
  preferred : Bool
  fallbackCap : Nat
  derate : Nat
  defaultBudget : Nat
  undervolt : Nat
  deriving DecidableEq, Repr

/-- One entry of the CLASS table (R21). -/
structure ClassEntry where
  action : ClassAction
  urgent : Bool
  restrict : Restriction
  needsSettled : Bool
  countCode : Option Nat
  deriving DecidableEq, Repr

/-- The SENSE table (R158). -/
structure SenseTable where
  mode : SenseMode
  stop : Nat
  selected : Nat
  interval : Nat
  gains : List Nat
  deriving DecidableEq, Repr

/-- The five loadable tables (11, 11.2); `cls` holds one entry per class 0..31. -/
structure Tables where
  coach : CoachTable
  door : DoorTable
  heat : HeatTable
  cls : List ClassEntry
  sense : SenseTable
  deriving DecidableEq, Repr

/-! ## The blocks -/

/-- An end unit and the two queues of its physical port (01, 1.1.1; 02, 2.1). `rx` holds an assembly between commands only where a new
frame start began it (log 38). -/
structure LinePort where
  pilot : Pilot
  good : Nat
  bad : Nat
  edges : Nat
  tx : Option Frame
  rx : Option Assembly
  tone : Bool
  urgentQ : List Frame
  normalQ : List Frame
  deriving DecidableEq, Repr

/-- The census controller (03, 3.1). `cabRefused`: the standing assertion of CAB has been refused (R33). -/
structure Census where
  cs : CensusState
  lead : LeadState
  table : Option (List ConsistRecord)
  epoch : Nat
  lastEpoch : Nat
  position : Nat
  orient : Orientation
  leadEnd : Option EndNo
  tag : Option Tag
  attemptNo : Nat
  attemptCtr : Nat
  timer : Option Nat
  hold : Option Nat
  cab : Bool
  cabRefused : Bool
  failure : Failure
  staleArmed : Bool
  deriving DecidableEq, Repr

/-- The line supervisor (04, 4.1). -/
structure Supervisor where
  idx : Nat
  cyc : Nat
  tick : Nat
  lastStart : Option Nat
  sup : Supervision
  timer : Option Nat
  flag : Bool
  zsp : Bool
  permit : Bool
  beaconOn : Bool
  deriving DecidableEq, Repr

/-- A running side timer: the length it was started with and the time remaining, in ms (05, 5.1). -/
structure SideTimer where
  length : Nat
  left : Nat
  deriving DecidableEq, Repr

/-- A door side machine with its two outputs (05, 5.1). `mode` is the warning mode read at the last entry to WARNING (R82);
`order` the action and epoch of the last order accepted. -/
structure DoorSide where
  st : SideState
  cause : Cause
  refusal : DoorRefusal
  order : Option (DoorAction × Nat)
  timer : Option SideTimer
  phase : Bool
  mode : WarnMode
  loop : Bool
  openN : Nat
  obstrN : Nat
  rel : Bool
  warn : Bool
  deriving DecidableEq, Repr

/-- The door controller (05, 5.1). -/
structure Doors where
  side1 : DoorSide
  side2 : DoorSide
  derate : Bool
  deriving DecidableEq, Repr

/-- One side's group of five items as it is reported (R100, R106). -/
structure SideReport where
  st : SummaryState
  cause : Cause
  refusal : DoorRefusal
  openN : Nat
  obstrN : Nat
  deriving DecidableEq, Repr

/-- A door summary record (06, 6.1). -/
structure SummaryRecord where
  pos : Nat
  id : NodeId
  orient : Orientation
  countL : Nat
  countR : Nat
  left : SideReport
  right : SideReport
  permit : Option Bool
  age : Nat
  deriving DecidableEq, Repr

/-- The door summary and the PROVEN output (06, 6.1). -/
structure Summary where
  recs : List SummaryRecord
  proven : Bool
  deriving DecidableEq, Repr

/-- A heater group (08, 8.1). -/
structure Group where
  st : GroupState
  n : Nat
  output : Bool
  strikes : Nat
  openFlag : Bool
  deriving DecidableEq, Repr

/-- A staged grant (08, 8.1). -/
structure Grant where
  grant : Nat
  epoch : Nat
  cyc : Nat
  deriving DecidableEq, Repr

/-- The heater switch (07, 7.1.1; 08, 8.1); `groups` holds group 0 to group 3. -/
structure Heater where
  demandT : Nat
  hold : Option Nat
  demandD : Nat
  rating : Nat
  staged : Option Grant
  applied : Nat
  source : GrantSource
  missed : Nat
  duty : Nat
  slot : Nat
  groups : List Group
  deriving DecidableEq, Repr

/-- A demand table record (07, 7.3.1). -/
structure DemandRecord where
  pos : Nat
  id : NodeId
  rating : Nat
  demand : Nat
  preferred : Bool
  age : Nat
  deriving DecidableEq, Repr

/-- A last allocation record (07, 7.3.1). -/
structure Allocation where
  cyc : Nat
  effective : Nat
  judged : Undervoltage
  total : Nat
  total1 : Nat
  total0 : Nat
  case : AllocCase
  remainder : Nat
  grants : List Nat
  deriving DecidableEq, Repr

/-- The heating allocator (07, 7.3.1). -/
structure Allocator where
  recs : List DemandRecord
  budget : Nat
  judged : Undervoltage
  effective : Nat
  last : Option Allocation
  deriving DecidableEq, Repr

/-- A sense channel: range gain, window (oldest first) and newest-code age in ms (09, 9.1). -/
structure Channel where
  gain : Nat
  window : List Code
  age : Option Nat
  deriving DecidableEq, Repr

/-- The on-window, on-sample count and output level of one group, as the converter holds them (09, 9.1). -/
structure OnWindow where
  window : List Code
  count : Nat
  level : Bool
  deriving DecidableEq, Repr

/-- An entry of the capture FIFO (09, 9.9). -/
structure Captured where
  channel : Nat
  code : Code
  idx : Nat
  slot : Nat
  deriving DecidableEq, Repr

/-- The sense converter (09, 9.1). `scan` is none in IDLE and the next channel in RUNNING. -/
structure Sense where
  mode : SenseMode
  stop : Nat
  selected : Nat
  interval : Nat
  pacer : Option Nat
  scan : Option Nat
  rotation : Nat
  conv : Option Nat
  channels : List Channel
  onWins : List OnWindow
  capture : Bool
  fifo : List Captured
  lost : Nat
  deriving DecidableEq, Repr

/-- One event counter: its recent part and its wide part (10, 10.1.1). -/
structure Counter where
  recent : Nat
  wide : Nat
  deriving DecidableEq, Repr

/-- The event counter array (10, 10.1.1); its size is the length of `counters` (R163). -/
structure Events where
  counters : List Counter
  exceptions : Nat
  deriving DecidableEq, Repr

/-- The notice unit (10, 10.2.1): bit n − 1 stands for flag n (12.7). -/
structure Notices where
  flags : BitVec 13
  enable : BitVec 13
  deriving DecidableEq, Repr

/-- Where a request came from, and so where its reply goes (R172): on the line, the port of arrival, the asker's node ID and the
direction of the request. -/
inductive Origin where
  | line (port : Port) (asker : NodeId) (dir : Dir)
  | coachLink
  deriving DecidableEq, Repr

/-- The stored image: the five tables and the notice enable mask (11, 11.3). -/
structure Image where
  tables : Tables
  enable : BitVec 13
  deriving DecidableEq, Repr

/-- State of the configuration store (R176): while WRITING, the image taken, and the asker and tag of the STORE to answer. -/
inductive StoreState where
  | idle
  | writing (image : Image) (origin : Origin) (tag : Nat)
  deriving DecidableEq, Repr

/-- The management unit and the configuration store (11); `image` is none while the stored image is invalid, `restart` the time left
before a pending restart takes effect. -/
structure Mgmt where
  working : Tables
  staging : Tables
  image : Option Image
  store : StoreState
  restart : Option Nat
  deriving DecidableEq, Repr

/-- The coach link (R179, R180). `asm` holds the bytes after the start byte of the message in assembly; `reserved` counts the places
reserved for replies; `backlog` the parts of a reply of more than 8 parts that have still to enter. -/
structure Link where
  asm : Option (List Byte)
  rx : List Message
  txQ : List Message
  sending : Option Message
  reserved : Nat
  backlog : List Message
  deriving DecidableEq, Repr

/-- The state of one CN32. -/
structure State where
  powered : Bool
  nodeId : NodeId
  strap : Bool
  portA : LinePort
  portB : LinePort
  delivered : List Delivery
  census : Census
  line : Supervisor
  doors : Doors
  summary : Summary
  heater : Heater
  alloc : Allocator
  sense : Sense
  events : Events
  notices : Notices
  mgmt : Mgmt
  link : Link
  freeCount : Nat
  pending : List Instr
  deriving DecidableEq, Repr

/-! ## Defaults of the loadable tables -/

/-- Default COACH table (11, 11.2). -/
def CoachTable.default : CoachTable :=
  { drivable := false, cabEnd := .one, endSwap := false, remoteConfig := false, arraySize := 32 }

/-- Default DOOR table (R103). -/
def DoorTable.default : DoorTable :=
  { count1 := 0, count2 := 0, warnLead := 30, warnMode := .steady, closeTimeout := 10, maxRelease := 0 }

/-- Default HEAT table (R119, R136). -/
def HeatTable.default : HeatTable :=
  { enabled := true, g0 := 0, g1 := 0, g2 := 0, g3 := 0, preferred := false, fallbackCap := 40, derate := 40,
    defaultBudget := 2000, undervolt := 800 }

/-- Default CLASS entry of classes 0 to 11 (R21). -/
def ClassEntry.defaultFixed : ClassEntry :=
  { action := .both, urgent := false, restrict := .any, needsSettled := false, countCode := none }

/-- Default CLASS entry of classes 12 to 31 (R21). -/
def ClassEntry.defaultData : ClassEntry :=
  { action := .both, urgent := false, restrict := .any, needsSettled := true, countCode := none }

/-- Default SENSE table (R158). -/
def SenseTable.default : SenseTable :=
  { mode := .scanCont, stop := 7, selected := 0, interval := 2, gains := List.replicate 8 1 }

/-- The defaults of the five tables (R178). -/
def Tables.default : Tables :=
  { coach := .default, door := .default, heat := .default,
    cls := List.replicate 12 .defaultFixed ++ List.replicate 20 .defaultData, sense := .default }

/-! ## Reset states of the blocks -/

/-- An end unit and its queues after a reset (R1, R16); the presence tone runs (R3). -/
def LinePort.reset : LinePort :=
  { pilot := .parted, good := 0, bad := 0, edges := 0, tx := none, rx := none, tone := true, urgentQ := [], normalQ := [] }

/-- The census controller after a reset (R32). -/
def Census.reset : Census :=
  { cs := .detached, lead := .off, table := none, epoch := 0, lastEpoch := 0, position := 0, orient := .normal, leadEnd := none,
    tag := none, attemptNo := 0, attemptCtr := 0, timer := none, hold := none, cab := false, cabRefused := false,
    failure := .none, staleArmed := true }

/-- The line supervisor after a reset (R60). -/
def Supervisor.reset : Supervisor :=
  { idx := 0, cyc := 0, tick := 0, lastStart := none, sup := .none, timer := none, flag := false, zsp := false, permit := false,
    beaconOn := false }

/-- A door side after a reset, in state `st` with loop level `loop` (R72). -/
def DoorSide.reset (st : SideState) (loop : Bool) : DoorSide :=
  { st := st, cause := .none, refusal := .none, order := none, timer := none, phase := false, mode := .steady, loop := loop,
    openN := 0, obstrN := 0, rel := false, warn := false }

/-- The door summary after a reset (R104). -/
def Summary.reset : Summary := { recs := [], proven := false }

/-- A heater group after a reset, in state `st` (R135). -/
def Group.reset (st : GroupState) : Group := { st := st, n := 0, output := false, strikes := 0, openFlag := false }

/-- The heater switch after a reset, with its groups and rating as given (R114, R135). -/
def Heater.reset (groups : List Group) (rating : Nat) : Heater :=
  { demandT := 0, hold := none, demandD := 0, rating := rating, staged := none, applied := 0, source := .fallback, missed := 3,
    duty := 0, slot := 0, groups := groups }

/-- The heating allocator after a reset with default budget `b` (R122, R126). -/
def Allocator.reset (b : Nat) : Allocator := { recs := [], budget := b, judged := .normal, effective := b, last := none }

/-- The sense converter after a reset, with its settings as given (R150). -/
def Sense.reset (t : SenseTable) : Sense :=
  { mode := t.mode, stop := t.stop, selected := t.selected, interval := t.interval,
    pacer := if t.mode = .singleCont ∨ t.mode = .scanCont then some t.interval else none,
    scan := none, rotation := 0, conv := none,
    channels := t.gains.map fun g => { gain := g, window := [], age := none },
    onWins := List.replicate 4 { window := [], count := 0, level := false },
    capture := false, fifo := [], lost := 0 }

/-- The counters after power-on: `size` of them, each 0 (R163). -/
def Events.reset (size : Nat) : Events := { counters := List.replicate size { recent := 0, wide := 0 }, exceptions := 0 }

/-- The coach link after a reset (R179, R180). -/
def Link.reset : Link := { asm := none, rx := [], txQ := [], sending := none, reserved := 0, backlog := [] }

/-- The NOTICE message that the first start-up sends (R167, R169): node ID 0, position 0, flag 12, the flag set with CONFIG_DEFAULTED
alone, last failure reason NONE. -/
def firstNotice : Message := { kind := 0x82, payload := [0, 0, 0, 0, 0, 12, 8, 0, 0] }

/-- The node right after its first power-on (R178): no stored image, so that the defaults are in force and CONFIG_DEFAULTED has
arisen. Node ID, strap level, loop levels and the invalid image are DESIGN CHOICES (log 5). -/
def State.reset : State :=
  { powered := true
    nodeId := 0
    strap := false
    portA := .reset
    portB := .reset
    delivered := []
    census := .reset
    line := .reset
    doors := { side1 := .reset .absent false, side2 := .reset .absent false, derate := false }
    summary := .reset
    heater := .reset (List.replicate 4 (.reset .notFitted)) 0
    alloc := .reset 2000
    sense := .reset .default
    events := .reset 32
    notices := { flags := 0x800, enable := 0x1FFF }
    mgmt := { working := .default, staging := .default, image := none, store := .idle, restart := none }
    link := { Link.reset with sending := some firstNotice }
    freeCount := 0
    pending := [] }

end Sys2Proof.Machine
end

