-- ==== Sys2Proof/Machine/Format.lean ====
section
/-! DEFINITION. The byte formats of chapter 12: byte order, the CRC, the line frame, the coach link message, census entries and
attempt tags, and the one-byte codes of the enumerated values (12.7). -/

namespace Sys2Proof.Machine

/-! ## Bytes and byte order (R181: most significant byte first) -/

/-- One byte holding the low 8 bits of a number. -/
def byte (n : Nat) : Byte := BitVec.ofNat 8 n

/-- Two bytes, most significant first. -/
def be16 (n : Nat) : List Byte := [byte (n / 256), byte n]

/-- Four bytes, most significant first. -/
def be32 (n : Nat) : List Byte := [byte (n / 16777216), byte (n / 65536), byte (n / 256), byte n]

/-- The number two bytes hold. -/
def u16 (h l : Byte) : Nat := h.toNat * 256 + l.toNat

/-- The 32-bit field four bytes hold. -/
def u32 (a b c d : Byte) : BitVec 32 :=
  BitVec.ofNat 32 (((a.toNat * 256 + b.toNat) * 256 + c.toNat) * 256 + d.toNat)

/-- The four bytes of a 32-bit field. -/
def idBytes (i : BitVec 32) : List Byte := be32 i.toNat

/-- A code of the sense converter in two bytes, two's complement (R183). -/
def codeBytes (c : Int) : List Byte := be16 (c.emod 65536).toNat

/-- An item of two states in one byte (R183). -/
def boolByte (b : Bool) : Byte := if b then 1 else 0

/-- An item that may be absent: 0, or 1 and its value (R183). -/
def optBytes {α : Type} (enc : α → List Byte) : Option α → List Byte
  | none => [0]
  | some a => 1 :: enc a

/-- A time remaining in 4 bytes, or the mark that there is none (R183). -/
def timeBytes (t : Option Nat) : List Byte := optBytes be32 t

/-! ## The CRC (R181) -/

/-- One bit of the CRC: shift out, and combine with 1021h where the bit shifted out differs from the data bit. -/
def crcBit (r : BitVec 16) (b : Bool) : BitVec 16 :=
  if r.getLsbD 15 != b then (r <<< 1) ^^^ 0x1021#16 else r <<< 1

/-- One byte of the CRC, most significant bit first. -/
def crcByte (r : BitVec 16) (x : Byte) : BitVec 16 :=
  [7, 6, 5, 4, 3, 2, 1, 0].foldl (fun acc i => crcBit acc (x.getLsbD i)) r

/-- The CRC over a list of bytes, from FFFFh. -/
def crc16 (bs : List Byte) : BitVec 16 := bs.foldl crcByte 0xFFFF#16

/-- The CRC as it is placed: most significant byte first. -/
def crcBytes (bs : List Byte) : List Byte := be16 (crc16 bs).toNat

/-! ## Codes of enumerated values (12.7 and the tables of the fields) -/

/-- Direction bits of the frame flags (12.2). -/
def Dir.code : Dir → Nat
  | .away => 1
  | .toward => 2

/-- The opposite direction (R172). -/
def Dir.opposite : Dir → Dir
  | .away => .toward
  | .toward => .away

/-- The direction two bits name; 00 and 11 name none (12.2). -/
def Dir.ofCode : Nat → Option Dir
  | 1 => some .away
  | 2 => some .toward
  | _ => none

/-- Destination kind codes (12.2). -/
def DestKind.code : DestKind → Nat
  | .broadcast => 1
  | .position => 2
  | .nodeId => 3
  | .lead => 4

/-- The destination kind a code names (12.2). -/
def DestKind.ofCode : Nat → Option DestKind
  | 1 => some .broadcast
  | 2 => some .position
  | 3 => some .nodeId
  | 4 => some .lead
  | _ => none

/-- Orientation codes (12.7). -/
def Orientation.code : Orientation → Nat
  | .normal => 0
  | .reversed => 1

/-- Census state codes (12.7). -/
def CensusState.code : CensusState → Nat
  | .detached => 0
  | .survey => 1
  | .settled => 2
  | .stale => 3

/-- Lead census state codes (12.7). -/
def LeadState.code : LeadState → Nat
  | .off => 0
  | .calling => 1
  | .holding => 2
  | .blocked => 3

/-- Failure reason codes (12.7). -/
def Failure.code : Failure → Nat
  | .none => 0
  | .cabCoupled => 1
  | .noReturn => 2
  | .tooLong => 3
  | .duplicateId => 4
  | .twoLeads => 5

/-- Topology kind codes (12.7). -/
def TopologyKind.code : TopologyKind → Nat
  | .matedOn => 1
  | .matedOff => 2
  | .numbering => 3
  | .cabEnd => 4
  | .epochMismatch => 5
  | .announceMismatch => 6
  | .notInTable => 7

/-- End codes; 0 is unknown (12.7). -/
def endCode : Option EndNo → Nat
  | none => 0
  | some .one => 1
  | some .two => 2

/-- Supervision state codes (12.7). -/
def Supervision.code : Supervision → Nat
  | .none => 0
  | .live => 1
  | .lost => 2

/-- Train side codes (12.7). -/
def TrainSide.code : TrainSide → Nat
  | .left => 0
  | .right => 1

/-- The train side a code names (12.7). -/
def TrainSide.ofCode : Nat → Option TrainSide
  | 0 => some .left
  | 1 => some .right
  | _ => none

/-- Door action codes (12.7). -/
def DoorAction.code : DoorAction → Nat
  | .release => 0
  | .close => 1

/-- The door action a code names (12.7). -/
def DoorAction.ofCode : Nat → Option DoorAction
  | 0 => some .release
  | 1 => some .close
  | _ => none

/-- Side state codes (12.7). -/
def SideState.code : SideState → Nat
  | .absent => 0
  | .locked => 1
  | .released => 2
  | .warning => 3
  | .closing => 4
  | .fault => 5

/-- The side state a code names (12.7; 6 is NOT_REPORTED, which no frame carries). -/
def SideState.ofCode : Nat → Option SideState
  | 0 => some .absent
  | 1 => some .locked
  | 2 => some .released
  | 3 => some .warning
  | 4 => some .closing
  | 5 => some .fault
  | _ => none

/-- Side state codes of a door summary record (12.7). -/
def SummaryState.code : SummaryState → Nat
  | .notReported => 6
  | .reported st => st.code

/-- Recorded cause codes (12.7). -/
def Cause.code : Cause → Nat
  | .none => 0
  | .zeroSpeedLost => 1
  | .lineLost => 2
  | .consistChanged => 3
  | .closeOrder => 4
  | .releaseTimeout => 5

/-- The recorded cause a code names (12.7). -/
def Cause.ofCode : Nat → Option Cause
  | 0 => some .none
  | 1 => some .zeroSpeedLost
  | 2 => some .lineLost
  | 3 => some .consistChanged
  | 4 => some .closeOrder
  | 5 => some .releaseTimeout
  | _ => none

/-- Last refusal codes (12.7). -/
def DoorRefusal.code : DoorRefusal → Nat
  | .none => 0
  | .notSettled => 1
  | .epochMismatch => 2
  | .noDoors => 3
  | .noZeroSpeed => 4

/-- The last refusal a code names (12.7). -/
def DoorRefusal.ofCode : Nat → Option DoorRefusal
  | 0 => some .none
  | 1 => some .notSettled
  | 2 => some .epochMismatch
  | 3 => some .noDoors
  | 4 => some .noZeroSpeed
  | _ => none

/-- Group state codes (12.7). -/
def GroupState.code : GroupState → Nat
  | .notFitted => 0
  | .enabled => 1
  | .failed => 2

/-- Grant source codes (12.7). -/
def GrantSource.code : GrantSource → Nat
  | .onTime => 0
  | .late => 1
  | .held => 2
  | .fallback => 3

/-- Undervoltage judgement codes (12.7). -/
def Undervoltage.code : Undervoltage → Nat
  | .normal => 0
  | .undervoltage => 1
  | .skippedUnsupervised => 2
  | .skippedStale => 3

/-- Allocation case codes (12.7). -/
def AllocCase.code : AllocCase → Nat
  | .unscaled => 0
  | .class0Scaled => 1
  | .class1Scaled => 2

/-- Sense mode codes (R158). -/
def SenseMode.code : SenseMode → Nat
  | .single => 0
  | .singleCont => 1
  | .scan => 2
  | .scanCont => 3

/-- The sense mode a code names (R158). -/
def SenseMode.ofCode : Nat → Option SenseMode
  | 0 => some .single
  | 1 => some .singleCont
  | 2 => some .scan
  | 3 => some .scanCont
  | _ => none

/-- Warning mode codes (R103). -/
def WarnMode.code : WarnMode → Nat
  | .steady => 0
  | .pulsed => 1

/-- Class table action codes (R21). -/
def ClassAction.code : ClassAction → Nat
  | .relay => 0
  | .deliver => 1
  | .both => 2
  | .drop => 3

/-- Direction restriction codes (R21). -/
def Restriction.code : Restriction → Nat
  | .any => 0
  | .awayOnly => 1
  | .towardOnly => 2

/-! ## The line frame (12.2) -/

/-- The 16 header bytes of a frame (12.2). Unassigned bits are sent as 0 (R181). -/
def Frame.header (f : Frame) : List Byte :=
  [byte f.cls, byte ((if f.urgent then 128 else 0) + f.dir.code), byte f.hop, byte f.epoch, byte f.srcPos, byte f.destKind.code]
    ++ idBytes f.srcId ++ idBytes f.destVal ++ be16 f.payload.length

/-- The bytes of a frame as a transmitter sends them: header, payload and the CRC over both (R13, R181). -/
def Frame.encode (f : Frame) : List Byte := f.header ++ f.payload ++ crcBytes (f.header ++ f.payload)

/-- What the three checks of an end unit find (R9 to R11). -/
inductive Checked where
  /-- Fails integrity or a field range: counted at code 0 (R9, R10). -/
  | bad
  /-- Fails the hop limit: counted at code 1 (R11). -/
  | hopLimit
  /-- Passes: the frame handed to the relay unit (R12). -/
  | good (f : Frame)
  deriving DecidableEq, Repr

/-- Integrity (R9): at least header and CRC, not overlong, byte count as the payload length field says, CRC as carried. -/
def soundFrameBytes (bytes : List Byte) (overlong : Bool) : Bool :=
  !overlong && decide (18 ≤ bytes.length)
    && decide (bytes.length = 18 + u16 (bytes.getD 14 0) (bytes.getD 15 0))
    && decide (crcBytes (bytes.take (bytes.length - 2)) = bytes.drop (bytes.length - 2))

/-- Field ranges and hop limit of a frame whose bytes passed R9 (R10, R11). Unassigned bits are not read (R181). -/
def checkFields (bytes : List Byte) : Checked :=
  let at' := fun i => bytes.getD i 0
  let flags := (at' 1).toNat
  let kind := DestKind.ofCode (at' 5).toNat
  let value := u32 (at' 10) (at' 11) (at' 12) (at' 13)
  match Dir.ofCode (flags % 4), kind with
  | some dir, some k =>
    if 31 < (at' 0).toNat ∨ 32 < (at' 4).toNat ∨ (k = .position ∧ (value.toNat < 1 ∨ 32 < value.toNat)) then .bad
    else if 40 ≤ (at' 2).toNat then .hopLimit
    else .good
      { cls := (at' 0).toNat, urgent := decide (128 ≤ flags), dir := dir, hop := (at' 2).toNat, epoch := (at' 3).toNat,
        srcPos := (at' 4).toNat, destKind := k, destVal := value, srcId := u32 (at' 6) (at' 7) (at' 8) (at' 9),
        payload := (bytes.drop 16).take (bytes.length - 18) }
  | _, _ => .bad

/-- The three checks on a closed assembly, in order (R8 to R11). -/
def checkFrame (a : Assembly) : Checked :=
  if soundFrameBytes a.bytes a.overlong then checkFields a.bytes else .bad

/-- A frame whose fields lie in the ranges of the line frame (12.2), as a node sends it. -/
def Frame.wellFormed (f : Frame) : Bool :=
  decide (f.cls ≤ 31) && decide (f.hop ≤ 40) && decide (f.epoch ≤ 255) && decide (f.srcPos ≤ 32)
    && decide (f.payload.length ≤ 264)
    && (f.destKind != .position || (decide (1 ≤ f.destVal.toNat) && decide (f.destVal.toNat ≤ 32)))

/-- Bytes stored by an assembly: up to the largest frame; bytes beyond it are not stored and make it overlong (R8). -/
def Assembly.extend (a : Assembly) (more : List Byte) : Assembly :=
  let all := a.bytes ++ more
  { bytes := all.take Config.maxFrameBytes, overlong := a.overlong || decide (Config.maxFrameBytes < all.length) }

/-- An assembly that has just begun (R8). -/
def Assembly.empty : Assembly := { bytes := [], overlong := false }

/-! ## Census payloads (12.3, R182) -/

/-- The five bytes of an attempt tag (12.3). -/
def Tag.bytes (t : Tag) : List Byte := idBytes t.lead ++ [byte t.attempt]

/-- The eight bytes of a census entry (12.3). -/
def Entry.bytes (e : Entry) : List Byte :=
  idBytes e.id
    ++ [byte (e.orient.code + (if e.drivable then 2 else 0) + (if e.heating then 4 else 0) + (if e.preferred then 8 else 0)),
        byte (e.doors1 + 16 * e.doors2)]
    ++ be16 e.rating

/-- A census entry read from its eight bytes; door counts above 8 read as 8, a rating above 2047 as 2047 (R182). -/
def readEntry (a b c d flags doors h l : Byte) : Entry :=
  { id := u32 a b c d
    orient := if flags.getLsbD 0 then .reversed else .normal
    drivable := flags.getLsbD 1
    heating := flags.getLsbD 2
    preferred := flags.getLsbD 3
    doors1 := min 8 (doors.toNat % 16)
    doors2 := min 8 (doors.toNat / 16)
    rating := min 2047 (u16 h l) }

/-- The whole census entries that a list of bytes holds (R182). -/
def readEntries : List Byte → List Entry
  | a :: b :: c :: d :: e :: f :: g :: h :: rest => readEntry a b c d e f g h :: readEntries rest
  | _ => []

/-- The bytes of an entry list. -/
def entriesBytes (es : List Entry) : List Byte := es.flatMap Entry.bytes

/-- Whether bytes after the fixed part hold a whole number of entries, as many as the count field says (R182). -/
def countMatches (count : Nat) (bytes : List Byte) : Bool :=
  decide (bytes.length % 8 = 0) && decide (bytes.length / 8 = count)

/-! ## The coach link message (12.6) -/

/-- The start byte of a coach link message. -/
def startByte : Byte := 0xA5

/-- The bytes of a coach link message as the node sends it (12.6). -/
def Message.encode (m : Message) : List Byte :=
  let body := byte m.payload.length :: byte m.kind :: m.payload
  startByte :: (body ++ crcBytes body)

/-- Whether the bytes after the start byte make a complete message: length, type, the payload the length byte gives, CRC (R179). -/
def messageComplete (bs : List Byte) : Bool :=
  match bs with
  | [] => false
  | len :: _ => decide (bs.length = len.toNat + 4)

/-- The check of a complete message (R179): length byte at most 72, CRC as carried, a type the node takes. -/
def checkMessage (bs : List Byte) : Option Message :=
  let len := (bs.getD 0 0).toNat
  let kind := (bs.getD 1 0).toNat
  if len ≤ Config.maxMessagePayload ∧ crcBytes (bs.take (len + 2)) = bs.drop (len + 2) ∧ 1 ≤ kind ∧ kind ≤ 5 then
    some { kind := kind, payload := (bs.drop 2).take len }
  else none

end Sys2Proof.Machine
end

