-- ==== Sys2Proof/Machine/Operands.lean ====
section
/-! DEFINITION. What frames and messages carry: each payload read by the layout chapter 12 gives it. A reader answers none where the
payload's length is not that of its layout (R181). -/

namespace Sys2Proof.Machine

/-- A BEACON payload (12.4). -/
structure BeaconIn where
  idx : Nat
  cyc : Nat
  flag : Bool

/-- BEACON: 7 bytes; the lead node ID is not read by any rule. -/
def readBeacon : List Byte → Option BeaconIn
  | [i, c, f, _, _, _, _] => some { idx := i.toNat, cyc := c.toNat, flag := f.getLsbD 0 }
  | _ => none

/-- A door order as it reaches a door controller (05, 5.4); the train side or action is none where it names no valid value. -/
structure OrderIn where
  side : Option TrainSide
  action : Option DoorAction
  first : Nat
  last : Nat
  epoch : Nat

/-- DOOR_ORDER: 5 bytes (12.8). -/
def readDoorOrder : List Byte → Option OrderIn
  | [s, a, f, l, e] =>
    some { side := TrainSide.ofCode s.toNat, action := DoorAction.ofCode a.toNat, first := f.toNat, last := l.toNat, epoch := e.toNat }
  | _ => none

/-- A side's five items in a DOOR_STATE payload, none where one of them is out of its range (R107, test 5). -/
def readSideReport (st cause refusal o b : Byte) : Option SideReport :=
  match SideState.ofCode st.toNat, Cause.ofCode cause.toNat, DoorRefusal.ofCode refusal.toNat with
  | some st, some cause, some refusal =>
    if o.toNat ≤ 8 ∧ b.toNat ≤ 8 then
      some { st := .reported st, cause := cause, refusal := refusal, openN := o.toNat, obstrN := b.toNat }
    else none
  | _, _, _ => none

/-- A DOOR_STATE payload (R100). -/
structure DoorStateIn where
  pos : Nat
  epoch : Nat
  side1 : Option SideReport
  side2 : Option SideReport
  permit : Bool

/-- DOOR_STATE: 13 bytes (12.8). -/
def readDoorState : List Byte → Option DoorStateIn
  | [p, e, a1, b1, c1, d1, e1, a2, b2, c2, d2, e2, f] =>
    some { pos := p.toNat, epoch := e.toNat, side1 := readSideReport a1 b1 c1 d1 e1, side2 := readSideReport a2 b2 c2 d2 e2,
           permit := f.getLsbD 0 }
  | _ => none

/-- A HEAT_DEMAND payload (R121); the cycle number is not tested (R124). -/
structure DemandIn where
  pos : Nat
  epoch : Nat
  rating : Nat
  demand : Nat
  priority : Nat

/-- HEAT_DEMAND: 7 bytes (12.8). -/
def readHeatDemand : List Byte → Option DemandIn
  | [p, e, _, r1, r0, d, pr] =>
    some { pos := p.toNat, epoch := e.toNat, rating := u16 r1 r0, demand := d.toNat, priority := pr.toNat }
  | _ => none

/-- The whole grants a list of bytes holds (R182). -/
def readGrants : List Byte → List Nat
  | h :: l :: rest => u16 h l :: readGrants rest
  | _ => []

/-- A HEAT_GRANT payload (12.4). -/
structure GrantIn where
  epoch : Nat
  cyc : Nat
  n : Nat
  grants : List Nat

/-- HEAT_GRANT: a fixed part of 3 bytes, then the grants (12.4, R182). What follows the last of its N grants is not read (log 37). -/
def readHeatGrant : List Byte → Option GrantIn
  | e :: c :: n :: rest => some { epoch := e.toNat, cyc := c.toNat, n := n.toNat, grants := readGrants rest }
  | _ => none

/-- A CENSUS_CALL payload: the attempt tag and the entries that follow the count (12.3; log 11). -/
structure CallIn where
  tag : Tag
  entries : List Entry

/-- CENSUS_CALL: a fixed part of 6 bytes, then the entries (12.3). -/
def readCall : List Byte → Option CallIn
  | a :: b :: c :: d :: t :: _ :: rest =>
    some { tag := { lead := u32 a b c d, attempt := t.toNat }, entries := readEntries rest }
  | _ => none

/-- A CENSUS_RETURN payload (12.3); `counted` says that the count field equals the number of entries (R182). -/
structure ReturnIn where
  tag : Tag
  status : Nat
  counted : Bool
  entries : List Entry

/-- CENSUS_RETURN: a fixed part of 7 bytes, then the entries (12.3). -/
def readReturn : List Byte → Option ReturnIn
  | a :: b :: c :: d :: t :: st :: n :: rest =>
    some { tag := { lead := u32 a b c d, attempt := t.toNat }, status := st.toNat, counted := countMatches n.toNat rest,
           entries := readEntries rest }
  | _ => none

/-- A CONSIST_ANNOUNCE payload (12.3). -/
structure AnnounceIn where
  epoch : Nat
  tag : Tag
  counted : Bool
  entries : List Entry

/-- CONSIST_ANNOUNCE: a fixed part of 7 bytes, then the entries (12.3). -/
def readAnnounce : List Byte → Option AnnounceIn
  | e :: a :: b :: c :: d :: t :: n :: rest =>
    some { epoch := e.toNat, tag := { lead := u32 a b c d, attempt := t.toNat }, counted := countMatches n.toNat rest,
           entries := readEntries rest }
  | _ => none

/-- The two status lists of a DOOR_REPORT payload (12.9): none where the length is not what its counts give. -/
def readDoorReport : List Byte → Option (List Byte × List Byte)
  | [] => none
  | n1 :: rest =>
    match rest.drop n1.toNat with
    | [] => none
    | n2 :: rest2 =>
      if n1.toNat ≤ rest.length ∧ rest2.length = n2.toNat then some (rest.take n1.toNat, rest2) else none

/-- A COACH_DATA_SEND payload (12.9). -/
structure DataSendIn where
  cls : Nat
  kind : Option DestKind
  value : BitVec 32
  payload : List Byte

/-- COACH_DATA_SEND: a fixed part of 6 bytes, then the frame's payload (12.9). -/
def readDataSend : List Byte → Option DataSendIn
  | c :: k :: v3 :: v2 :: v1 :: v0 :: rest =>
    some { cls := c.toNat, kind := DestKind.ofCode k.toNat, value := u32 v3 v2 v1 v0, payload := rest }
  | _ => none

/-- A management request (12.5). -/
structure Request where
  kind : Nat
  tag : Nat
  args : List Byte
  deriving DecidableEq, Repr

/-- A request envelope: type and tag in 3 bytes, then the arguments (12.5). -/
def readRequest : List Byte → Option Request
  | t :: h :: l :: args => some { kind := t.toNat, tag := u16 h l, args := args }
  | _ => none

/-- The values of two bytes each that LOAD TABLE carries (12.10); none where a byte is left over. -/
def readValues : List Byte → Option (List Nat)
  | [] => some []
  | h :: l :: rest => (readValues rest).map (u16 h l :: ·)
  | [_] => none

end Sys2Proof.Machine
end

