-- ==== Sys2Proof/Machine/Flags.lean ====
section
/-! DEFINITION. The event counter array (R164) and the bits of the notice flags (10.2.1, 12.7), on their own records. -/

namespace Sys2Proof.Machine

/-- The number of a notice flag, 1 to 13 (10.2.1). -/
def Flag.number : Flag → Nat
  | .topology => 1
  | .censusFailed => 2
  | .lineLost => 3
  | .doorRefused => 4
  | .doorFault => 5
  | .doorForced => 6
  | .groupFailed => 7
  | .groupOpen => 8
  | .senseDegraded => 9
  | .framesDropped => 10
  | .counterException => 11
  | .configDefaulted => 12
  | .captureHalf => 13

/-- The bit of a flag in a flag set: bit n − 1 stands for flag n (12.7). -/
def Flag.mask (f : Flag) : BitVec 13 := 1#13 <<< (f.number - 1)

/-- Whether a flag set holds a flag. -/
def hasFlag (set : BitVec 13) (f : Flag) : Bool := set.getLsbD (f.number - 1)

/-- A counter one higher: the recent part wraps into the wide part, the wide part to 0 (R164). -/
def Counter.up (c : Counter) : Counter :=
  if c.recent = 65535 then { recent := 0, wide := (c.wide + 1) % 65536 } else { c with recent := c.recent + 1 }

/-- An event counted at a code: its counter, or the exception count when the code is at or above the array size (R164). -/
def Events.bump (e : Events) (code : Nat) : Events :=
  if code < e.counters.length then { e with counters := e.counters.modify code Counter.up }
  else { e with exceptions := (e.exceptions + 1) % 4294967296 }

/-- The array converted to a new size (R163): common codes keep their counters, new codes start at 0. -/
def Events.resize (e : Events) (size : Nat) : Events :=
  { e with counters := e.counters.take size ++ List.replicate (size - e.counters.length) { recent := 0, wide := 0 } }

/-- Every counter and the exception count set to 0 (R166). -/
def Events.clear (e : Events) : Events :=
  { counters := e.counters.map fun _ => { recent := 0, wide := 0 }, exceptions := 0 }

end Sys2Proof.Machine
end

