-- ==== Sys2Proof/Machine/Ops.lean ====
section
/-! DEFINITION. The operations that all blocks share: ports and end numbers (R2), the relay queues and transmitters (R13, R27, R28),
the coach link transmit queue (R180), counting events (R164), raising notice conditions (R168, R169), sending line frames (R26) and
taking delivered frames. -/

namespace Sys2Proof.Machine

/-! ## Ports, ends and standing -/

/-- The opposite port. -/
def otherPort : Port → Port
  | .a => .b
  | .b => .a

/-- The opposite end. -/
def EndNo.other : EndNo → EndNo
  | .one => .two
  | .two => .one

/-- The end unit and queues of a physical port. -/
def State.port (s : State) : Port → LinePort
  | .a => s.portA
  | .b => s.portB

/-- Put back the end unit and queues of a physical port. -/
def State.setPort (s : State) (p : Port) (x : LinePort) : State :=
  match p with
  | .a => { s with portA := x }
  | .b => { s with portB := x }

/-- The physical port that carries an end number now: end 1 is port A when strap XOR end-swap bit is 0 (R2). -/
def State.endPort (s : State) (e : EndNo) : Port :=
  if (s.strap ^^ s.mgmt.working.coach.endSwap) then
    match e with
    | .one => .b
    | .two => .a
  else
    match e with
    | .one => .a
    | .two => .b

/-- The end number a physical port carries now (R2). -/
def State.portEnd (s : State) (p : Port) : EndNo := if s.endPort .one = p then .one else .two

/-- Whether a port's end is MATED. -/
def State.mated (s : State) (p : Port) : Bool := decide ((s.port p).pilot = .mated)

/-- Whether the node holds the lead role: CALLING, HOLDING or BLOCKED (03, 3.2). -/
def State.isLead (s : State) : Bool := decide (s.census.lead ≠ .off)

/-- Whether the node is SETTLED. -/
def State.settled (s : State) : Bool := decide (s.census.cs = .settled)

/-- Whether the node's lead census state is HOLDING. -/
def State.holding (s : State) : Bool := decide (s.census.lead = .holding)

/-- The port at the cab end, as numbered now. -/
def State.cabPort (s : State) : Port := s.endPort s.mgmt.working.coach.cabEnd

/-- The port at the non-cab end, as numbered now. -/
def State.nonCabPort (s : State) : Port := s.endPort s.mgmt.working.coach.cabEnd.other

/-- The position a frame or notice of this node carries: the recorded position if SETTLED, 0 otherwise (R26, R169). -/
def State.shownPosition (s : State) : Nat := if s.settled then s.census.position else 0

/-- The epoch of frames that carry the installed epoch if SETTLED and 0 otherwise (R27a, R169, R172). -/
def State.shownEpoch (s : State) : Nat := if s.settled then s.census.epoch else 0

/-- The next free value and its use noted (log 22). -/
def State.drawFree (s : State) : Byte × State := (Config.freeByte s.freeCount, { s with freeCount := s.freeCount + 1 })

/-! ## Relay queues and transmitters -/

/-- An IDLE transmitter of a MATED end takes the head of the urgent queue, or else of the normal queue (R13, R28). -/
def LinePort.takeNext (x : LinePort) : LinePort :=
  if x.pilot = .mated ∧ x.tx = none then
    match x.urgentQ, x.normalQ with
    | f :: q, _ => { x with tx := some f, urgentQ := q }
    | [], f :: q => { x with tx := some f, normalQ := q }
    | [], [] => x
  else x

/-- A frame offered to a queue with room: it enters at the tail, and an idle transmitter takes it at once; none when the queue is
full (R27, R28). -/
def LinePort.enqueue (x : LinePort) (urgent : Bool) (f : Frame) : Option LinePort :=
  if urgent then
    if x.urgentQ.length < Config.urgentCapacity then some { x with urgentQ := x.urgentQ ++ [f] }.takeNext else none
  else
    if x.normalQ.length < Config.normalCapacity then some { x with normalQ := x.normalQ ++ [f] }.takeNext else none

/-- A frame offered to a queue of a port; a full queue drops it at code 3 (urgent) or code 2 (normal) (R27). `count` counts an
event. -/
def State.offer (count : Nat → State → State) (p : Port) (urgent : Bool) (f : Frame) (s : State) : State :=
  match (s.port p).enqueue urgent f with
  | some x => s.setPort p x
  | none => count (if urgent then 3 else 2) s

/-- A frame sent by one named end: when that end is not MATED it is discarded, without a count if BROADCAST, at code 4 otherwise
(R26). -/
def State.sendOne (count : Nat → State → State) (p : Port) (urgent : Bool) (f : Frame) (s : State) : State :=
  if s.mated p then s.offer count p urgent f
  else if f.destKind = .broadcast then s
  else count 4 s

/-- A copy for one of two named ends: made only if that end is MATED (R26). -/
def State.sendCopy (count : Nat → State → State) (p : Port) (urgent : Bool) (f : Frame) (s : State) : State :=
  if s.mated p then s.offer count p urgent f else s

/-- The end or ends by which an originated frame leaves (R26). -/
inductive Leave where
  | one (port : Port)
  | both
  deriving DecidableEq, Repr

/-- Whether the destination test of R18 gives deliver without relay at this node. -/
def State.isOwnDestination (s : State) (kind : DestKind) (val : BitVec 32) : Bool :=
  match kind with
  | .broadcast => false
  | .position => s.settled && decide (val.toNat = s.census.position)
  | .nodeId => decide (val = s.nodeId)
  | .lead => decide (s.census.lead = .calling ∨ s.census.lead = .holding)

/-- The queue of a class: urgent for classes 0 to 6, normal for 7 to 11 (R20), the entry's urgency for coach data (R22). -/
def State.classUrgent (s : State) (cls : Nat) : Bool :=
  if cls ≤ 6 then true
  else if cls ≤ 11 then false
  else (s.mgmt.working.cls.getD cls ClassEntry.defaultData).urgent

/-- What a block gives the relay unit when it sends a frame (R26). -/
structure Sending where
  cls : Nat
  dir : Dir
  epoch : Nat
  destKind : DestKind
  destVal : BitVec 32
  payload : List Byte

/-- The frame as the relay unit completes it: hop count 0, the node's own source fields, the urgent flag of its class (R26). -/
def State.complete (s : State) (m : Sending) : Frame :=
  { cls := m.cls, urgent := s.classUrgent m.cls, dir := m.dir, hop := 0, epoch := m.epoch, srcPos := s.shownPosition,
    destKind := m.destKind, destVal := m.destVal, srcId := s.nodeId, payload := m.payload }

/-- A frame the node originates: not sent when this node alone is its destination, else completed and placed in the queues of the
ends named; with both ends named, end 1 is served first (R26; log 20), and a drop there sends its NOTICE before end 2 is offered its copy
(log 36). -/
def State.originateWith (count : Nat → State → State) (m : Sending) (by' : Leave) (s : State) : State :=
  if s.isOwnDestination m.destKind m.destVal then s
  else
    let f := s.complete m
    match by' with
    | .one p => s.sendOne count p f.urgent f
    | .both =>
      let p := s.endPort .one
      (s.sendCopy count p f.urgent f).sendCopy count (otherPort p) f.urgent f

/-! ## The coach link transmit queue (R179, R180) -/

/-- Free places of the transmit queue that are not reserved (R179). -/
def Link.free (l : Link) : Nat := Config.txPlaces - l.txQ.length - l.reserved

/-- An idle transmitter of the coach link begins the oldest message; the place it leaves goes to a part still to enter (R179,
R180). -/
def Link.start (l : Link) : Link :=
  match l.sending, l.txQ with
  | none, m :: q =>
    match l.backlog with
    | [] => { l with sending := some m, txQ := q }
    | b :: bs => { l with sending := some m, txQ := q ++ [b], backlog := bs }
  | _, _ => l

/-- A message enters at the tail (R180). -/
def Link.enter (l : Link) (m : Message) : Link := { l with txQ := l.txQ ++ [m] }.start

/-- A message offered to the coach link; a queue without a free place drops it at code 15 (R180). -/
def State.offerMessage (count : Nat → State → State) (m : Message) (s : State) : State :=
  if 0 < s.link.free then { s with link := s.link.enter m } else count 15 s

/-! ## Events and notices -/

/-- Whether a raw flag is set. -/
def State.flagSet (s : State) (f : Flag) : Bool := hasFlag s.notices.flags f

/-- Set a raw flag, without a NOTICE. -/
def State.setFlag (s : State) (f : Flag) : State :=
  { s with notices := { s.notices with flags := s.notices.flags ||| f.mask } }

/-- A flag set or mask in two bytes (12.7). -/
def flagBytes (b : BitVec 13) : List Byte := be16 b.toNat

/-- The NOTICE message of R169 (12.9). -/
def State.noticeMessage (s : State) (f : Flag) : Message :=
  { kind := 0x82
    payload := idBytes s.nodeId ++ [byte s.shownPosition, byte f.number] ++ flagBytes s.notices.flags ++ [byte s.census.failure.code] }

/-- The NOTICE frame of R169 (12.8). -/
def State.noticeSending (s : State) (f : Flag) : Sending :=
  { cls := 11, dir := .toward, epoch := s.shownEpoch, destKind := .lead, destVal := 0
    payload := [byte f.number] ++ flagBytes s.notices.flags ++ [byte s.census.failure.code] }

/-- The ends a NOTICE frame names: the recorded lead end of a node that has one, both otherwise (R169). -/
def State.noticeLeave (s : State) : Leave :=
  match s.census.leadEnd with
  | some e => .one (s.endPort e)
  | none => .both

/-- One NOTICE: the message to the coach link, then, at a node without the lead role, the frame (R169; log 8). -/
def State.sendNotice (count : Nat → State → State) (f : Flag) (s : State) : State :=
  let s1 := s.offerMessage count (s.noticeMessage f)
  if s.isLead then s1 else s1.originateWith count (s.noticeSending f) s.noticeLeave

/-- An event counted at a code: the counter array, then COUNTER_EXCEPTION when the exception count took it, then FRAMES_DROPPED for
codes 2, 3 and 4 (R164, R168). `raise` raises a condition. -/
def State.countWith (raise : Flag → State → State) (code : Nat) (s : State) : State :=
  let s1 := { s with events := s.events.bump code }
  let s2 := if code < s.events.counters.length then s1 else raise .counterException s1
  if code = 2 ∨ code = 3 ∨ code = 4 then raise .framesDropped s2 else s2

/-- A condition arises (R168): its flag is set; if it was clear and enabled, one NOTICE goes. The frames of that NOTICE may be dropped,
which raises FRAMES_DROPPED, whose own NOTICE may be dropped in turn and then finds the flag set (R169). `fuel` bounds that nesting;
`State.raise` gives it one level more than it can use. -/
def State.raiseFuel : Nat → Flag → State → State
  | 0, f, s => s.setFlag f
  | n + 1, f, s =>
    if s.flagSet f then s
    else if hasFlag s.notices.enable f then
      (s.setFlag f).sendNotice (State.countWith (State.raiseFuel n)) f
    else s.setFlag f

/-- A condition arises (R168). -/
def State.raise (f : Flag) (s : State) : State := State.raiseFuel 3 f s

/-- An event is counted at a code (R164). -/
def State.count (code : Nat) (s : State) : State := State.countWith State.raise code s

/-- An event is counted `n` times at a code. -/
def State.countTimes : Nat → Nat → State → State
  | 0, _, s => s
  | n + 1, code, s => State.countTimes n code (s.count code)

/-- A block of the node sends a line frame (R26). -/
def State.originate (m : Sending) (by' : Leave) (s : State) : State := s.originateWith State.count m by'

/-- A message offered to the coach link transmit queue (R180). -/
def State.pushMessage (m : Message) (s : State) : State := s.offerMessage State.count m

/-! ## Frames delivered to a block -/

/-- The first delivery of a class in a list, and the list without it. -/
def takeClass (cls : Nat) : List Delivery → Option (Delivery × List Delivery)
  | [] => none
  | d :: ds =>
    if d.frame.cls = cls then some (d, ds)
    else
      match takeClass cls ds with
      | some (x, rest) => some (x, d :: rest)
      | none => none

/-- The block of a class takes its oldest delivered frame; nothing happens when none waits (log 3, log 6). -/
def State.takeDelivered (cls : Nat) (act : Delivery → State → State) (s : State) : State :=
  match takeClass cls s.delivered with
  | some (d, rest) => act d { s with delivered := rest }
  | none => s

/-! ## What a command answers -/

/-- A command that a node with power carries out by `f`; a node without power takes no command but POWER_ON (log 4). -/
def State.run (s : State) (f : State → State) : Host.Outcome State Fault Refusal :=
  .next (if s.powered then f s else s)

end Sys2Proof.Machine
end

