-- ==== Sys2Proof/Machine/Heat.lean ====
section
/-! DEFINITION. Heating: demand and rating (R114 to R121), the allocation (R122 to R133), the heater groups (R135 to R149), and what
they read of the sense converter (R151, R155, R156). -/

namespace Sys2Proof.Machine

/-! ## Readings of the sense converter -/

/-- Whether a channel is supervised: a matter of the settings alone (R156). -/
def Sense.supervised (c : Sense) (ch : Nat) : Bool :=
  match c.mode with
  | .scanCont => decide (ch ≤ c.stop)
  | .singleCont => decide (ch = c.selected)
  | .single => false
  | .scan => false

/-- The SENSE_DEGRADED condition: one or more of SI0 to SI4 unsupervised (R156). -/
def Sense.degraded (c : Sense) : Bool := [0, 1, 2, 3, 4].any fun ch => !c.supervised ch

/-- The average of a window: the sum of its codes by their number, truncated toward zero; none when it is empty (R155). -/
def average (w : List Code) : Option Int :=
  if w.isEmpty then none else some (Int.tdiv (w.map BitVec.toInt).sum w.length)

/-- Whether a code is saturated (R151). -/
def saturated (c : Code) : Bool := decide (c.toInt = -2048) || decide (c.toInt = 2047)

/-- The quantity of a code on a channel at a gain (R151): hu on SI0 to SI3 and SI5, volts on SI4, the code itself on SI6 and SI7. -/
def quantity (ch gain : Nat) (code : Int) : Int :=
  if ch = 4 then ((code.toNat * 2 / gain : Nat) : Int)
  else if ch ≤ 5 then ((code.toNat / (2 * gain) : Nat) : Int)
  else code

/-- A channel of the converter. -/
def Sense.channel (c : Sense) (ch : Nat) : Channel := c.channels.getD ch { gain := 1, window := [], age := none }

/-- An on-window record of the converter. -/
def Sense.onWin (c : Sense) (k : Nat) : OnWindow := c.onWins.getD k { window := [], count := 0, level := false }

/-- Whether a channel is stale: its window empty, or its newest code 500 ms old (R155). -/
def Channel.stale (ch : Channel) : Bool :=
  ch.window.isEmpty || (match ch.age with
    | some ms => decide (Config.staleMs ≤ ms)
    | none => true)

/-- The on-window current of group k in hu; none for an empty on-window (R155). -/
def Sense.onCurrent (c : Sense) (k : Nat) : Option Nat :=
  (average (c.onWin k).window).map fun avg => (quantity k (c.channel k).gain avg).toNat

/-! ## Demand and rating -/

/-- The rating of group k (R136). -/
def HeatTable.rating (t : HeatTable) (k : Nat) : Nat :=
  match k with
  | 0 => t.g0
  | 1 => t.g1
  | 2 => t.g2
  | 3 => t.g3
  | _ => 0

/-- The effective demand (R117). -/
def effectiveDemand (t : Nat) (derate : Bool) (percent : Nat) : Nat := if derate then min t percent else t

/-- D formed afresh (R117). -/
def State.formD (s : State) : State :=
  { s with heater := { s.heater with demandD := effectiveDemand s.heater.demandT s.doors.derate s.mgmt.working.heat.derate } }

/-- The sum of the ratings of the ENABLED groups, from group `k` on. -/
def ratingFrom (t : HeatTable) : Nat → List Group → Nat
  | _, [] => 0
  | k, g :: gs => (if g.st = .enabled then t.rating k else 0) + ratingFrom t (k + 1) gs

/-- The rating R (R118). -/
def ratingOf (t : HeatTable) (gs : List Group) : Nat := if t.enabled then ratingFrom t 0 gs else 0

/-- R formed afresh (R118). -/
def State.formR (s : State) : State :=
  { s with heater := { s.heater with rating := ratingOf s.mgmt.working.heat s.heater.groups } }

/-! ## Group outputs -/

/-- Whether slot `slot` lies in the window of group `k` with `n` on-slots: the slots (25 k + j) mod 100 for j below n (R143). -/
def inWindow (k n slot : Nat) : Bool := decide ((slot + 100 - (25 * k) % 100) % 100 < n)

/-- The groups' outputs for a slot position, from group `k` on (R143). -/
def setOutputsFrom (slot : Nat) : Nat → List Group → List Group
  | _, [] => []
  | k, g :: gs => { g with output := inWindow k g.n slot } :: setOutputsFrom slot (k + 1) gs

/-- Each output level handed to the converter's record of its group (R145). -/
def handLevels : List Group → List OnWindow → List OnWindow
  | g :: gs, w :: ws => { w with level := g.output } :: handLevels gs ws
  | _, ws => ws

/-- The outputs of all groups set for the slot position last read, and their levels handed to the sense converter (R143, R145). -/
def State.setOutputs (s : State) : State :=
  let gs := setOutputsFrom s.heater.slot 0 s.heater.groups
  { s with heater := { s.heater with groups := gs }, sense := { s.sense with onWins := handLevels gs s.sense.onWins } }

/-- The slot position of the clock: five times the index plus the whole 20 ms periods of the tick, to a most of 4 (R63). -/
def Supervisor.slotPosition (l : Supervisor) : Nat := 5 * l.idx + min 4 (l.tick / 20)

/-- The heater switch reads the slot position and sets the outputs (R63, R143). -/
def State.readSlot (s : State) : State := { s with heater := { s.heater with slot := s.line.slotPosition } }.setOutputs

/-- A group of the heater switch. -/
def Heater.group (h : Heater) (k : Nat) : Group :=
  h.groups.getD k { st := .notFitted, n := 0, output := false, strikes := 0, openFlag := false }

/-- Change group `k` of the heater switch. -/
def State.changeGroup (k : Nat) (f : Group → Group) (s : State) : State :=
  { s with heater := { s.heater with groups := s.heater.groups.modify k f } }

/-! ## The cycle start (R138) -/

/-- Overcurrent: the on-window current above floor(G × 5 / 4), or a saturated sample (R146). -/
def overcurrent (current g : Nat) (window : List Code) : Bool := decide (g * 5 / 4 < current) || window.any saturated

/-- Open circuit: the on-window current below floor(G / 4) (R147). -/
def openCircuit (current g : Nat) : Bool := decide (current < g / 4)

/-- The overcurrent test of group `k` with its result (R146): a third strike takes the group to FAILED. -/
def State.strikeTest (k : Nat) (fails : Bool) (s : State) : State :=
  if fails then
    if 3 ≤ (s.heater.group k).strikes + 1 then
      ((((s.changeGroup k fun g => { g with st := .failed, n := 0, output := false, strikes := 3 }).setOutputs).count 11).raise .groupFailed)
    else s.changeGroup k fun g => { g with strikes := g.strikes + 1 }
  else s.changeGroup k fun g => { g with strikes := 0 }

/-- The open-circuit test of group `k` with its result (R147). -/
def State.openTest (k : Nat) (fails : Bool) (s : State) : State :=
  if fails then
    if (s.heater.group k).openFlag then s
    else ((s.changeGroup k fun g => { g with openFlag := true }).count 12).raise .groupOpen
  else s.changeGroup k fun g => { g with openFlag := false }

/-- The current tests of group `k` at a cycle start: made when it is ENABLED with 4 or more on-samples in the ended cycle (R146,
R147). -/
def State.testGroup (k : Nat) (s : State) : State :=
  let w := s.sense.onWin k
  let g := s.mgmt.working.heat.rating k
  match s.sense.onCurrent k with
  | some current =>
    if (s.heater.group k).st = .enabled ∧ 4 ≤ w.count then
      (s.strikeTest k (overcurrent current g w.window)).openTest k (openCircuit current g)
    else s
  | none => s

/-- The fallback grant min(floor(R × D / 100), F) (R141). -/
def State.fallbackGrant (s : State) : Nat :=
  min (s.heater.rating * s.heater.demandD / 100) s.mgmt.working.heat.fallbackCap

/-- The cycle before a cycle number, 0 being preceded by 255. -/
def prevCycle (c : Nat) : Nat := if c = 0 then 255 else c - 1

/-- Set the applied grant, its source and the missed count. -/
def State.applyGrant (grant : Nat) (source : GrantSource) (missed : Nat) (s : State) : State :=
  { s with heater := { s.heater with applied := grant, source := source, missed := missed } }

/-- A missed grant: held over for two cycle starts, then the fallback grant; code 13 (R139). -/
def State.missedGrant (s : State) : State :=
  if s.heater.missed ≤ 1 then (s.applyGrant s.heater.applied .held (s.heater.missed + 1)).count 13
  else (s.applyGrant s.fallbackGrant .fallback 3).count 13

/-- The grant chosen at the cycle start of cycle `c` (R139, R140). -/
def State.chooseGrant (c : Nat) (s : State) : State :=
  if s.settled then
    match s.heater.staged with
    | some g =>
      if g.cyc = c then s.applyGrant g.grant .onTime 0
      else if g.cyc = prevCycle c then (s.applyGrant g.grant .late 0).count 14
      else s.missedGrant
    | none => s.missedGrant
  else s.applyGrant s.fallbackGrant .fallback 3

/-- The duty in permille of a grant over a rating (R142). -/
def dutyOf (grant rating : Nat) : Nat := if rating = 0 then 0 else min 1000 (grant * 1000 / rating)

/-- The on-slot counts from a base count, from group `k` on: none unless ENABLED, at most 25 while the channel is unsupervised
(R142). -/
def onSlotsFrom (c : Sense) (n : Nat) : Nat → List Group → List Group
  | _, [] => []
  | k, g :: gs =>
    { g with n := if g.st = .enabled then (if c.supervised k then n else min n 25) else 0 } :: onSlotsFrom c n (k + 1) gs

/-- Duty and on-slot counts formed from the applied grant and R (R142). -/
def State.formDuty (s : State) : State :=
  let d := dutyOf s.heater.applied s.heater.rating
  { s with heater := { s.heater with duty := d, groups := onSlotsFrom s.sense ((d + 5) / 10) 0 s.heater.groups } }

/-- Step 5 of the cycle start: the staged slot emptied, every on-sample count 0, the on-windows kept (R138, R145). -/
def State.endCycleStart (s : State) : State :=
  { s with heater := { s.heater with staged := none }
           sense := { s.sense with onWins := s.sense.onWins.map fun w => { w with count := 0 } } }

/-- The heater switch's work at the cycle start of cycle `c`: its five steps in order (R138). -/
def State.heaterCycleStart (c : Nat) (s : State) : State :=
  let s1 := ([0, 1, 2, 3].foldl (fun acc k => State.testGroup k acc) s).formR
  ((((s1.chooseGrant c).formDuty).readSlot).endCycleStart)

/-! ## The allocation (R128 to R133) -/

/-- The demand table that an install creates (R123). -/
def demandRecords (t : List ConsistRecord) : List DemandRecord :=
  t.map fun r => { pos := r.pos, id := r.entry.id, rating := r.entry.rating, demand := 0, preferred := r.entry.preferred, age := 0 }

/-- A demand taken into the record at a position (R124). -/
def State.recordDemand (pos rating demand : Nat) (preferred : Bool) (s : State) : State :=
  let recs := s.alloc.recs.map fun r =>
    if r.pos = pos then { r with rating := rating, demand := demand, preferred := preferred, age := 0 } else r
  { s with alloc := { s.alloc with recs := recs } }

/-- The supply voltage judged from SI4 (R127). -/
def State.judgeVoltage (s : State) : Undervoltage :=
  if s.sense.supervised 4 then
    let ch := s.sense.channel 4
    if ch.stale then .skippedStale
    else
      match average ch.window with
      | some avg =>
        if (quantity 4 ch.gain avg).toNat < s.mgmt.working.heat.undervolt then .undervoltage else .normal
      | none => .skippedStale
  else .skippedUnsupervised

/-- The effective budget of a judgement (R127). -/
def effectiveBudget (j : Undervoltage) (budget : Nat) : Nat := if j = .undervoltage then budget / 2 else budget

/-- The request of a demand record whose age has been raised: floor(R × D / 100), with D taken as 0 at age 4 (R128, R129). -/
def DemandRecord.request (r : DemandRecord) : Nat := if r.age ≤ 3 then r.rating * r.demand / 100 else 0

/-- The walk that gives out the remainder: one hu at each position of the scaled class whose grant is below its request, in position
order, until none is left (R132). The lists run over the positions: in the class, request, grant. -/
def walk : Nat → List (Bool × Nat × Nat) → List Nat
  | _, [] => []
  | left, (scaled, r, g) :: rest =>
    if scaled && decide (g < r) && decide (0 < left) then (g + 1) :: walk (left - 1) rest else g :: walk left rest

/-- The computation on requests and priority classes (R130 to R132): case, remainder before the walk, and the grants. -/
def allocate (reqs : List (Bool × Nat)) (budget : Nat) : AllocCase × Nat × List Nat :=
  let total := (reqs.map Prod.snd).sum
  let total1 := ((reqs.filter fun x => x.1).map Prod.snd).sum
  let total0 := ((reqs.filter fun x => !x.1).map Prod.snd).sum
  if total ≤ budget then (.unscaled, 0, reqs.map Prod.snd)
  else if total1 ≤ budget then
    let b2 := budget - total1
    let shares := reqs.map fun x => (!x.1, x.2, if x.1 then x.2 else x.2 * b2 / total0)
    let left := b2 - ((shares.filter fun x => x.1).map fun x => x.2.2).sum
    (.class0Scaled, left, walk left shares)
  else
    let shares := reqs.map fun x => (x.1, x.2, if x.1 then x.2 * budget / total1 else 0)
    let left := budget - ((shares.filter fun x => x.1).map fun x => x.2.2).sum
    (.class1Scaled, left, walk left shares)

/-- The next cycle number, 255 being followed by 0. -/
def nextCycle (c : Nat) : Nat := (c + 1) % 256

/-- A grant staged in the heater switch's slot, whatever the slot held before (R137). -/
def State.stageGrant (g : Grant) (s : State) : State := { s with heater := { s.heater with staged := some g } }

/-- The HEAT_GRANT payload (12.4). -/
def grantPayload (epoch cyc : Nat) (grants : List Nat) : List Byte :=
  byte epoch :: byte cyc :: byte grants.length :: grants.flatMap be16

/-- Steps 1 to 5 of a computation up to the record of its result: the demand records with their ages raised, the judgement, the
effective budget and the allocation for cycle `c` (R128). -/
def State.allocation (c : Nat) (s : State) : Allocator :=
  let recs := s.alloc.recs.map fun r => { r with age := min 4 (r.age + 1) }
  let judged := s.judgeVoltage
  let eff := effectiveBudget judged s.alloc.budget
  let reqs := recs.map fun r => (r.preferred, r.request)
  let total1 := ((reqs.filter fun x => x.1).map Prod.snd).sum
  let total0 := ((reqs.filter fun x => !x.1).map Prod.snd).sum
  let out := allocate reqs eff
  { s.alloc with
    recs := recs, judged := judged, effective := eff
    last := some { cyc := c, effective := eff, judged := judged, total := (reqs.map Prod.snd).sum, total1 := total1,
                   total0 := total0, case := out.1, remainder := out.2.1, grants := out.2.2 } }

/-- The computation of a lead in HOLDING at index entry 16, with its HEAT_GRANT sent and the lead's own grant handed to its heater
switch (R128, R133). -/
def State.compute (s : State) : State :=
  let c := nextCycle s.line.cyc
  let a := s.allocation c
  let grants := match a.last with
    | some l => l.grants
    | none => []
  let s1 := { s with alloc := a }
  let s2 := s1.originate
    { cls := 8, dir := .away, epoch := s.census.epoch, destKind := .broadcast, destVal := 0
      payload := grantPayload s.census.epoch c grants } (.one s.nonCabPort)
  s2.stageGrant { grant := grants.getD 0 0, epoch := s.census.epoch, cyc := c }

/-- The lead end of this node as a leaving end; a node without a recorded lead end sends nothing (R26, R100, R121; log 3). -/
def State.toLead (m : Sending) (s : State) : State :=
  match s.census.leadEnd with
  | some e => s.originate m (.one (s.endPort e))
  | none => s

/-- The HEAT_DEMAND frame of R121 (12.8). -/
def State.heatDemandSending (s : State) : Sending :=
  { cls := 7, dir := .toward, epoch := s.census.epoch, destKind := .lead, destVal := 0
    payload := [byte s.census.position, byte s.census.epoch, byte s.line.cyc] ++ be16 s.heater.rating
      ++ [byte s.heater.demandD, boolByte s.mgmt.working.heat.preferred] }

/-- The work of index entry 10 (R120): a lead in HOLDING refreshes its own record, another SETTLED node sends HEAT_DEMAND. -/
def State.demandWork (s : State) : State :=
  if s.holding then s.recordDemand 1 s.heater.rating s.heater.demandD s.mgmt.working.heat.preferred
  else if s.settled then s.toLead s.heatDemandSending
  else s

/-! ## Coverage (R144, R156) -/

/-- A loss of supervision cuts the on-slot count of each group concerned to at most 25 at once, from group `k` on (R144). -/
def cutFrom (was now : Sense) : Nat → List Group → List Group
  | _, [] => []
  | k, g :: gs =>
    (if was.supervised k && !now.supervised k then { g with n := min g.n 25 } else g) :: cutFrom was now (k + 1) gs

/-- The coverage of SI0 to SI3 handed to the heater switch after a change of settings from `was` (R144, R156). -/
def State.handCoverage (was : Sense) (s : State) : State :=
  { s with heater := { s.heater with groups := cutFrom was s.sense 0 s.heater.groups } }.setOutputs

/-! ## Group moves by APPLY and CLEAR GROUP FAULT (R136, R148) -/

/-- What a change of rating from `before` to `after` does to a group (R136). -/
def moveGroup (before after : Nat) (g : Group) : Group :=
  if before = 0 ∧ after ≠ 0 then { g with st := .enabled, strikes := 0, openFlag := false }
  else if before ≠ 0 ∧ after = 0 then { g with st := .notFitted, n := 0, output := false, strikes := 0, openFlag := false }
  else g

/-- The groups after a change of the heat table, from group `k` on (R136). -/
def moveGroupsFrom (old new : HeatTable) : Nat → List Group → List Group
  | _, [] => []
  | k, g :: gs => moveGroup (old.rating k) (new.rating k) g :: moveGroupsFrom old new (k + 1) gs

/-- A group named by CLEAR GROUP FAULT (R148): FAILED goes to ENABLED, and strikes and flag are cleared; NOT_FITTED is passed
over. -/
def clearGroup (g : Group) : Group :=
  match g.st with
  | .notFitted => g
  | .enabled => { g with strikes := 0, openFlag := false }
  | .failed => { g with st := .enabled, strikes := 0, openFlag := false }

/-- Group `k` cleared, with its on-window emptied unless it is NOT_FITTED (R148, R159). -/
def State.clearGroupFault (k : Nat) (s : State) : State :=
  if (s.heater.group k).st = .notFitted then s
  else
    let s1 := s.changeGroup k clearGroup
    { s1 with sense := { s1.sense with onWins := s1.sense.onWins.modify k fun w => { w with window := [], count := 0 } } }

end Sys2Proof.Machine
end

