-- ==== Sys2Proof/Machine/Doors.lean ====
section
/-! DEFINITION. The door sides (chapter 5) and the door summary with PROVEN (chapter 6): the side machine, withdrawals, door orders,
DOOR_STATE and its hand-over, and the summary's records. -/

namespace Sys2Proof.Machine

/-! ## The side machine -/

/-- A side machine. -/
def Doors.side (d : Doors) : Side → DoorSide
  | .one => d.side1
  | .two => d.side2

/-- Change a side machine. -/
def State.changeSide (sd : Side) (f : DoorSide → DoorSide) (s : State) : State :=
  match sd with
  | .one => { s with doors := { s.doors with side1 := f s.doors.side1 } }
  | .two => { s with doors := { s.doors with side2 := f s.doors.side2 } }

/-- The door count of a side (R103). -/
def DoorTable.count (t : DoorTable) : Side → Nat
  | .one => t.count1
  | .two => t.count2

/-- A timer started with a length in ms (R84). -/
def startTimer (ms : Nat) : Option SideTimer := some { length := ms, left := ms }

/-- A side at rest (LOCKED, FAULT or ABSENT): outputs off, timer stopped (R82, R84). -/
def DoorSide.rest (x : DoorSide) (st : SideState) : DoorSide := { x with st := st, timer := none, rel := false, warn := false }

/-- Entry to RELEASED: cause NONE, release output on, warning output off, the maximum release time if one is set (R84, R85). -/
def DoorSide.toReleased (x : DoorSide) (t : DoorTable) : DoorSide :=
  { x with st := .released, cause := .none, rel := true, warn := false
           timer := if t.maxRelease = 0 then none else startTimer (t.maxRelease * 1000) }

/-- Entry to WARNING: release output on, warning phase and output on, the warning mode read, the warning lead time started (R82,
R84). -/
def DoorSide.toWarning (x : DoorSide) (t : DoorTable) : DoorSide :=
  { x with st := .warning, rel := true, warn := true, phase := true, mode := t.warnMode, timer := startTimer (t.warnLead * 100) }

/-- Entry to CLOSING: release output off, warning output on, close timeout started; on to LOCKED at once if the loop stands made
(R84, R88, R89). -/
def DoorSide.toClosing (x : DoorSide) (t : DoorTable) : DoorSide :=
  if x.loop then x.rest .locked
  else { x with st := .closing, rel := false, warn := true, timer := startTimer (t.closeTimeout * 1000) }

/-- Rank of a withdrawal cause, 1 the highest (05, 5.6); NONE ranks below all. -/
def Cause.rank : Cause → Nat
  | .zeroSpeedLost => 1
  | .lineLost => 2
  | .consistChanged => 3
  | .closeOrder => 4
  | .releaseTimeout => 5
  | .none => 6

/-- A withdrawal on one side by its state (R92). -/
def DoorSide.withdraw (x : DoorSide) (t : DoorTable) (c : Cause) : DoorSide :=
  match x.st with
  | .released =>
    let y := { x with cause := c }
    if c = .zeroSpeedLost then y.toClosing t else y.toWarning t
  | .warning =>
    let y := if c.rank < x.cause.rank then { x with cause := c } else x
    if c = .zeroSpeedLost then y.toClosing t else y
  | .absent | .locked | .closing | .fault => x

/-- Whether a side is LOCKED or ABSENT. -/
def DoorSide.shut (x : DoorSide) : Bool := decide (x.st = .locked ∨ x.st = .absent)

/-- Whether a side's release output is to be on: RELEASED or WARNING (R82). -/
def DoorSide.open' (x : DoorSide) : Bool := decide (x.st = .released ∨ x.st = .warning)

/-! ## The door summary (chapter 6) -/

/-- The group of five items a side reports (R100, R106). -/
def DoorSide.report (x : DoorSide) : SideReport :=
  { st := .reported x.st, cause := x.cause, refusal := x.refusal, openN := x.openN, obstrN := x.obstrN }

/-- A train side as it is created: ABSENT without doors, NOT_REPORTED with doors (R105). -/
def createdSide (count : Nat) : SideReport :=
  { st := if count = 0 then .reported .absent else .notReported, cause := .none, refusal := .none, openN := 0, obstrN := 0 }

/-- The record that an install creates for a consist table record (R105, R106). -/
def createdRecord (r : ConsistRecord) : SummaryRecord :=
  let l := match r.entry.orient with
    | .normal => r.entry.doors1
    | .reversed => r.entry.doors2
  let rt := match r.entry.orient with
    | .normal => r.entry.doors2
    | .reversed => r.entry.doors1
  { pos := r.pos, id := r.entry.id, orient := r.entry.orient, countL := l, countR := rt, left := createdSide l, right := createdSide rt,
    permit := none, age := 3 }

/-- Whether a train side is LOCKED or ABSENT. -/
def SideReport.shut (x : SideReport) : Bool := decide (x.st = .reported .locked ∨ x.st = .reported .absent)

/-- Whether a record lets PROVEN be on (R111). -/
def SummaryRecord.proves (r : SummaryRecord) : Bool := decide (r.age ≤ 2) && r.left.shut && r.right.shut

/-- PROVEN judged (R111). -/
def State.judgeProven (s : State) : State :=
  { s with summary := { s.summary with proven := s.holding && s.summary.recs.all SummaryRecord.proves } }

/-- A report taken into a record: the coach sides mapped by the record's own orientation, the permit, age 0 (R106, R108). -/
def SummaryRecord.take (r : SummaryRecord) (side1 side2 : SideReport) (permit : Bool) : SummaryRecord :=
  match r.orient with
  | .normal => { r with left := side1, right := side2, permit := some permit, age := 0 }
  | .reversed => { r with left := side2, right := side1, permit := some permit, age := 0 }

/-- A report taken into the record at a position, and PROVEN judged (R108). -/
def State.recordDoors (pos : Nat) (side1 side2 : SideReport) (permit : Bool) (s : State) : State :=
  let recs := s.summary.recs.map fun r => if r.pos = pos then r.take side1 side2 permit else r
  { s with summary := { s.summary with recs := recs } }.judgeProven

/-- A record one cycle start older, to a most of 3 (R110). -/
def SummaryRecord.older (r : SummaryRecord) : SummaryRecord := { r with age := min 3 (r.age + 1) }

/-- The ages of all records raised by 1, to a most of 3, and PROVEN judged (R110); nothing at an empty summary. -/
def State.ageSummary (s : State) : State :=
  if s.summary.recs.isEmpty then s
  else
    let recs := s.summary.recs.map SummaryRecord.older
    { s with summary := { s.summary with recs := recs } }.judgeProven

/-! ## DOOR_STATE (R99, R100, R109) -/

/-- A side's five items in a DOOR_STATE payload (12.8). -/
def DoorSide.stateBytes (x : DoorSide) : List Byte :=
  [byte x.st.code, byte x.cause.code, byte x.refusal.code, byte x.openN, byte x.obstrN]

/-- The DOOR_STATE frame (R100, 12.8). -/
def State.doorStateSending (s : State) : Sending :=
  { cls := 6, dir := .toward, epoch := s.census.epoch, destKind := .lead, destVal := 0
    payload := [byte s.census.position, byte s.census.epoch] ++ s.doors.side1.stateBytes ++ s.doors.side2.stateBytes
      ++ [boolByte s.line.permit] }

/-- One DOOR_STATE moment (R99, R109): a lead in HOLDING hands its state to record 1 of its summary, another SETTLED node sends the
frame by its lead end, a node that is not SETTLED does neither. -/
def State.doorStateWork (s : State) : State :=
  if s.settled then
    if s.holding then s.recordDoors 1 s.doors.side1.report s.doors.side2.report s.line.permit
    else s.toLead s.doorStateSending
  else s

/-- Door-derate formed afresh from the side states, and D with it (R101, R117). -/
def State.formDerate (s : State) : State :=
  { s with doors := { s.doors with derate := !(s.doors.side1.shut && s.doors.side2.shut) } }.formD

/-- What follows an event on the sides: where a side state changed since `before`, door-derate and one DOOR_STATE moment (R99,
R101). -/
def State.afterSides (before : Doors) (s : State) : State :=
  if s.doors.side1.st = before.side1.st ∧ s.doors.side2.st = before.side2.st then s
  else s.formDerate.doorStateWork

/-- A withdrawal on both sides (R92 to R95). -/
def State.withdrawBoth (c : Cause) (s : State) : State :=
  let t := s.mgmt.working.door
  ({ s with doors := { s.doors with side1 := s.doors.side1.withdraw t c, side2 := s.doors.side2.withdraw t c } }).afterSides s.doors

/-- A withdrawal on one side (R86, R96). -/
def State.withdrawSide (sd : Side) (c : Cause) (s : State) : State :=
  (s.changeSide sd fun x => x.withdraw s.mgmt.working.door c).afterSides s.doors

/-! ## Door orders (R74, R78 to R80) -/

/-- The coach side a train side falls on (R74). -/
def mapSide (o : Orientation) (t : TrainSide) : Side :=
  match o, t with
  | .normal, .left => .one
  | .normal, .right => .two
  | .reversed, .left => .two
  | .reversed, .right => .one

/-- The outcome of a door order at a door controller. -/
inductive OrderOutcome where
  /-- Ignored for its form (R78). -/
  | malformed
  /-- Ignored for its range (R78). -/
  | outOfRange
  /-- Refused for a reason (R79). -/
  | refused (r : DoorRefusal)
  /-- Accepted (R80). -/
  | accepted
  deriving DecidableEq, Repr

/-- The first check of R79 that an order fails, NONE where it passes them all. -/
def State.checkOrder (sd : Side) (a : DoorAction) (epoch : Nat) (s : State) : DoorRefusal :=
  if !s.settled then .notSettled
  else if epoch ≠ s.census.epoch then .epochMismatch
  else if s.mgmt.working.door.count sd = 0 then .noDoors
  else if a = .release ∧ s.line.permit = false then .noZeroSpeed
  else .none

/-- A refused order: the last refusal of the side, code 8, DOOR_REFUSED (R79). -/
def State.refuseOrder (sd : Side) (r : DoorRefusal) (s : State) : State :=
  ((s.changeSide sd fun x => { x with refusal := r }).count 8).raise .doorRefused

/-- An accepted RELEASE on the side machine (R85). -/
def DoorSide.acceptRelease (x : DoorSide) (t : DoorTable) : DoorSide :=
  match x.st with
  | .absent => x
  | .released => x
  | .locked | .warning | .closing | .fault => x.toReleased t

/-- An accepted CLOSE on the side machine: a RELEASED side is withdrawn with CLOSE_ORDER, another is left as it is (R86). -/
def DoorSide.acceptClose (x : DoorSide) (t : DoorTable) : DoorSide :=
  if x.st = .released then x.withdraw t .closeOrder else x

/-- An accepted order: refusal NONE, order record, and the side machine's act (R80, R85, R86). -/
def State.acceptOrder (sd : Side) (a : DoorAction) (epoch : Nat) (s : State) : State :=
  let t := s.mgmt.working.door
  (s.changeSide sd fun x =>
    let y := { x with refusal := .none, order := some (a, epoch) }
    match a with
    | .release => y.acceptRelease t
    | .close => y.acceptClose t).afterSides s.doors

/-- A door order taken by the door controller (R78 to R80), with its outcome. -/
def State.takeOrder (o : OrderIn) (s : State) : OrderOutcome × State :=
  match o.side, o.action with
  | some side, some action =>
    if o.first < 1 ∨ 32 < o.first ∨ o.last < 1 ∨ 32 < o.last ∨ o.last < o.first then (.malformed, s)
    else if s.census.position < o.first ∨ o.last < s.census.position then (.outOfRange, s)
    else
      let sd := mapSide s.census.orient side
      match s.checkOrder sd action o.epoch with
      | .none => (.accepted, s.acceptOrder sd action o.epoch)
      | r => (.refused r, s.refuseOrder sd r)
  | _, _ => (.malformed, s)

/-! ## Loop changes and timer expiries (R83, R87 to R90, R96) -/

/-- A loop change on the side machine (R83, R87, R89, R90): made takes CLOSING and FAULT to LOCKED, broken takes LOCKED to FAULT. -/
def DoorSide.loopTo (x : DoorSide) (made : Bool) : DoorSide :=
  let y := { x with loop := made }
  if made then
    match x.st with
    | .closing | .fault => y.rest .locked
    | .absent | .locked | .released | .warning => y
  else
    match x.st with
    | .locked => y.rest .fault
    | .absent | .released | .warning | .closing | .fault => y

/-- The filtered loop level of a side becomes `made` (R83); a LOCKED side opened without a release counts code 10 and sets
DOOR_FORCED (R87), its NOTICE before door-derate and the DOOR_STATE frame (log 32). A level that does not change is no event (log 3). -/
def State.loopChange (sd : Side) (made : Bool) (s : State) : State :=
  let x := s.doors.side sd
  if x.loop = made then s
  else
    let s1 := s.changeSide sd fun y => y.loopTo made
    let s2 := if made = false ∧ x.st = .locked then (s1.count 10).raise .doorForced else s1
    s2.afterSides s.doors

/-- The maximum release time of a side expires: a running timer in RELEASED withdraws it with RELEASE_TIMEOUT (R96). -/
def State.releaseTimeout (sd : Side) (s : State) : State :=
  let x := s.doors.side sd
  if x.st = .released ∧ x.timer ≠ none then s.withdrawSide sd .releaseTimeout else s

/-- The warning lead time of a side expires in WARNING: on to CLOSING (R88). -/
def State.warningTimeout (sd : Side) (s : State) : State :=
  let x := s.doors.side sd
  if x.st = .warning ∧ x.timer ≠ none then (s.changeSide sd fun y => y.toClosing s.mgmt.working.door).afterSides s.doors else s

/-- The close timeout of a side expires in CLOSING: FAULT, code 9, DOOR_FAULT (R89), its NOTICE before door-derate and the DOOR_STATE
frame (log 32). -/
def State.closeTimeout (sd : Side) (s : State) : State :=
  let x := s.doors.side sd
  if x.st = .closing ∧ x.timer ≠ none then
    (((s.changeSide sd fun y => y.rest .fault).count 9).raise .doorFault).afterSides s.doors
  else s

/-- The warning phase changes in WARNING; a PULSED warning follows it (R82). -/
def DoorSide.phaseChange (x : DoorSide) : DoorSide :=
  if x.st = .warning then
    { x with phase := !x.phase, warn := match x.mode with
      | .steady => true
      | .pulsed => !x.phase }
  else x

/-! ## Door reports (R97, R98) -/

/-- Whether a list of door statuses is good: at most 8, each of the four values (R98). -/
def goodStatuses (l : List Byte) : Bool := decide (l.length ≤ 8) && l.all fun b => decide (b.toNat ≤ 3)

/-- The counts a side takes from the first `d` statuses (R97): OPEN or OBSTRUCTED, and OBSTRUCTED. -/
def DoorSide.takeReport (x : DoorSide) (d : Nat) (l : List Byte) : DoorSide :=
  let seen := l.take d
  { x with openN := seen.countP fun b => decide (b.toNat = 1 ∨ b.toNat = 2)
           obstrN := seen.countP fun b => decide (b.toNat = 2) }

/-- A DOOR_REPORT payload taken (R97), or discarded at code 15 (R98, R181). -/
def State.takeDoorReport (payload : List Byte) (s : State) : State :=
  match readDoorReport payload with
  | some (l1, l2) =>
    if goodStatuses l1 && goodStatuses l2 then
      (s.changeSide .one fun x => x.takeReport s.mgmt.working.door.count1 l1).changeSide .two fun x =>
        x.takeReport s.mgmt.working.door.count2 l2
    else s.count 15
  | none => s.count 15

/-! ## APPLY and door counts (R91) -/

/-- What a change of door count does to a side (R91). -/
def DoorSide.countChange (x : DoorSide) (before after : Nat) : DoorSide :=
  if before ≠ 0 ∧ after = 0 then x.rest .absent
  else if before = 0 ∧ after ≠ 0 then x.rest (if x.loop then .locked else .fault)
  else x

/-- The door sides after an accepted APPLY that replaced door table `old` (R91). -/
def State.applyDoors (old : DoorTable) (s : State) : State :=
  let new := s.mgmt.working.door
  ({ s with doors := { s.doors with side1 := s.doors.side1.countChange old.count1 new.count1
                                    side2 := s.doors.side2.countChange old.count2 new.count2 } }).afterSides s.doors

end Sys2Proof.Machine
end

