-- ==== Sys2Proof/Machine/Supervision.lean ====
section
/-! DEFINITION. The supervision of the line and the zero-speed permit (chapter 4, R61 and R66 to R70). -/

namespace Sys2Proof.Machine

/-- The permit formed from supervision state, debounced ZSP and stored beacon flag (R70). -/
def permitOf (sup : Supervision) (zsp flag : Bool) : Bool :=
  match sup with
  | .live => zsp && flag
  | .none => zsp
  | .lost => zsp

/-- The permit formed afresh; a fall of it is a withdrawal with ZERO_SPEED_LOST on both sides (R70, R93). -/
def State.formPermit (s : State) : State :=
  let new := permitOf s.line.sup s.line.zsp s.line.flag
  let s1 := { s with line := { s.line with permit := new } }
  if s.line.permit && !new then s1.withdrawBoth .zeroSpeedLost else s1

/-- Supervision as a member begins it at an install, or as a lead that has lost its role in HOLDING takes it up: state NONE, timer at
350 ms (R66, R69). -/
def State.superviseAsMember (flag : Bool) (s : State) : State :=
  { s with line := { s.line with sup := .none, timer := some Config.supervisionMs, flag := flag } }.formPermit

/-- Supervision at a lead entering HOLDING: LIVE, timer stopped, the debounced ZSP as stored beacon flag, beacon sending on (R64,
R66). -/
def State.superviseAsLead (s : State) : State :=
  { s with line := { s.line with sup := .live, timer := none, flag := s.line.zsp, beaconOn := true } }.formPermit

/-- The end of supervision at a node leaving SETTLED: timer stopped, NONE, flag released, permit formed afresh (R69). -/
def State.endSupervision (s : State) : State :=
  { s with line := { s.line with sup := .none, timer := none, flag := false } }.formPermit

/-- The supervision timer of a SETTLED member expires: LOST, code 7, LINE_LOST, withdrawal with LINE_LOST, permit formed afresh, in
this order (R68, R94). A stopped timer does not expire (log 3). -/
def State.supervisionExpiry (s : State) : State :=
  if s.line.timer ≠ none ∧ s.settled = true then
    ((((({ s with line := { s.line with sup := .lost, timer := none } } : State).count 7).raise .lineLost).withdrawBoth .lineLost).formPermit)
  else s

/-- A filtered change of ZSP (R61): at a lead in HOLDING the level becomes the stored beacon flag too; the permit is formed afresh. A
level that does not change is no event (log 3). -/
def State.zspChange (level : Bool) (s : State) : State :=
  if s.line.zsp = level then s
  else
    { s with line := { s.line with zsp := level, flag := if s.holding then level else s.line.flag } }.formPermit

/-- Acceptance of a beacon for supervision (R67): timer at 350 ms, LIVE, the beacon's flag stored, permit formed afresh. -/
def State.acceptBeacon (flag : Bool) (s : State) : State :=
  { s with line := { s.line with sup := .live, timer := some Config.supervisionMs, flag := flag } }.formPermit

end Sys2Proof.Machine
end

