-- ==== Sys2Proof/Machine/Census.lean ====
section
/-! DEFINITION. The census controller (chapter 3): the lead role, the census at the lead, taking part as a member, topology changes
and the consist table. -/

namespace Sys2Proof.Machine

/-! ## Standing (R55 to R58) -/

/-- Whether the node holds a table (03, 3.1). -/
def State.hasTable (s : State) : Bool := s.census.table.isSome

/-- The work of leaving SETTLED: doors withdrawn with CONSIST_CHANGED, supervision ended (R57, R69, R95). -/
def State.leaveSettled (s : State) : State := (s.withdrawBoth .consistChanged).endSupervision

/-- The census state becomes `cs`: leaving SETTLED does its work (R57), an entry to STALE or DETACHED arms the stale beacon report
(R52). -/
def State.enterCensus (cs : CensusState) (s : State) : State :=
  let arm := decide (cs ≠ s.census.cs ∧ (cs = .stale ∨ cs = .detached))
  let s1 := { s with census := { s.census with cs := cs, staleArmed := s.census.staleArmed || arm } }
  if s.census.cs = .settled ∧ cs ≠ .settled then s1.leaveSettled else s1

/-- The census state of a node whose census has ended without a table for it: STALE with a table, DETACHED without (R34, R40, R47,
R49). -/
def State.fallBack (s : State) : State := s.enterCensus (if s.hasTable then .stale else .detached)

/-- The work of leaving HOLDING (R58, R112, R125): summary emptied and PROVEN off, demand table and last allocation gone, beacon
sending off. The lead census state has left HOLDING. -/
def State.leaveHolding (s : State) : State :=
  { s with summary := { s.summary with recs := [] }
           alloc := { s.alloc with recs := [], last := none }
           line := { s.line with beaconOn := false } }.judgeProven

/-- The lead census state becomes `lead`; leaving HOLDING does its work (R58). -/
def State.enterLead (lead : LeadState) (s : State) : State :=
  let s1 := { s with census := { s.census with lead := lead } }
  if s.census.lead = .holding ∧ lead ≠ .holding then s1.leaveHolding else s1

/-- The records of a list: the record at place i has position i (R54). -/
def recordsFrom : Nat → List Entry → List ConsistRecord
  | _, [] => []
  | p, e :: es => { pos := p, entry := e } :: recordsFrom (p + 1) es

/-- A table installed in one step (R54), with its epoch as installed epoch and last epoch (R41, R48). -/
def State.install (epoch : Nat) (es : List Entry) (s : State) : State :=
  { s with census := { s.census with table := some (recordsFrom 1 es), epoch := epoch, lastEpoch := epoch } }

/-- An order record that holds another epoch than the new one is set to none (R56, R81). -/
def DoorSide.dropOldOrder (x : DoorSide) (epoch : Nat) : DoorSide :=
  match x.order with
  | some (_, e) => if e = epoch then x else { x with order := none }
  | none => x

/-- On entering SETTLED the doors discard orders and the heater switch a staged grant of another epoch (R56, R81, R137). -/
def State.dropOldEpoch (s : State) : State :=
  let e := s.census.epoch
  { s with doors := { s.doors with side1 := s.doors.side1.dropOldOrder e, side2 := s.doors.side2.dropOldOrder e }
           heater := { s.heater with staged := s.heater.staged.filter fun g => decide (g.epoch = e) } }

/-! ## Counting a topology change -/

/-- A topology change seen: code 6 and TOPOLOGY (R36, R49, R51, R52). -/
def State.seeTopology (s : State) : State := (s.count 6).raise .topology

/-- TOPOLOGY_CHANGE sent (R53): by the recorded lead end if known and MATED, by both ends otherwise. -/
def State.sendTopologyChange (k : TopologyKind) (s : State) : State :=
  let m : Sending :=
    { cls := 3, dir := .toward, epoch := if s.hasTable then s.census.epoch else 0, destKind := .lead, destVal := 0
      payload := [byte k.code] }
  match s.census.leadEnd with
  | some e => if s.mated (s.endPort e) then s.originate m (.one (s.endPort e)) else s.originate m .both
  | none => s.originate m .both

/-- A census failure recorded: the reason, code 5, CENSUS_FAILED (R33, R34, R40). -/
def State.failCensus (r : Failure) (s : State) : State :=
  (({ s with census := { s.census with failure := r } } : State).count 5).raise .censusFailed

/-! ## The census at the lead (R35 to R42) -/

/-- The node's own census entry (R45). -/
def State.ownEntry (o : Orientation) (s : State) : Entry :=
  { id := s.nodeId, orient := o, drivable := s.mgmt.working.coach.drivable, heating := s.mgmt.working.heat.enabled,
    preferred := s.mgmt.working.heat.preferred, doors1 := s.mgmt.working.door.count1, doors2 := s.mgmt.working.door.count2,
    rating := s.heater.rating }

/-- The orientation of an end toward the lead: NORMAL for end 1, REVERSED for end 2 (R35, R45). -/
def endOrientation : EndNo → Orientation
  | .one => .normal
  | .two => .reversed

/-- The next epoch a lead assigns: one greater, 255 and 0 being followed by 1 (R41). -/
def nextEpoch (last : Nat) : Nat := if last = 0 ∨ last = 255 then 1 else last + 1

/-- The CONSIST_ANNOUNCE payload (12.3). -/
def announcePayload (epoch : Nat) (tag : Tag) (es : List Entry) : List Byte :=
  byte epoch :: (tag.bytes ++ byte es.length :: entriesBytes es)

/-- An accepted OK return (R42): epoch, install, SETTLED and HOLDING with their results (R56), summary and demand table created, and the
CONSIST_ANNOUNCE sent by the non-cab end. -/
def State.acceptReturn (tag : Tag) (es : List Entry) (s : State) : State :=
  let epoch := nextEpoch s.census.lastEpoch
  let s1 := s.install epoch es
  let s2 := { s1 with census := { s1.census with cs := .settled, lead := .holding, timer := none, position := 1,
                                                 leadEnd := some s.mgmt.working.coach.cabEnd } }
  let s3 := s2.dropOldEpoch.superviseAsLead
  let s4 := { s3 with alloc := { s3.alloc with recs := demandRecords (recordsFrom 1 es), last := none }
                      summary := { s3.summary with recs := (recordsFrom 1 es).map createdRecord } }.judgeProven
  s4.originate
    { cls := 2, dir := .away, epoch := epoch, destKind := .broadcast, destVal := 0, payload := announcePayload epoch tag es }
    (.one s4.nonCabPort)

/-- The CENSUS_CALL payload (12.3). -/
def callPayload (tag : Tag) (es : List Entry) : List Byte := tag.bytes ++ byte es.length :: entriesBytes es

/-- A CENSUS_CALL sent by a port (R35, R46). -/
def State.sendCall (tag : Tag) (es : List Entry) (p : Port) (s : State) : State :=
  s.originate { cls := 0, dir := .away, epoch := 0, destKind := .broadcast, destVal := 0, payload := callPayload tag es } (.one p)

/-- A census attempt started (R35) with attempt counter `ctr`: steps 1 to 4, and then the call and the timer (step 5) or the
completion of a lead alone (step 6). -/
def State.startAttempt (ctr : Nat) (s : State) : State :=
  let cabEnd := s.mgmt.working.coach.cabEnd
  let orient := endOrientation cabEnd
  let number := (s.census.attemptNo + 1) % 256
  let tag : Tag := { lead := s.nodeId, attempt := number }
  let es := [s.ownEntry orient]
  let s1 := { s with census := { s.census with
    attemptNo := number, tag := some tag, attemptCtr := ctr, position := 1, orient := orient, leadEnd := some cabEnd, timer := none,
    hold := none } }
  let s2 := (s1.enterLead .calling).enterCensus .survey
  if s2.mated s2.nonCabPort then
    let s3 := s2.sendCall tag es s2.nonCabPort
    { s3 with census := { s3.census with timer := some Config.censusTimerMs } }
  else s2.acceptReturn tag es

/-- Entry to BLOCKED with a reason (R40). -/
def State.enterBlocked (r : Failure) (s : State) : State :=
  let s1 := s.enterLead .blocked
  let s2 := { s1 with census := { s1.census with timer := none, tag := none } }
  (s2.fallBack).failCensus r

/-- The lead role lost (R34): OFF, timer stopped, tag cleared; then by the state left. `coupled` marks the rows that record
CAB_COUPLED. -/
def State.loseRole (coupled : Bool) (s : State) : State :=
  let was := s.census.lead
  let s1 := s.enterLead .off
  let s2 := { s1 with census := { s1.census with timer := none, tag := none } }
  let s3 := match was with
    | .holding => s2.superviseAsMember false
    | .calling => s2.fallBack
    | .off | .blocked => s2
  if coupled then s3.failCensus .cabCoupled else s3

/-- The judgement of R33 at a node whose CAB stands asserted: OFF and drivable, the node gains the role when its cab end is not MATED
and is refused with CAB_COUPLED when it is. -/
def State.judgeRole (s : State) : State :=
  if s.census.lead = .off ∧ s.mgmt.working.coach.drivable = true then
    if s.mated s.cabPort then
      ({ s with census := { s.census with cabRefused := true } } : State).failCensus .cabCoupled
    else s.startAttempt 0
  else s

/-- A filtered assertion of CAB (R33). A standing assertion is no new one (log 3). -/
def State.cabAssertion (s : State) : State :=
  if s.census.cab then s
  else ({ s with census := { s.census with cab := true, cabRefused := false } } : State).judgeRole

/-- A filtered release of CAB (R33, R34). A standing release is no new one (log 3). -/
def State.cabRelease (s : State) : State :=
  if s.census.cab then
    let s1 := { s with census := { s.census with cab := false, cabRefused := false } }
    if s.isLead then s1.loseRole false else s1
  else s

/-- The census timer expires in CALLING (R37): a retry, or BLOCKED after the fourth attempt. A stopped timer does not expire (log
3). -/
def State.censusTimeout (s : State) : State :=
  if s.census.lead = .calling ∧ s.census.timer ≠ none then
    if s.census.attemptCtr ≤ 2 then s.startAttempt (s.census.attemptCtr + 1) else s.enterBlocked .noReturn
  else s

/-- An event of R36 at a lead: code 6, TOPOLOGY, and the census restarts at attempt 0 (log 7). -/
def State.restartCensus (s : State) : State := s.seeTopology.startAttempt 0

/-- Whether no node ID appears twice in a list. -/
def distinctIds : List Entry → Bool
  | [] => true
  | e :: es => es.all (fun x => decide (x.id ≠ e.id)) && distinctIds es

/-- Whether the list of an OK return is sound (R38). -/
def State.soundReturn (r : ReturnIn) (s : State) : Bool :=
  r.counted && decide (1 ≤ r.entries.length) && decide (r.entries.length ≤ 32) && distinctIds r.entries
    && (match r.entries with
        | e :: _ => decide (e.id = s.nodeId) && decide (e.orient = s.census.orient)
        | [] => false)

/-- A CENSUS_RETURN taken (R38, R39): current and OK with a sound list it is accepted, current with a failure status it blocks the
census, and otherwise it is ignored. -/
def State.takeReturn (r : ReturnIn) (s : State) : State :=
  if s.census.lead = .calling ∧ s.census.tag = some r.tag then
    match r.status with
    | 0 => if s.soundReturn r then s.acceptReturn r.tag r.entries else s
    | 1 => s.enterBlocked .tooLong
    | 2 => s.enterBlocked .duplicateId
    | 3 => s.enterBlocked .twoLeads
    | _ => s
  else s

/-! ## Topology reports (R34, R36, R51) -/

/-- A topology report at a node without the lead role (R51): a SETTLED node goes to STALE; then code 6, TOPOLOGY and TOPOLOGY_CHANGE
(log 7). -/
def State.memberReport (k : TopologyKind) (s : State) : State :=
  let s1 := if s.settled then s.enterCensus .stale else s
  s1.seeTopology.sendTopologyChange k

/-- A report of kind MATED_ON or MATED_OFF for an end (R34, R36, R51). At a lead, MATED_ON of the cab end takes the role, either kind
at the non-cab end restarts the census, and MATED_OFF of the cab end does nothing (log 3). -/
def State.matedReport (on : Bool) (e : EndNo) (s : State) : State :=
  if s.isLead then
    if e = s.mgmt.working.coach.cabEnd then (if on then s.loseRole true else s) else s.restartCensus
  else s.memberReport (if on then .matedOn else .matedOff)

/-- A report of kind NUMBERING or CAB_END (R34, R36, R51). -/
def State.mappingReport (k : TopologyKind) (s : State) : State :=
  if s.isLead then (if s.mated s.cabPort then s.loseRole true else s.restartCensus) else s.memberReport k

/-- A TOPOLOGY_CHANGE frame taken: at a node holding the lead role the census restarts at attempt 0 (R36); its payload is one byte
(R181). -/
def State.takeTopologyChange (payload : List Byte) (s : State) : State :=
  if payload.length = 1 ∧ s.isLead = true then s.restartCensus else s

/-! ## Taking part as a member (R43 to R50) -/

/-- A CENSUS_RETURN sent by a port toward a lead (R43, R44, R46). Its header epoch is a free value: no rule states it (log 9). -/
def State.sendReturn (tag : Tag) (status : Nat) (es : List Entry) (p : Port) (s : State) : State :=
  let (b, s1) := s.drawFree
  s1.originate
    { cls := 1, dir := .toward, epoch := b.toNat, destKind := .nodeId, destVal := tag.lead
      payload := tag.bytes ++ byte status :: byte es.length :: entriesBytes es } (.one p)

/-- Whether R43 refuses a call: the node holds the lead role, or is in SURVEY, its survey hold running, for another lead. -/
def State.refusesCall (tag : Tag) (s : State) : Bool :=
  s.isLead || (decide (s.census.cs = .survey) && s.census.hold.isSome
    && (match s.census.tag with
        | some t => decide (t.lead ≠ tag.lead)
        | none => false))

/-- A CENSUS_CALL received on end `x` (R43 to R46): refused with TWO_LEADS, TOO_LONG or DUPLICATE_ID, or taken and then extended or
returned as tail. `x` is the number the end had at the arrival, and a frame leaves by the port that carries its number now (R26; log 31). -/
def State.takeCall (x : EndNo) (c : CallIn) (s : State) : State :=
  if s.refusesCall c.tag then s.sendReturn c.tag 3 [] (s.endPort x)
  else if 32 ≤ c.entries.length then s.sendReturn c.tag 1 [] (s.endPort x)
  else if c.entries.any fun e => decide (e.id = s.nodeId) then s.sendReturn c.tag 2 [] (s.endPort x)
  else
    let es := c.entries ++ [s.ownEntry (endOrientation x)]
    let s1 := { s with census := { s.census with
      position := es.length, orient := endOrientation x, leadEnd := some x, tag := some c.tag,
      hold := some Config.surveyHoldMs } }
    let s2 := s1.enterCensus .survey
    if s2.mated (s2.endPort x.other) then s2.sendCall c.tag es (s2.endPort x.other)
    else s2.sendReturn c.tag 0 es (s2.endPort x)

/-- The survey hold expires in SURVEY (R47). A stopped hold does not expire (log 3). -/
def State.surveyTimeout (s : State) : State :=
  if s.census.cs = .survey ∧ s.census.hold ≠ none then
    let s1 := { s with census := { s.census with hold := none, tag := none } }
    let s2 := s1.fallBack
    if s.hasTable then s2 else { s2 with census := { s2.census with position := 0, leadEnd := none } }
  else s

/-- Whether an announce passes every test of R48. -/
def State.soundAnnounce (a : AnnounceIn) (s : State) : Bool :=
  decide (s.census.tag = some a.tag) && decide (1 ≤ a.epoch) && decide (a.epoch ≤ 255) && a.counted
    && decide (1 ≤ a.entries.length) && decide (a.entries.length ≤ 32) && distinctIds a.entries
    && decide (1 ≤ s.census.position)
    && (match a.entries[s.census.position - 1]? with
        | some e => decide (e.id = s.nodeId) && decide (e.orient = s.census.orient)
        | none => false)

/-- A CONSIST_ANNOUNCE at a node in SURVEY without the lead role: installed (R48), or not, and then reported as a mismatch (R49).
Elsewhere it is ignored (R50). -/
def State.takeAnnounce (a : AnnounceIn) (s : State) : State :=
  if s.census.cs = .survey ∧ s.census.lead = .off then
    if s.soundAnnounce a then
      let s1 := s.install a.epoch a.entries
      let s2 := { s1 with census := { s1.census with cs := .settled, hold := none, tag := none, staleArmed := true } }
      s2.dropOldEpoch.superviseAsMember s2.line.flag
    else
      let s1 := { s with census := { s.census with hold := none, tag := none } }
      (s1.fallBack).seeTopology.sendTopologyChange .announceMismatch
  else s

/-- The census controller reads a beacon's header epoch at a node without the lead role (R52). -/
def State.censusBeacon (epoch : Nat) (s : State) : State :=
  if s.isLead then s
  else
    match s.census.cs with
    | .settled =>
      if epoch = s.census.epoch then s else (s.enterCensus .stale).seeTopology.sendTopologyChange .epochMismatch
    | .stale | .detached =>
      if s.census.staleArmed then
        let s1 := s.seeTopology.sendTopologyChange .notInTable
        { s1 with census := { s1.census with staleArmed := false } }
      else s
    | .survey => s

end Sys2Proof.Machine
end

