-- ==== Sys2Proof/Machine/Clock.lean ====
section
/-! DEFINITION. The cycle clock and the beacon (chapter 4, R62 to R67). -/

namespace Sys2Proof.Machine

/-- The cycle start of the clock's cycle number: it is marked, the heater switch does its work and the summary ages (R62, R110,
R138). -/
def State.cycleStart (s : State) : State :=
  (({ s with line := { s.line with lastStart := some s.line.cyc } } : State).heaterCycleStart s.line.cyc).ageSummary

/-- The work timed at an index other than a cycle start: DOOR_STATE at 5, HEAT_DEMAND at 10, the computation of a lead in HOLDING at
16 (R62, R99, R120, R128). -/
def State.indexWork (s : State) : State :=
  if s.line.idx = 5 then s.doorStateWork
  else if s.line.idx = 10 then s.demandWork
  else if s.line.idx = 16 ∧ s.holding = true then s.compute
  else s

/-- An index entry of the pair the clock holds (R62): a cycle start when it is index 0 of a cycle not yet marked; the heater switch
reads the slot position at each (R63; log 15). -/
def State.indexEntry (s : State) : State :=
  if s.line.idx = 0 ∧ s.line.lastStart ≠ some s.line.cyc then s.cycleStart else s.readSlot.indexWork

/-- The BEACON frame (R64, 12.4). -/
def State.beaconSending (s : State) : Sending :=
  { cls := 4, dir := .away, epoch := s.census.epoch, destKind := .broadcast, destVal := 0
    payload := [byte s.line.idx, byte s.line.cyc, boolByte s.line.zsp] ++ idBytes s.nodeId }

/-- A beacon sent while beacon sending is on (R64). -/
def State.sendBeacon (s : State) : State :=
  if s.line.beaconOn then s.originate s.beaconSending (.one s.nonCabPort) else s

/-- The clock advanced by its own tick (R62). -/
def Supervisor.advance (l : Supervisor) : Supervisor :=
  if 19 ≤ l.idx then { l with idx := 0, cyc := (l.cyc + 1) % 256, tick := 0 } else { l with idx := l.idx + 1, tick := 0 }

/-- The tick reaches 100 ms (R62): the index advances, the index entry is made, and a lead in HOLDING sends its beacon (R64; log
15). -/
def State.cycleTick (s : State) : State := ({ s with line := s.line.advance } : State).indexEntry.sendBeacon

/-- A 20 ms boundary of the tick (R63): the slot position moves to the one after the position last read, unless that was the fifth
of its index, and the outputs are set (log 28). -/
def State.slotBoundary (s : State) : State :=
  let part := s.heater.slot - 5 * s.line.idx
  if part < 4 then ({ s with line := { s.line with tick := max s.line.tick (20 * (part + 1)) } } : State).readSlot else s

/-- The realignment of the clock by a beacon (R65), and its index entry where the pair differs. -/
def State.realign (b : BeaconIn) (s : State) : State :=
  let s1 := { s with line := { s.line with idx := b.idx, cyc := b.cyc, tick := 0 } }
  if s.line.idx = b.idx ∧ s.line.cyc = b.cyc then s1.readSlot else s1.indexEntry

/-- A beacon at the line supervisor (R65, R67): disregarded in HOLDING and for an index above 19; else the clock is realigned, and at a
SETTLED node without the lead role a beacon of the installed epoch is accepted for supervision. -/
def State.supervisorBeacon (epoch : Nat) (b : BeaconIn) (s : State) : State :=
  if s.holding = true ∨ 19 < b.idx then s
  else
    let s1 := s.realign b
    if s1.settled = true ∧ s1.census.lead = .off ∧ epoch = s1.census.epoch then s1.acceptBeacon b.flag else s1

/-- A delivered BEACON (R65, R67, R52): the line supervisor takes it and then the census controller (log 16). A payload of another length
than 7 bytes is discarded (R181). -/
def State.takeBeacon (f : Frame) (s : State) : State :=
  match readBeacon f.payload with
  | some b => (s.supervisorBeacon f.epoch b).censusBeacon f.epoch
  | none => s

end Sys2Proof.Machine
end

