-- ==== Sys2Proof/Machine/Reply.lean ====
section
/-! DEFINITION. Management replies (R172, R179, 12.5): statuses, the cutting of results into parts, and the two routes a reply takes; and
the requests that no command names, which are answered as soon as they are oldest (log 21). -/

namespace Sys2Proof.Machine

/-- The status of a reply (12.5). -/
inductive Status where
  | ok
  | busy
  | refused
  | notPermitted
  | badRequest
  | badRange
  deriving DecidableEq, Repr

/-- Status codes (12.5). -/
def Status.code : Status → Nat
  | .ok => 0
  | .busy => 1
  | .refused => 2
  | .notPermitted => 3
  | .badRequest => 4
  | .badRange => 5

/-- What a request is answered: a status and results, or nothing yet (a STORE taken, R176). -/
inductive Answer where
  | now (status : Status) (results : List Byte)
  | later
  deriving DecidableEq, Repr

/-- An answer without results. -/
def Answer.plain (st : Status) : Answer := .now st []

/-- Results cut in order into pieces of at most `size` bytes, at most `fuel` of them; a short result is one piece (R172). -/
def pieces : Nat → Nat → List Byte → List (List Byte)
  | 0, _, _ => []
  | n + 1, size, bs => if bs.length ≤ size then [bs] else bs.take size :: pieces n size (bs.drop size)

/-- The parts of a reply from piece number `k` on: envelope and piece, the last one marked (12.5). -/
def replyParts (kind tag : Nat) (st : Status) : Nat → List (List Byte) → List (List Byte)
  | _, [] => []
  | k, p :: ps =>
    (byte kind :: (be16 tag ++ [byte st.code, byte (k + if ps.isEmpty then 128 else 0)] ++ p)) :: replyParts kind tag st (k + 1) ps

/-- Results that one part carries in a line frame (12.5). -/
def linePartBytes : Nat := 259

/-- Results that one part carries in a coach link message (12.5). -/
def linkPartBytes : Nat := 67

/-- The payloads of a reply whose parts carry `size` bytes of results each. -/
def replyPayloads (kind tag : Nat) (st : Status) (results : List Byte) (size : Nat) : List (List Byte) :=
  replyParts kind tag st 0 (pieces Config.maxParts size results)

/-- The places that an answer needs in the transmit queue: its parts, to a most of 8 (R179). A STORE reply is one part. -/
def Answer.places : Answer → Nat
  | .now _ results => min Config.txPlaces (pieces Config.maxParts linkPartBytes results).length
  | .later => 1

/-- One part of a reply sent as a frame of class 10 (R172). -/
def State.sendReplyFrame (port : Port) (asker : NodeId) (dir : Dir) (payload : List Byte) (s : State) : State :=
  s.originate
    { cls := 10, dir := dir.opposite, epoch := s.shownEpoch, destKind := .nodeId, destVal := asker, payload := payload } (.one port)

/-- The parts of a reply enter the transmit queue together in the `places` reserved for them, and the rest wait for places that free
(R179). -/
def Link.enterReply (l : Link) (places : Nat) (parts : List Message) : Link :=
  Link.start
    { l with txQ := l.txQ ++ parts.take places, reserved := l.reserved - places, backlog := l.backlog ++ parts.drop places }

/-- A reply goes back by the route of its request (R172). -/
def State.sendReply (o : Origin) (kind tag : Nat) (st : Status) (results : List Byte) (s : State) : State :=
  match o with
  | .line port asker dir =>
    (replyPayloads kind tag st results linePartBytes).foldl (fun acc p => acc.sendReplyFrame port asker dir p) s
  | .coachLink =>
    let parts := (replyPayloads kind tag st results linkPartBytes).map fun p => { kind := 0x81, payload := p }
    { s with link := s.link.enterReply (Answer.now st results).places parts }

/-- An answer sent now, or left for later. -/
def State.sendAnswer (o : Origin) (r : Request) (a : Answer) (s : State) : State :=
  match a with
  | .now st results => s.sendReply o r.kind r.tag st results
  | .later => s

/-- Whether a code names a request (12.5). -/
def isRequestCode (code : Nat) : Bool := decide (1 ≤ code) && decide (code ≤ 22)

/-- The route back of a delivered request (R172). -/
def Delivery.origin (d : Delivery) : Origin := .line d.port d.frame.srcId d.frame.dir

/-- Line requests that no command names, taken as soon as they are oldest: one too short is discarded (R181), one of an unknown type is
answered BAD_REQUEST (R173; log 21). -/
def State.drainLineFuel : Nat → State → State
  | 0, s => s
  | n + 1, s =>
    match takeClass 9 s.delivered with
    | none => s
    | some (d, rest) =>
      match readRequest d.frame.payload with
      | none => State.drainLineFuel n { s with delivered := rest }
      | some r =>
        if isRequestCode r.kind then s
        else State.drainLineFuel n (({ s with delivered := rest } : State).sendAnswer d.origin r (.plain .badRequest))

/-- The line requests that no command names, as many as stand first. -/
def State.drainLine (s : State) : State := State.drainLineFuel s.delivered.length s

end Sys2Proof.Machine
end

