-- ==== Sys2Proof/Machine/Relay.lean ====
section
/-! DEFINITION. The end units and the relay unit (chapters 1 and 2): pilot windows, reception, classification, relaying, coach data, and
the tests with which the blocks take delivered frames. -/

namespace Sys2Proof.Machine

/-! ## Pilot windows (R4 to R7) -/

/-- The window edge count saturates at 255 (R4). -/
def windowEdges (before edges : Nat) : Nat := min 255 (before + edges)

/-- Whether a window is good: 16 to 24 edges (R4). -/
def goodWindow (edges : Nat) : Bool := decide (16 ≤ edges) && decide (edges ≤ 24)

/-- The good windows in a row that make an end MATED (R5). -/
def windowsToMate : Nat := 20

/-- The bad windows in a row that part a MATED end (R5). -/
def windowsToPart : Nat := 5

/-- The pilot state and counters of an end after a window judged `good` (R5), with an edge count of 0 for the next window. -/
def LinePort.pilotMove (x : LinePort) (good : Bool) : LinePort :=
  match x.pilot with
  | .parted => if good then { x with good := 1, pilot := .mating, edges := 0 } else { x with edges := 0 }
  | .mating =>
    if good then
      if x.good + 1 < windowsToMate then { x with good := x.good + 1, edges := 0 }
      else { x with good := 0, pilot := .mated, edges := 0 }
    else { x with good := 0, pilot := .parted, edges := 0 }
  | .mated =>
    if good then { x with bad := 0, edges := 0 }
    else if x.bad + 1 < windowsToPart then { x with bad := x.bad + 1, edges := 0 }
    else { x with bad := 0, pilot := .parted, edges := 0 }

/-- The frames a port holds for sending: in its transmitter and its two queues. -/
def LinePort.held (x : LinePort) : Nat := (if x.tx.isSome then 1 else 0) + x.urgentQ.length + x.normalQ.length

/-- The traffic of a port discarded as its end leaves MATED (R7). -/
def LinePort.flush (x : LinePort) : LinePort := { x with tx := none, rx := none, urgentQ := [], normalQ := [] }

/-- The receiver armed and the transmitter ready as an end enters MATED (R6). -/
def LinePort.arm (x : LinePort) : LinePort := { x with tx := none, rx := none }

/-- The window of a port closes (R4 to R7, R15). -/
def State.pilotWindow (p : Port) (edges : Nat) (s : State) : State :=
  let x := s.port p
  let y := x.pilotMove (goodWindow (windowEdges x.edges edges))
  if x.pilot ≠ .mated ∧ y.pilot = .mated then (s.setPort p y.arm).matedReport true (s.portEnd p)
  else if x.pilot = .mated ∧ y.pilot ≠ .mated then
    ((s.setPort p y.flush).countTimes x.held 4).matedReport false (s.portEnd p)
  else s.setPort p y

/-! ## Classification (R17 to R25, R31) -/

/-- The result of the destination test (R18). -/
inductive Verdict where
  | both
  | deliver
  | relay
  deriving DecidableEq, Repr

/-- The destination test (R18). -/
def State.destTest (kind : DestKind) (val : BitVec 32) (s : State) : Verdict :=
  match kind with
  | .broadcast => .both
  | .position => if s.settled = true ∧ val.toNat = s.census.position then .deliver else .relay
  | .nodeId => if val = s.nodeId then .deliver else .relay
  | .lead => if s.census.lead = .calling ∨ s.census.lead = .holding then .deliver else .relay

/-- The test of a frame of a fixed class (R20): CENSUS_CALL is always delivered and never relayed, TOPOLOGY_CHANGE to LEAD is delivered
wherever the lead role is held, whatever its census state. -/
def State.fixedTest (f : Frame) (s : State) : Verdict :=
  if f.cls = 0 then .deliver
  else if f.cls = 3 ∧ f.destKind = .lead then (if s.isLead then .deliver else .relay)
  else s.destTest f.destKind f.destVal

/-- A frame waits for its block (R12, R17; log 6). -/
def State.deliverFrame (p : Port) (f : Frame) (s : State) : State :=
  { s with delivered := s.delivered ++ [{ port := p, endNo := s.portEnd p, frame := f }] }

/-- A NOTICE frame delivered becomes one NOTICE message (R20, 12.9), its flag, flag set and reason as they came (log 34); of another
length than 4 bytes it is discarded (R181). -/
def State.deliverNotice (f : Frame) (s : State) : State :=
  if f.payload.length = 4 then
    s.pushMessage { kind := 0x82, payload := idBytes f.srcId ++ [byte f.srcPos] ++ f.payload }
  else s

/-- A delivered frame of a fixed class handed to its block (R20). A MGMT_RESPONSE is discarded; a MGMT_REQUEST is too when it is
addressed by BROADCAST or LEAD (R172). -/
def State.deliverFixed (p : Port) (f : Frame) (s : State) : State :=
  if f.cls = 11 then s.deliverNotice f
  else if f.cls = 10 then s
  else if f.cls = 9 then
    match f.destKind with
    | .position | .nodeId => s.deliverFrame p f
    | .broadcast | .lead => s
  else s.deliverFrame p f

/-- A relayed copy (R24, R25): one hop more, offered to the opposite port, or no copy (BROADCAST) or code 4 where that end is not
MATED. -/
def State.relayFrame (p : Port) (urgent : Bool) (f : Frame) (s : State) : State :=
  s.sendOne State.count (otherPort p) urgent { f with hop := f.hop + 1 }

/-- The class table entry of a class. -/
def State.classEntry (cls : Nat) (s : State) : ClassEntry := s.mgmt.working.cls.getD cls ClassEntry.defaultData

/-- The count code of a frame's class counted, if its entry has one (R19). -/
def State.countClass (cls : Nat) (s : State) : State :=
  match (s.classEntry cls).countCode with
  | some code => s.count code
  | none => s

/-- Handling of a frame of classes 0 to 11: delivered, relayed or both (R20; log 30). -/
def State.handleFixed (p : Port) (f : Frame) (s : State) : State :=
  match s.fixedTest f with
  | .deliver => s.deliverFixed p f
  | .relay => s.relayFrame p (s.classUrgent f.cls) f
  | .both => (s.deliverFixed p f).relayFrame p (s.classUrgent f.cls) f

/-- The largest payload of a coach data frame that one COACH_DATA message carries (R182). -/
def maxCoachData : Nat := 64

/-- A delivered coach data frame: one COACH_DATA message, or code 15 where its payload is too long (R23, 12.6). -/
def State.deliverData (f : Frame) (s : State) : State :=
  if f.payload.length ≤ maxCoachData then
    s.pushMessage
      { kind := 0x83
        payload := [byte f.cls] ++ idBytes f.srcId ++ [byte f.srcPos, byte f.epoch, byte f.dir.code] ++ f.payload }
  else s.count 15

/-- Whether a direction restriction allows a direction (R21). -/
def Restriction.allows (r : Restriction) (d : Dir) : Bool :=
  match r, d with
  | .any, _ => true
  | .awayOnly, .away => true
  | .awayOnly, .toward => false
  | .towardOnly, .toward => true
  | .towardOnly, .away => false

/-- Whether a coach data frame of this action is delivered and whether it is relayed, by the result of the destination test (R22). -/
def dataOutcome (a : ClassAction) (v : Verdict) : Bool × Bool :=
  match a, v with
  | .both, .both => (true, true)
  | .both, .deliver => (true, false)
  | .both, .relay => (false, true)
  | .deliver, .both => (true, false)
  | .deliver, .deliver => (true, false)
  | .deliver, .relay => (false, false)
  | .relay, .both => (false, true)
  | .relay, .deliver => (false, false)
  | .relay, .relay => (false, true)
  | .drop, _ => (false, false)

/-- Handling of a received coach data frame by its class table entry (R22, R23). -/
def State.handleData (p : Port) (f : Frame) (s : State) : State :=
  let e := s.classEntry f.cls
  if e.needsSettled = true ∧ s.settled = false then s
  else if e.restrict.allows f.dir = false then s
  else
    let out := dataOutcome e.action (s.destTest f.destKind f.destVal)
    let s1 := if out.1 then s.deliverData f else s
    if out.2 then s1.relayFrame p e.urgent f else s1

/-- Classification of a frame that arrived at a port (R17): its count code, with a NOTICE which that count sends, and then its handling by
class (log 36). -/
def State.classify (p : Port) (f : Frame) (s : State) : State :=
  let s1 := s.countClass f.cls
  if f.cls ≤ 11 then s1.handleFixed p f else s1.handleData p f

/-! ## Reception (R8 to R12) -/

/-- A closed assembly checked (R9 to R11) and, if it passes, handed over (R12). -/
def State.receive (p : Port) (a : Assembly) (s : State) : State :=
  match checkFrame a with
  | .bad => s.count 0
  | .hopLimit => s.count 1
  | .good f => s.classify p f

/-- The assembly of a MATED end closes with the bytes that came (R8); at a new frame start another assembly begins. Other ends ignore the
line. DESIGN CHOICE (log 38), unsafe: no command begins an assembly at an ordinary frame start, so that a frame which began by one comes
whole with the command that closes it, and where no assembly is held the bytes brought are taken as a frame whose start was seen. -/
def State.frameClosed (p : Port) (bytes : List Byte) (byStart : Bool) (s : State) : State :=
  if s.mated p then
    let a := ((s.port p).rx.getD Assembly.empty).extend bytes
    let s1 := s.setPort p { s.port p with rx := if byStart then some Assembly.empty else none }
    (s1.receive p a).drainLine
  else s

/-- A transmission completes, and the transmitter takes the next frame (R14, R28). An idle transmitter completes none (log 3). -/
def State.txComplete (p : Port) (s : State) : State :=
  if (s.port p).tx = none then s else s.setPort p { s.port p with tx := none }.takeNext

/-! ## Coach data of the node's own coach (R27a) -/

/-- The lead end for coach data: a lead takes its cab end, another node its recorded lead end (R27a). -/
def State.dataLeadEnd (s : State) : Option EndNo :=
  if s.isLead then some s.mgmt.working.coach.cabEnd else s.census.leadEnd

/-- Where a coach data frame leaves: by the lead end, by the away end, or by both (R27a). -/
inductive DataWay where
  | toward
  | away
  | both
  deriving DecidableEq, Repr

/-- The way of a coach data frame by its destination (R27a). -/
def State.dataWay (kind : DestKind) (val : BitVec 32) (s : State) : DataWay :=
  if s.settled then
    match kind with
    | .position => if val.toNat < s.census.position then .toward else .away
    | .lead => .toward
    | .broadcast => .both
    | .nodeId => .both
  else .both

/-- One frame of coach data by one named end, if the restriction allows its direction (R27a, R26). -/
def State.sendData (e : ClassEntry) (m : Sending) (p : Port) (named : Bool) (s : State) : State :=
  if e.restrict.allows m.dir then
    let f := s.complete m
    if named then s.sendOne State.count p f.urgent f else s.sendCopy State.count p f.urgent f
  else s

/-- Coach data of a class given to the line (R27a): by the lead end TOWARD, by the away end AWAY, or by both, where end 1 is served first
(log 20), a drop there sends its NOTICE before end 2 is offered its copy (log 36), and a node without a lead end takes end 1 as TOWARD. -/
def State.originateData (cls : Nat) (kind : DestKind) (val : BitVec 32) (payload : List Byte) (s : State) : State :=
  let e := s.classEntry cls
  let leadEnd := s.dataLeadEnd.getD .one
  let m : Dir → Sending := fun dir =>
    { cls := cls, dir := dir, epoch := s.shownEpoch, destKind := kind
      destVal := match kind with
        | .broadcast => 0
        | .lead => 0
        | .position => val
        | .nodeId => val
      payload := payload }
  let dirOf : EndNo → Dir := fun x => if x = leadEnd then .toward else .away
  if e.needsSettled = true ∧ s.settled = false then s
  else if e.action = .drop then s
  else if s.isOwnDestination kind val then s
  else
    match s.dataWay kind val with
    | .toward => s.sendData e (m .toward) (s.endPort leadEnd) true
    | .away => s.sendData e (m .away) (s.endPort leadEnd.other) true
    | .both =>
      (s.sendData e (m (dirOf .one)) (s.endPort .one) false).sendData e (m (dirOf .two)) (s.endPort .two) false

/-- A COACH_DATA_SEND taken (R27a): discarded at code 15 where it is too short or names a class, kind or position out of range. -/
def State.coachDataSend (payload : List Byte) (s : State) : State :=
  match readDataSend payload with
  | some d =>
    match d.kind with
    | some k =>
      if d.cls < 12 ∨ 31 < d.cls ∨ (k = .position ∧ (d.value.toNat < 1 ∨ 32 < d.value.toNat)) then s.count 15
      else s.originateData d.cls k d.value d.payload
    | none => s.count 15
  | none => s.count 15

/-! ## Delivered frames at their blocks -/

/-- A delivered CENSUS_CALL at the census controller (R43 to R46, R181). -/
def Delivery.callAct (d : Delivery) (s : State) : State :=
  match readCall d.frame.payload with
  | some c => s.takeCall d.endNo c
  | none => s

/-- A delivered CENSUS_RETURN at the census controller (R38, R39, R181). -/
def Delivery.returnAct (d : Delivery) (s : State) : State :=
  match readReturn d.frame.payload with
  | some r => s.takeReturn r
  | none => s

/-- A delivered CONSIST_ANNOUNCE at the census controller (R48 to R50, R181). -/
def Delivery.announceAct (d : Delivery) (s : State) : State :=
  match readAnnounce d.frame.payload with
  | some a => s.takeAnnounce a
  | none => s

/-- A delivered DOOR_ORDER at the door controller (R78, R181). -/
def Delivery.orderAct (d : Delivery) (s : State) : State :=
  match readDoorOrder d.frame.payload with
  | some o => (s.takeOrder o).2
  | none => s

/-- Whether a DOOR_STATE report passes the tests 1 to 4 of R107. -/
def State.doorStatePasses (src : NodeId) (r : DoorStateIn) (s : State) : Bool :=
  s.holding && decide (r.epoch = s.census.epoch) && decide (2 ≤ r.pos) && decide (r.pos ≤ s.summary.recs.length)
    && s.summary.recs.any fun x => decide (x.pos = r.pos) && decide (x.id = src)

/-- A delivered DOOR_STATE at the door summary (R107, R108). -/
def Delivery.doorStateAct (d : Delivery) (s : State) : State :=
  match readDoorState d.frame.payload with
  | some r =>
    match r.side1, r.side2 with
    | some a, some b => if s.doorStatePasses d.frame.srcId r then s.recordDoors r.pos a b r.permit else s
    | _, _ => s
  | none => s

/-- Whether a HEAT_DEMAND passes the tests of R124. -/
def State.demandPasses (src : NodeId) (r : DemandIn) (s : State) : Bool :=
  s.holding && decide (r.epoch = s.census.epoch) && decide (2 ≤ r.pos) && decide (r.pos ≤ s.alloc.recs.length)
    && (s.alloc.recs.any fun x => decide (x.pos = r.pos) && decide (x.id = src))
    && decide (r.rating ≤ 2047) && decide (r.demand ≤ 100) && decide (r.priority ≤ 1)

/-- A delivered HEAT_DEMAND at the heating allocator (R124). -/
def Delivery.demandAct (d : Delivery) (s : State) : State :=
  match readHeatDemand d.frame.payload with
  | some r => if s.demandPasses d.frame.srcId r then s.recordDemand r.pos r.rating r.demand (decide (r.priority = 1)) else s
  | none => s

/-- The grant a HEAT_GRANT names at a position; none where its list does not reach it or the position is 0 (R182). -/
def GrantIn.at' (g : GrantIn) (pos : Nat) : Option Nat := if pos = 0 then none else g.grants[pos - 1]?

/-- A delivered HEAT_GRANT at the heater switch (R137): staged when it passes the four tests. -/
def Delivery.grantAct (d : Delivery) (s : State) : State :=
  match readHeatGrant d.frame.payload with
  | some g =>
    match g.at' s.census.position with
    | some x =>
      if s.settled = true ∧ s.holding = false ∧ g.epoch = s.census.epoch ∧ 1 ≤ g.n ∧ g.n ≤ 32 ∧ s.census.position ≤ g.n ∧ x ≤ 2047
      then s.stageGrant { grant := x, epoch := g.epoch, cyc := g.cyc }
      else s
    | none => s
  | none => s

end Sys2Proof.Machine
end

