-- ==== Sys2Proof/Machine/Converter.lean ====
section
/-! DEFINITION. The sense converter at work (chapter 9): the pacer, the completion of a conversion, capture, SAMPLE and SET SENSE. -/

namespace Sys2Proof.Machine

/-! ## The pacer (R152) -/

/-- The channel that follows a channel of a SCAN; the last one is followed by none, and its own number stands. -/
def scanNext (stop ch : Nat) : Nat := if ch < stop then ch + 1 else ch

/-- The channel that follows a channel of a SCAN_CONT (R152). -/
def rotationNext (stop ch : Nat) : Nat := if ch < stop then ch + 1 else 0

/-- A tick of a running pacer with no conversion in flight (R152, R153): the next conversion starts and the pacer runs on. -/
def Sense.tick (c : Sense) : Sense :=
  match c.mode with
  | .single => c
  | .singleCont => { c with conv := some c.selected, pacer := some c.interval }
  | .scanCont => { c with conv := some c.rotation, rotation := rotationNext c.stop c.rotation, pacer := some c.interval }
  | .scan =>
    match c.scan with
    | some ch => { c with conv := some ch, scan := some (scanNext c.stop ch), pacer := some c.interval }
    | none => c

/-- The pacer ticks. A stopped pacer does not tick, and a conversion completes before the next tick (R152; log 3). -/
def State.pacerTick (s : State) : State :=
  if s.sense.pacer ≠ none ∧ s.sense.conv = none then { s with sense := s.sense.tick } else s

/-! ## The completion of a conversion (R154, R160) -/

/-- A code at the tail of a window of 8, the oldest leaving a full one (R154). -/
def pushCode (w : List Code) (c : Code) : List Code :=
  if w.length < Config.windowCodes then w ++ [c] else w.drop 1 ++ [c]

/-- A code taken into its channel (R154, step 1). -/
def Channel.take (ch : Channel) (c : Code) : Channel := { ch with window := pushCode ch.window c, age := some 0 }

/-- A code taken into the on-window of a group whose output level is on (R154, step 2). -/
def OnWindow.take (w : OnWindow) (c : Code) : OnWindow :=
  if w.level then { w with window := pushCode w.window c, count := min 255 (w.count + 1) } else w

/-- Whether the sample of a completion enters the capture FIFO (R160). -/
def Sense.captures (c : Sense) : Bool := c.capture && decide (c.fifo.length < Config.fifoEntries)

/-- A sample offered to the capture FIFO (R154, step 3; R160). -/
def Sense.offerCapture (c : Sense) (e : Captured) : Sense :=
  if c.capture then
    if c.fifo.length < Config.fifoEntries then { c with fifo := c.fifo ++ [e] } else { c with lost := min 65535 (c.lost + 1) }
  else c

/-- The end of a SCAN as the conversion of its stop channel completes (R153). -/
def Sense.endScan (c : Sense) (ch : Nat) : Sense :=
  if c.mode = .scan ∧ ch = c.stop then { c with scan := none, pacer := none } else c

/-- A code taken as a sample of its channel (R154): the three steps in order, and the end of a SCAN. -/
def Sense.sample (c : Sense) (e : Captured) : Sense :=
  let c1 := { c with conv := none, channels := c.channels.modify e.channel fun x => x.take e.code }
  let c2 := { c1 with onWins := c1.onWins.modify e.channel fun w => w.take e.code }
  (c2.offerCapture e).endScan e.channel

/-- The entries that bring the capture FIFO to its half (R160). -/
def halfEntries : Nat := 16

/-- The conversion in flight completes with a code (R154, R160). With none in flight nothing completes (log 3). -/
def State.conversionDone (code : Code) (s : State) : State :=
  match s.sense.conv with
  | some ch =>
    let e : Captured := { channel := ch, code := code, idx := s.line.idx, slot := s.line.slotPosition }
    let s1 := { s with sense := s.sense.sample e }
    if s.sense.captures = true ∧ s1.sense.fifo.length = halfEntries then s1.raise .captureHalf else s1
  | none => s

/-! ## SAMPLE (R153) -/

/-- A SAMPLE by mode and state: its status, and the converter after it (R153). -/
def Sense.sampleRequest (c : Sense) : Status × Sense :=
  match c.mode with
  | .single => if c.conv = none then (.ok, { c with conv := some c.selected }) else (.busy, c)
  | .scan =>
    if c.scan = none then
      (.ok, { c with scan := some (scanNext c.stop 0), conv := some 0, pacer := some c.interval })
    else (.busy, c)
  | .singleCont | .scanCont => (.refused, c)

/-! ## Capture requests (R160, R161) -/

/-- START CAPTURE (R160). -/
def Sense.startCapture (c : Sense) : Sense := if c.capture then c else { c with capture := true, fifo := [], lost := 0 }

/-- STOP CAPTURE (R160). -/
def Sense.stopCapture (c : Sense) : Sense := { c with capture := false }

/-- The most entries one READ CAPTURE returns (R161). -/
def captureRead : Nat := 16

/-! ## SET SENSE (R157) -/

/-- The settings a SET SENSE carries (12.10). -/
structure SenseSettings where
  mode : SenseMode
  stop : Nat
  selected : Nat
  interval : Nat
  gains : List Nat
  deriving DecidableEq, Repr

/-- Whether a gain is one of the four (R157). -/
def goodGain (g : Nat) : Bool := decide (g = 1 ∨ g = 2 ∨ g = 4 ∨ g = 8)

/-- The settings in the argument bytes of a SET SENSE, none where one lies outside its range (R157). -/
def readSettings : List Byte → Option SenseSettings
  | m :: st :: sel :: iv :: gains =>
    match SenseMode.ofCode m.toNat with
    | some mode =>
      if st.toNat ≤ 7 ∧ sel.toNat ≤ 7 ∧ 1 ≤ iv.toNat ∧ (gains.all fun g => goodGain g.toNat) = true then
        some { mode := mode, stop := st.toNat, selected := sel.toNat, interval := iv.toNat, gains := gains.map BitVec.toNat }
      else none
    | none => none
  | _ => none

/-- Whether new settings empty the windows: mode, stop channel or a gain differs (R157). -/
def Sense.emptiedBy (c : Sense) (t : SenseSettings) : Bool :=
  decide (t.mode ≠ c.mode) || decide (t.stop ≠ c.stop) || decide (t.gains ≠ c.channels.map Channel.gain)

/-- The converter with new settings in force (R157): conversion and SCAN ended, the pacer stopped or started afresh, windows emptied
where the change calls for it. -/
def Sense.change (c : Sense) (t : SenseSettings) : Sense :=
  let empty := c.emptiedBy t
  { c with
    mode := t.mode, stop := t.stop, selected := t.selected, interval := t.interval, conv := none, scan := none, rotation := 0
    pacer := if t.mode = .singleCont ∨ t.mode = .scanCont then some t.interval else none
    channels := if empty then t.gains.map fun g => { gain := g, window := [], age := none } else c.channels
    onWins := if empty then c.onWins.map fun w => { w with window := [], count := 0 } else c.onWins }

/-- An accepted SET SENSE (R157): the settings, the coverage handed to the heater switch, and SENSE_DEGRADED where the condition begins
(R156). -/
def State.changeSense (t : SenseSettings) (s : State) : State :=
  let s1 := ({ s with sense := s.sense.change t } : State).handCoverage s.sense
  if s.sense.degraded = false ∧ s1.sense.degraded = true then s1.raise .senseDegraded else s1

end Sys2Proof.Machine
end

