-- ==== Sys2Proof/Machine/Link.lean ====
section
/-! DEFINITION. The coach link (R179, R180) and the messages its blocks take: DEMAND (R115), DOOR_REPORT (R97) and DOOR_COMMAND (R75 to
R77). COACH_DATA_SEND and requests that no command names are taken as soon as they are oldest (log 21). -/

namespace Sys2Proof.Machine

/-! ## Buffers -/

/-- The receive buffers without the oldest message. -/
def State.dropOldest (s : State) : State := { s with link := { s.link with rx := s.link.rx.drop 1 } }

/-- Messages that no command names, taken as soon as they are oldest: COACH_DATA_SEND (R27a), a request too short to be one (R181), and,
when a place is free for its reply, a request of an unknown type (R173). -/
def State.drainLinkFuel : Nat → State → State
  | 0, s => s
  | n + 1, s =>
    match s.link.rx with
    | [] => s
    | m :: _ =>
      if m.kind = 5 then State.drainLinkFuel n (s.dropOldest.coachDataSend m.payload)
      else if m.kind = 4 then
        match readRequest m.payload with
        | none => State.drainLinkFuel n (s.dropOldest.count 15)
        | some r =>
          if isRequestCode r.kind then s
          else if 0 < s.link.free then
            let s1 := s.dropOldest
            let s2 := { s1 with link := { s1.link with reserved := s1.link.reserved + 1 } }
            State.drainLinkFuel n (s2.sendAnswer .coachLink r (.plain .badRequest))
          else s
      else s

/-- The messages that no command names, as many as stand first. -/
def State.drainLink (s : State) : State := State.drainLinkFuel s.link.rx.length s

/-- The oldest message taken by its block, where it is of that kind; nothing happens where it is not (R179; log 3). -/
def State.takeMessage (kind : Nat) (act : List Byte → State → State) (s : State) : State :=
  match s.link.rx with
  | m :: _ => if m.kind = kind then (act m.payload s.dropOldest).drainLink else s
  | [] => s

/-! ## The receiver (R179) -/

/-- A complete message checked: a good one enters a free buffer; code 15 for a bad one or an overrun (R179). -/
def State.closeMessage (bytes : List Byte) (s : State) : State :=
  match checkMessage bytes with
  | some m =>
    if s.link.rx.length < Config.rxBuffers then { s with link := { s.link with rx := s.link.rx ++ [m] } }.drainLink else s.count 15
  | none => s.count 15

/-- One byte at the receiver (R179): a start byte between messages begins one, other bytes there are ignored, and in assembly it is data
that may complete the message. -/
def State.receiveByte (b : Byte) (s : State) : State :=
  match s.link.asm with
  | none => if b = startByte then { s with link := { s.link with asm := some [] } } else s
  | some bs =>
    let all := bs ++ [b]
    if messageComplete all then ({ s with link := { s.link with asm := none } } : State).closeMessage all
    else { s with link := { s.link with asm := some all } }

/-- Bytes at the receiver, in order. -/
def State.receiveBytes (bytes : List Byte) (s : State) : State := bytes.foldl (fun acc b => acc.receiveByte b) s

/-- A message in assembly is cut off by a bad byte or by silence: discarded at code 15 (R179). Between messages nothing is cut off. -/
def State.cutMessage (s : State) : State :=
  match s.link.asm with
  | some _ => ({ s with link := { s.link with asm := none } } : State).count 15
  | none => s

/-! ## The transmitter (R180) -/

/-- A transmission completes and the oldest message begins (R180). An idle transmitter completes none (log 3). -/
def State.linkTxComplete (s : State) : State :=
  if s.link.sending = none then s else { s with link := { s.link with sending := none }.start }.drainLink

/-! ## DEMAND (R115, R116) -/

/-- A DEMAND payload taken (R115): a value above 100 as 100, the hold restarted, D formed afresh. A payload of another length is discarded
at code 15 (R181). -/
def State.takeDemand (payload : List Byte) (s : State) : State :=
  match payload with
  | [b] => ({ s with heater := { s.heater with demandT := min 100 b.toNat, hold := some Config.demandHoldMs } } : State).formD
  | _ => s.count 15

/-- The demand hold expires (R116): T becomes 0. A stopped hold does not expire (log 3). -/
def State.demandTimeout (s : State) : State :=
  if s.heater.hold = none then s
  else ({ s with heater := { s.heater with demandT := 0, hold := none } } : State).formD

/-! ## DOOR_COMMAND (R75 to R77) -/

/-- The reason of a DOOR_COMMAND reply (12.7). -/
inductive CommandReason where
  | none
  | notLead
  | notSettled
  deriving DecidableEq, Repr

/-- Reason codes (12.7). -/
def CommandReason.code : CommandReason → Nat
  | .none => 0
  | .notLead => 1
  | .notSettled => 2

/-- Codes of the outcome at the lead's own side (R76, 12.7). The lead's own order is never malformed. -/
def OrderOutcome.code : OrderOutcome → Nat
  | .accepted => 0
  | .refused r => r.code
  | .outOfRange => 5
  | .malformed => 5

/-- A DOOR_COMMAND read (12.9); none where its length, train side or action is not good (R75). -/
def readDoorCommand : List Byte → Option (TrainSide × DoorAction × Nat × Nat)
  | [sd, a, f, l] =>
    match TrainSide.ofCode sd.toNat, DoorAction.ofCode a.toNat with
    | some side, some action => some (side, action, f.toNat, l.toNat)
    | _, _ => none
  | _ => none

/-- A position clamped into 1..n (R75). -/
def clampPosition (n p : Nat) : Nat := max 1 (min n p)

/-- The number N of the table in force. -/
def State.tableSize (s : State) : Nat :=
  match s.census.table with
  | some t => t.length
  | none => 0

/-- The DOOR_COMMAND reply (R76): type 20h, tag 0, one part. -/
def doorReply (st : Status) (reason : CommandReason) (more : List Byte) : Message :=
  { kind := 0x81, payload := [0x20, 0, 0, byte st.code, 0x80, byte reason.code] ++ more }

/-- The DOOR_ORDER frame of R77 (12.8). -/
def State.doorOrderSending (side : TrainSide) (action : DoorAction) (first last : Nat) (s : State) : Sending :=
  { cls := 5, dir := .away, epoch := s.census.epoch, destKind := .broadcast, destVal := 0
    payload := [byte side.code, byte action.code, byte first, byte last, byte s.census.epoch] }

/-- An accepted DOOR_COMMAND (R77, R76): the lead's own order, the DOOR_ORDER frame, the reply. -/
def State.commandDoors (side : TrainSide) (action : DoorAction) (first last : Nat) (s : State) : State :=
  let epoch := s.census.epoch
  let out := s.takeOrder { side := some side, action := some action, first := first, last := last, epoch := epoch }
  (out.2.originate (s.doorOrderSending side action first last) (.one s.nonCabPort)).pushMessage
    (doorReply .ok .none [byte epoch, byte first, byte last, byte out.1.code])

/-- A DOOR_COMMAND payload taken: the first case of R75 that fits decides (log 26). -/
def State.takeDoorCommand (payload : List Byte) (s : State) : State :=
  match readDoorCommand payload with
  | none => s.pushMessage (doorReply .badRequest .none [])
  | some (side, action, f, l) =>
    match s.census.lead with
    | .off => s.pushMessage (doorReply .refused .notLead [])
    | .calling | .blocked => s.pushMessage (doorReply .refused .notSettled [])
    | .holding =>
      let first := clampPosition s.tableSize f
      let last := clampPosition s.tableSize l
      if last < first then s.pushMessage (doorReply .badRange .none []) else s.commandDoors side action first last

end Sys2Proof.Machine
end

