-- ==== Sys2Proof/Machine/Tables.lean ====
section
/-! DEFINITION. The loadable tables field by field (11, 11.2): numbering, clamping at LOAD TABLE and reading back (R21, R103, R119, R136,
R158, R163), and the act of an accepted APPLY (R175). -/

namespace Sys2Proof.Machine

/-- The five loadable tables. -/
inductive TableName where
  | coach
  | door
  | heat
  | cls
  | sense
  deriving DecidableEq, Repr

/-- Table codes (12.7). -/
def TableName.code : TableName → Nat
  | .coach => 1
  | .door => 2
  | .heat => 3
  | .cls => 4
  | .sense => 5

/-- The table a code names (12.7). -/
def TableName.ofCode : Nat → Option TableName
  | 1 => some .coach
  | 2 => some .door
  | 3 => some .heat
  | 4 => some .cls
  | 5 => some .sense
  | _ => none

/-- The number of fields of a table (11, 11.2). -/
def TableName.fields : TableName → Nat
  | .coach => 5
  | .door => 6
  | .heat => 10
  | .cls => 160
  | .sense => 12

/-! ## Clamping -/

/-- A value held within bounds. -/
def clamp (lo hi v : Nat) : Nat := max lo (min hi v)

/-- A value read as a bit: any value other than 0 is set. -/
def bitOf (v : Nat) : Bool := decide (v ≠ 0)

/-- The code of a bit. -/
def bitCode (b : Bool) : Nat := if b then 1 else 0

/-- Field `n` of the COACH table set, clamped (11, 11.2; R163). -/
def CoachTable.set (t : CoachTable) (n v : Nat) : CoachTable :=
  match n with
  | 0 => { t with drivable := bitOf v }
  | 1 => { t with cabEnd := if v = 2 then .two else .one }
  | 2 => { t with endSwap := bitOf v }
  | 3 => { t with remoteConfig := bitOf v }
  | 4 => { t with arraySize := clamp 16 64 v }
  | _ => t

/-- Field `n` of the COACH table, coded as LOAD TABLE codes it. -/
def CoachTable.get (t : CoachTable) (n : Nat) : Nat :=
  match n with
  | 0 => bitCode t.drivable
  | 1 => endCode (some t.cabEnd)
  | 2 => bitCode t.endSwap
  | 3 => bitCode t.remoteConfig
  | 4 => t.arraySize
  | _ => 0

/-- The maximum release time, clamped: 0 stands for none, else 10 to 600 s (R103). -/
def clampRelease (v : Nat) : Nat := if v = 0 then 0 else clamp 10 600 v

/-- Field `n` of the DOOR table set, clamped (R103). -/
def DoorTable.set (t : DoorTable) (n v : Nat) : DoorTable :=
  match n with
  | 0 => { t with count1 := min 8 v }
  | 1 => { t with count2 := min 8 v }
  | 2 => { t with warnLead := clamp 5 100 v }
  | 3 => { t with warnMode := if v = 1 then .pulsed else .steady }
  | 4 => { t with closeTimeout := clamp 1 30 v }
  | 5 => { t with maxRelease := clampRelease v }
  | _ => t

/-- Field `n` of the DOOR table. -/
def DoorTable.get (t : DoorTable) (n : Nat) : Nat :=
  match n with
  | 0 => t.count1
  | 1 => t.count2
  | 2 => t.warnLead
  | 3 => t.warnMode.code
  | 4 => t.closeTimeout
  | 5 => t.maxRelease
  | _ => 0

/-- Field `n` of the HEAT table set, clamped (R119, R136). -/
def HeatTable.set (t : HeatTable) (n v : Nat) : HeatTable :=
  match n with
  | 0 => { t with enabled := bitOf v }
  | 1 => { t with g0 := min 511 v }
  | 2 => { t with g1 := min 511 v }
  | 3 => { t with g2 := min 511 v }
  | 4 => { t with g3 := min 511 v }
  | 5 => { t with preferred := bitOf v }
  | 6 => { t with fallbackCap := min 511 v }
  | 7 => { t with derate := min 100 v }
  | 8 => { t with defaultBudget := min 4095 v }
  | 9 => { t with undervolt := min 4000 v }
  | _ => t

/-- Field `n` of the HEAT table. -/
def HeatTable.get (t : HeatTable) (n : Nat) : Nat :=
  match n with
  | 0 => bitCode t.enabled
  | 1 => t.g0
  | 2 => t.g1
  | 3 => t.g2
  | 4 => t.g3
  | 5 => bitCode t.preferred
  | 6 => t.fallbackCap
  | 7 => t.derate
  | 8 => t.defaultBudget
  | 9 => t.undervolt
  | _ => 0

/-- The class action a field value stores: one that names none is stored as DROP (R21). -/
def ClassAction.ofValue : Nat → ClassAction
  | 0 => .relay
  | 1 => .deliver
  | 2 => .both
  | _ => .drop

/-- The direction restriction a field value stores: one that names none is stored as ANY (R21). -/
def Restriction.ofValue : Nat → Restriction
  | 1 => .awayOnly
  | 2 => .towardOnly
  | _ => .any

/-- Field `f` of a CLASS entry set, clamped (R21). -/
def ClassEntry.set (e : ClassEntry) (f v : Nat) : ClassEntry :=
  match f with
  | 0 => { e with action := ClassAction.ofValue v }
  | 1 => { e with urgent := decide (v = 1) }
  | 2 => { e with restrict := Restriction.ofValue v }
  | 3 => { e with needsSettled := bitOf v }
  | 4 => { e with countCode := if 16 ≤ v ∧ v ≤ 63 then some v else none }
  | _ => e

/-- Field `f` of a CLASS entry. -/
def ClassEntry.get (e : ClassEntry) (f : Nat) : Nat :=
  match f with
  | 0 => e.action.code
  | 1 => bitCode e.urgent
  | 2 => e.restrict.code
  | 3 => bitCode e.needsSettled
  | 4 => e.countCode.getD 0
  | _ => 0

/-- A range gain, clamped (R158). -/
def clampGain (v : Nat) : Nat :=
  if v = 0 then 1 else if v ≤ 2 then v else if v = 3 then 2 else if v ≤ 7 then 4 else 8

/-- Field `n` of the SENSE table set, clamped (R158). -/
def SenseTable.set (t : SenseTable) (n v : Nat) : SenseTable :=
  match n with
  | 0 => { t with mode := (SenseMode.ofCode v).getD .scanCont }
  | 1 => { t with stop := min 7 v }
  | 2 => { t with selected := min 7 v }
  | 3 => { t with interval := max 1 v }
  | k + 4 => { t with gains := t.gains.set k (clampGain v) }

/-- Field `n` of the SENSE table. -/
def SenseTable.get (t : SenseTable) (n : Nat) : Nat :=
  match n with
  | 0 => t.mode.code
  | 1 => t.stop
  | 2 => t.selected
  | 3 => t.interval
  | k + 4 => t.gains.getD k 0

/-- A field of a table set, clamped; CLASS entry e, field f has number 5 e + f (11, 11.2). -/
def Tables.set (t : Tables) (name : TableName) (n v : Nat) : Tables :=
  match name with
  | .coach => { t with coach := t.coach.set n v }
  | .door => { t with door := t.door.set n v }
  | .heat => { t with heat := t.heat.set n v }
  | .cls => { t with cls := t.cls.modify (n / 5) fun e => e.set (n % 5) v }
  | .sense => { t with sense := t.sense.set n v }

/-- A field of a table. -/
def Tables.get (t : Tables) (name : TableName) (n : Nat) : Nat :=
  match name with
  | .coach => t.coach.get n
  | .door => t.door.get n
  | .heat => t.heat.get n
  | .cls => (t.cls.getD (n / 5) ClassEntry.defaultData).get (n % 5)
  | .sense => t.sense.get n

/-! ## LOAD TABLE (R174) -/

/-- One value written into staging. No rule says what a pacer interval above 255 is stored as: a free value of the range 1 to 255
(log 10). -/
def State.loadField (name : TableName) (n v : Nat) (s : State) : State :=
  if name = .sense ∧ n = 3 ∧ 255 < v then
    let (b, s1) := s.drawFree
    { s1 with mgmt := { s1.mgmt with staging := s1.mgmt.staging.set name n b.toNat } }
  else { s with mgmt := { s.mgmt with staging := s.mgmt.staging.set name n v } }

/-- Values written in list order from a field onward (R174). -/
def State.loadFields (name : TableName) : Nat → List Nat → State → State
  | _, [], s => s
  | n, v :: vs, s => State.loadFields name (n + 1) vs (s.loadField name n v)

/-- The values of `k` fields from a field onward. -/
def Tables.getFrom (t : Tables) (name : TableName) (n k : Nat) : List Nat := (List.range k).map fun i => t.get name (n + i)

/-! ## APPLY (R175) -/

/-- Whether the staged door counts or the staged numbering are refused by the door sides as they stand (R175). -/
def State.applyRefused (s : State) : Bool :=
  let w := s.mgmt.working
  let t := s.mgmt.staging
  let counts := decide (t.door.count1 ≠ w.door.count1) || decide (t.door.count2 ≠ w.door.count2)
  let ends := decide (t.coach.endSwap ≠ w.coach.endSwap) || decide (t.coach.cabEnd ≠ w.coach.cabEnd)
  (counts && !(s.doors.side1.shut && s.doors.side2.shut)) || (ends && (s.doors.side1.open' || s.doors.side2.open'))

/-- The tables in which a field differs (R175), in the order of their codes (log 17). -/
def changedTables (old new : Tables) : List TableName :=
  (if old.coach = new.coach then [] else [.coach]) ++ (if old.door = new.door then [] else [.door])
    ++ (if old.heat = new.heat then [] else [.heat]) ++ (if old.cls = new.cls then [] else [.cls])
    ++ (if old.sense = new.sense then [] else [.sense])

/-- The counter array after a change of its size (R163). -/
def State.applyArray (old : Tables) (s : State) : State :=
  if old.coach.arraySize = s.mgmt.working.coach.arraySize then s
  else { s with events := s.events.resize s.mgmt.working.coach.arraySize }

/-- Groups, rating, demand and budget after a change of the heat table (R117, R118, R126, R136). -/
def State.applyHeat (old : HeatTable) (s : State) : State :=
  let new := s.mgmt.working.heat
  let s1 := { s with heater := { s.heater with groups := moveGroupsFrom old new 0 s.heater.groups } }
  let s2 := s1.setOutputs.formR.formD
  if old.defaultBudget = new.defaultBudget then s2 else { s2 with alloc := { s2.alloc with budget := new.defaultBudget } }

/-- The topology reports of an APPLY (R15); of one that changes both, NUMBERING is taken first, as no rule orders the two (log 29). -/
def State.applyEnds (old : CoachTable) (s : State) : State :=
  let new := s.mgmt.working.coach
  let s1 := if old.endSwap = new.endSwap then s else s.mappingReport .numbering
  if old.cabEnd = new.cabEnd then s1 else s1.mappingReport .cabEnd

/-- The lead role after a change of the drivable mark (R33, R34): cleared it takes the role; set, an assertion that stands and has not been
refused is judged (log 24). -/
def State.applyRole (old : CoachTable) (s : State) : State :=
  if old.drivable = s.mgmt.working.coach.drivable then s
  else if s.mgmt.working.coach.drivable then
    if s.census.cab = true ∧ s.census.cabRefused = false then s.judgeRole else s
  else if s.isLead then s.loseRole false else s

/-- An accepted APPLY (R175): all five staging copies switched into working, and each block's act on what changed (log 29). -/
def State.switchTables (s : State) : State :=
  let old := s.mgmt.working
  let s1 := { s with mgmt := { s.mgmt with working := s.mgmt.staging } }
  ((((s1.applyArray old).applyDoors old.door).applyHeat old.heat).applyEnds old.coach).applyRole old.coach

end Sys2Proof.Machine
end

