-- ==== Sys2Proof/Machine/Mgmt.lean ====
section
/-! DEFINITION. The management unit (chapter 11): how a request is taken and judged (R172, R173, R179), and the requests (their rules, and
12.10 and R183 for arguments and results). Results whose coding R183 leaves open are coded as log 17 says. -/

namespace Sys2Proof.Machine

/-! ## Taking a request -/

/-- A request of the table of R173: its code, whether test 2 judges it as a write, the form of its arguments (test 1), and what it does
once both tests pass (test 3 included). -/
structure Service where
  code : Nat
  write : Bool
  form : List Byte → Bool
  act : Origin → Request → State → Answer × State

/-- Whether a request came over the train line. -/
def Origin.overLine : Origin → Bool
  | .line _ _ _ => true
  | .coachLink => false

/-- A request judged by the tests of R173 in order, and carried out when it passes. -/
def State.judge (v : Service) (o : Origin) (r : Request) (s : State) : Answer × State :=
  if v.form r.args = false then (.plain .badRequest, s)
  else if v.write = true ∧ o.overLine = true ∧ s.mgmt.working.coach.remoteConfig = false then (.plain .notPermitted, s)
  else v.act o r s

/-- A request judged, and its answer sent: a NOTICE that carrying it out raises stands before its reply (log 33). -/
def State.answer (v : Service) (o : Origin) (r : Request) (s : State) : State :=
  let out := s.judge v o r
  out.2.sendAnswer o r out.1

/-- The oldest request of the line taken, where it is of this type (R172); nothing happens where it is not (log 3). -/
def State.serveLine (v : Service) (s : State) : State :=
  match takeClass 9 s.delivered with
  | none => s
  | some (d, rest) =>
    match readRequest d.frame.payload with
    | none => s
    | some r =>
      if r.kind = v.code then (({ s with delivered := rest } : State).answer v d.origin r).drainLine.drainLink else s

/-- The oldest message of the coach link taken, where it is a request of this type and the places its reply needs are free; they are
reserved (R179). Until then the request waits. -/
def State.serveLink (v : Service) (s : State) : State :=
  match s.link.rx with
  | [] => s
  | m :: _ =>
    if m.kind = 4 then
      match readRequest m.payload with
      | none => s
      | some r =>
        if r.kind = v.code then
          let need := (s.judge v .coachLink r).1.places
          if s.link.free < need then s
          else
            let s1 := s.dropOldest
            (({ s1 with link := { s1.link with reserved := s1.link.reserved + need } } : State).answer v .coachLink r).drainLink
        else s
    else s

/-- A request taken from the route the command names. -/
def State.serve (route : Route) (v : Service) (s : State) : State :=
  match route with
  | .line => s.serveLine v
  | .coachLink => s.serveLink v

/-- A request without arguments. -/
def noArgs (args : List Byte) : Bool := args.isEmpty

/-- A request that changes nothing and is answered OK with results. -/
def readAct (results : State → List Byte) (_ : Origin) (_ : Request) (s : State) : Answer × State := (.now .ok (results s), s)

/-! ## Results (R183) -/

/-- A list preceded by its number of entries in one byte. -/
def listBytes {α : Type} (enc : α → List Byte) (l : List α) : List Byte := byte l.length :: l.flatMap enc

/-- A whole number of one byte. -/
def num1 (n : Nat) : List Byte := [byte n]

/-- The census and lead census state. -/
def State.standingBytes (s : State) : List Byte := [byte s.census.cs.code, byte s.census.lead.code]

/-- IDENTIFY (R55): node ID, census state, lead census state, installed epoch, recorded position, recorded orientation. -/
def State.identifyResults (s : State) : List Byte :=
  idBytes s.nodeId ++ s.standingBytes ++ [byte s.census.epoch, byte s.census.position, byte s.census.orient.code]

/-- A consist table record in READ CONSIST (R183). -/
def ConsistRecord.bytes (r : ConsistRecord) : List Byte := byte r.pos :: r.entry.bytes

/-- The records held; none without a table. -/
def State.tableRecords (s : State) : List ConsistRecord := s.census.table.getD []

/-- READ CONSIST (R55). -/
def State.consistResults (s : State) : List Byte :=
  s.standingBytes
    ++ [byte (if s.hasTable then s.census.epoch else 0), boolByte (!s.settled), byte s.census.position, byte s.census.orient.code,
        byte (endCode s.census.leadEnd), byte s.tableRecords.length]
    ++ s.tableRecords.flatMap ConsistRecord.bytes

/-- A coach side in READ DOOR (R102). -/
def DoorSide.readBytes (x : DoorSide) (count : Nat) : List Byte :=
  [byte x.st.code, byte x.cause.code, byte x.refusal.code] ++ optBytes (fun (o : DoorAction × Nat) => [byte o.1.code, byte o.2]) x.order
    ++ [byte count, boolByte x.loop, boolByte x.rel, boolByte x.warn] ++ timeBytes (x.timer.map SideTimer.left)
    ++ [byte x.openN, byte x.obstrN]

/-- The line supervisor's items in READ DOOR (R71). -/
def Supervisor.readBytes (l : Supervisor) : List Byte :=
  [byte l.sup.code, boolByte l.zsp, boolByte l.flag, boolByte l.permit, byte l.idx, byte l.cyc]

/-- A train side of a door summary record. -/
def SideReport.bytes (x : SideReport) : List Byte :=
  [byte x.st.code, byte x.cause.code, byte x.refusal.code, byte x.openN, byte x.obstrN]

/-- A door summary record in READ DOOR (R113). -/
def SummaryRecord.bytes (r : SummaryRecord) : List Byte :=
  num1 r.pos ++ idBytes r.id ++ [byte r.orient.code, byte r.countL, byte r.countR] ++ r.left.bytes ++ r.right.bytes
    ++ optBytes (fun b => [boolByte b]) r.permit ++ num1 r.age

/-- The summary part of READ DOOR at a lead (R113); none where the lead census state is OFF. -/
def State.summaryResults (s : State) : List Byte :=
  if s.isLead then
    [byte s.census.lead.code, byte s.census.epoch, boolByte s.summary.proven, byte s.summary.recs.length]
      ++ s.summary.recs.flatMap SummaryRecord.bytes
  else []

/-- READ DOOR (R102, R71, R113). -/
def State.doorResults (s : State) : List Byte :=
  s.doors.side1.readBytes s.mgmt.working.door.count1 ++ s.doors.side2.readBytes s.mgmt.working.door.count2
    ++ [boolByte s.doors.derate] ++ s.line.readBytes ++ s.summaryResults

/-- A staged grant in READ HEATING (R149). -/
def Grant.bytes (g : Grant) : List Byte := be16 g.grant ++ [byte g.epoch, byte g.cyc]

/-- The groups in READ HEATING, from group `k` on, without a number before them (R149; log 35). -/
def groupBytesFrom (t : HeatTable) (c : Sense) : Nat → List Group → List Byte
  | _, [] => []
  | k, g :: gs =>
    [byte g.st.code] ++ be16 (t.rating k)
      ++ [byte g.n, boolByte g.output, byte g.strikes, boolByte g.openFlag, byte (c.onWin k).count] ++ groupBytesFrom t c (k + 1) gs

/-- A demand table record in READ HEATING (R134). -/
def DemandRecord.bytes (r : DemandRecord) : List Byte :=
  num1 r.pos ++ idBytes r.id ++ be16 r.rating ++ [byte r.demand, boolByte r.preferred, byte r.age]

/-- The last allocation in READ HEATING (R134). -/
def Allocation.bytes (a : Allocation) : List Byte :=
  num1 a.cyc ++ be16 a.effective ++ [byte a.judged.code] ++ be16 a.total ++ be16 a.total1 ++ be16 a.total0 ++ [byte a.case.code]
    ++ num1 a.remainder ++ listBytes be16 a.grants

/-- The allocator's part of READ HEATING (R134): whole in HOLDING; an empty demand table and no allocation in CALLING and BLOCKED (log 19);
nothing in OFF. -/
def State.allocResults (s : State) : List Byte :=
  match s.census.lead with
  | .holding =>
    [byte s.alloc.judged.code] ++ be16 s.alloc.effective ++ listBytes DemandRecord.bytes s.alloc.recs
      ++ optBytes Allocation.bytes s.alloc.last
  | .calling | .blocked => [0, 0]
  | .off => []

/-- READ HEATING (R149, R134). -/
def State.heatingResults (s : State) : List Byte :=
  let h := s.heater
  let t := s.mgmt.working.heat
  optBytes Grant.bytes h.staged ++ be16 h.applied ++ [byte h.source.code, byte h.missed] ++ be16 h.duty ++ be16 t.fallbackCap
    ++ num1 h.slot ++ groupBytesFrom t s.sense 0 h.groups
    ++ num1 h.demandT ++ timeBytes h.hold ++ [byte h.demandD, boolByte s.doors.derate, byte t.derate] ++ be16 h.rating
    ++ [boolByte t.preferred] ++ be16 s.alloc.budget ++ s.allocResults

/-- A channel in READ SENSE (R162). -/
def Sense.channelBytes (c : Sense) (k : Nat) : List Byte :=
  let ch := c.channel k
  [boolByte (c.supervised k), byte ch.window.length] ++ optBytes (fun (x : Code) => codeBytes x.toInt) ch.window.getLast?
    ++ (if ch.stale then [0]
        else optBytes (fun avg => codeBytes avg ++ codeBytes (quantity k ch.gain avg)) (average ch.window))

/-- A group's on-window in READ SENSE (R162). -/
def Sense.onWinBytes (c : Sense) (k : Nat) : List Byte :=
  let w := c.onWin k
  [byte w.window.length, byte w.count] ++ optBytes be16 (c.onCurrent k) ++ [boolByte (w.window.any saturated)]

/-- READ SENSE (R162). Its gains, channels and groups are sets of a fixed size and carry no number (log 35). -/
def State.senseResults (s : State) : List Byte :=
  let c := s.sense
  [byte c.mode.code, byte c.stop, byte c.selected, byte c.interval] ++ c.channels.map (fun ch => byte ch.gain)
    ++ [boolByte c.scan.isSome] ++ optBytes num1 c.conv
    ++ (List.range 8).flatMap c.channelBytes ++ (List.range 4).flatMap c.onWinBytes
    ++ [boolByte c.degraded, boolByte c.capture, byte c.fifo.length] ++ be16 c.lost

/-- A capture FIFO entry in READ CAPTURE (R161). -/
def Captured.bytes (e : Captured) : List Byte := num1 e.channel ++ codeBytes e.code.toInt ++ [byte e.idx, byte e.slot]

/-- READ CAPTURE (R161): the oldest entries, up to 16, with the number left and the capture-lost count; they leave the FIFO. -/
def captureAct (_ : Origin) (_ : Request) (s : State) : Answer × State :=
  let rest := s.sense.fifo.drop captureRead
  (.now .ok (listBytes Captured.bytes (s.sense.fifo.take captureRead) ++ [byte rest.length] ++ be16 s.sense.lost),
    { s with sense := { s.sense with fifo := rest } })

/-- A counter (R183). -/
def Counter.bytes (c : Counter) : List Byte := be16 c.recent ++ be16 c.wide

/-- READ COUNTERS (R165). -/
def countersAct (_ : Origin) (r : Request) (s : State) : Answer × State :=
  let first := (r.args.getD 0 0).toNat
  let number := (r.args.getD 1 0).toNat
  let size := s.events.counters.length
  if number = 0 ∨ 32 < number ∨ size < first + number then (.plain .badRange, s)
  else
    (.now .ok ([byte size] ++ be32 s.events.exceptions ++ [byte first, byte number]
      ++ ((s.events.counters.drop first).take number).flatMap Counter.bytes), s)

/-- READ NOTICES (R171). -/
def State.noticeResults (s : State) : List Byte :=
  flagBytes s.notices.flags ++ flagBytes s.notices.enable ++ [byte s.census.failure.code]

/-! ## Counters and notices -/

/-- CLEAR COUNTERS (R166). -/
def clearCountersAct (_ : Origin) (_ : Request) (s : State) : Answer × State := (.plain .ok, { s with events := s.events.clear })

/-- The mask argument of CLEAR NOTICES and SET NOTICE ENABLE; none where it names a flag beyond the thirteenth (R170, R171). -/
def readMask (args : List Byte) : Option (BitVec 13) :=
  let m := u16 (args.getD 0 0) (args.getD 1 0)
  if m < 8192 then some (BitVec.ofNat 13 m) else none

/-- The flags named cleared; SENSE_DEGRADED is set again at once while its condition stands (R170). -/
def State.clearFlags (m : BitVec 13) (s : State) : State :=
  let s1 := { s with notices := { s.notices with flags := s.notices.flags &&& ~~~m } }
  if hasFlag m .senseDegraded = true ∧ s.sense.degraded = true then s1.raise .senseDegraded else s1

/-- CLEAR NOTICES (R170). -/
def clearNoticesAct (_ : Origin) (r : Request) (s : State) : Answer × State :=
  match readMask r.args with
  | some m =>
    let s1 := s.clearFlags m
    (.now .ok (flagBytes s1.notices.flags), s1)
  | none => (.plain .badRange, s)

/-- SET NOTICE ENABLE (R171). -/
def setEnableAct (_ : Origin) (r : Request) (s : State) : Answer × State :=
  match readMask r.args with
  | some m => (.now .ok (flagBytes m), { s with notices := { s.notices with enable := m } })
  | none => (.plain .badRange, s)

/-! ## Tables and the store -/

/-- The form of LOAD TABLE arguments: a table of the five, a first field, and 1 to 32 values of two bytes (R174, 12.10). -/
def loadForm (args : List Byte) : Bool :=
  match args with
  | t :: _ :: rest =>
    (TableName.ofCode t.toNat).isSome
      && (match readValues rest with
          | some vs => decide (1 ≤ vs.length) && decide (vs.length ≤ 32)
          | none => false)
  | _ => false

/-- LOAD TABLE (R174). The reply's list of values is headed by their number (R183). -/
def loadAct (_ : Origin) (r : Request) (s : State) : Answer × State :=
  match r.args with
  | t :: f :: rest =>
    match TableName.ofCode t.toNat, readValues rest with
    | some name, some vs =>
      if name.fields < f.toNat + vs.length then (.plain .badRange, s)
      else
        let s1 := s.loadFields name f.toNat vs
        (.now .ok ([t, f] ++ listBytes be16 (s1.mgmt.staging.getFrom name f.toNat vs.length)), s1)
    | _, _ => (.plain .badRequest, s)
  | _ => (.plain .badRequest, s)

/-- APPLY (R175). -/
def applyAct (_ : Origin) (_ : Request) (s : State) : Answer × State :=
  if s.mgmt.store ≠ .idle then (.plain .busy, s)
  else if s.applyRefused then (.plain .refused, s)
  else
    (.now .ok (listBytes (fun n => [byte (TableName.code n)]) (changedTables s.mgmt.working s.mgmt.staging)), s.switchTables)

/-- The code of STORE (12.5). -/
def storeCode : Nat := 14

/-- STORE (R176): the image taken, the stored image invalid, the reply kept for the completion. -/
def storeAct (o : Origin) (r : Request) (s : State) : Answer × State :=
  if s.mgmt.store ≠ .idle then (.plain .busy, s)
  else
    (.later,
      { s with mgmt := { s.mgmt with image := none
                                     store := .writing { tables := s.mgmt.working, enable := s.notices.enable } o r.tag } })

/-- The write completes (R176): the image is valid, the store IDLE, the STORE answered OK. An idle store completes nothing (log 3). -/
def State.storeDone (s : State) : State :=
  match s.mgmt.store with
  | .writing image o tag =>
    ((({ s with mgmt := { s.mgmt with image := some image, store := .idle } } : State).sendReply o storeCode tag .ok []).drainLink)
  | .idle => s

/-! ## Budget, sense, groups, census, restart -/

/-- SET BUDGET (R126). -/
def budgetAct (_ : Origin) (r : Request) (s : State) : Answer × State :=
  if s.isLead then
    let b := min 4095 (u16 (r.args.getD 0 0) (r.args.getD 1 0))
    (.now .ok (be16 b), { s with alloc := { s.alloc with budget := b } })
  else (.plain .refused, s)

/-- SET SENSE (R157). -/
def setSenseAct (_ : Origin) (r : Request) (s : State) : Answer × State :=
  match readSettings r.args with
  | some t => (.plain .ok, s.changeSense t)
  | none => (.plain .badRange, s)

/-- SAMPLE (R153). -/
def sampleAct (_ : Origin) (_ : Request) (s : State) : Answer × State :=
  (.plain s.sense.sampleRequest.1, { s with sense := s.sense.sampleRequest.2 })

/-- START CAPTURE (R160). -/
def startCaptureAct (_ : Origin) (_ : Request) (s : State) : Answer × State := (.plain .ok, { s with sense := s.sense.startCapture })

/-- STOP CAPTURE (R160). -/
def stopCaptureAct (_ : Origin) (_ : Request) (s : State) : Answer × State := (.plain .ok, { s with sense := s.sense.stopCapture })

/-- The states of all groups, without a number before them, as for every set of a fixed size (R148, R183; log 35). -/
def State.groupStates (s : State) : List Byte := s.heater.groups.map fun g => byte g.st.code

/-- CLEAR GROUP FAULT (R148). Every reply under the rule carries the state of every group after the request, whatever its status. -/
def groupFaultAct (_ : Origin) (r : Request) (s : State) : Answer × State :=
  let k := (r.args.getD 0 0).toNat
  if k = 255 then
    let s1 := ([0, 1, 2, 3].foldl (fun acc j => State.clearGroupFault j acc) s).formR
    (.now .ok s1.groupStates, s1)
  else if 3 < k then (.now .badRange s.groupStates, s)
  else if (s.heater.group k).st = .notFitted then (.now .refused s.groupStates, s)
  else
    let s1 := (s.clearGroupFault k).formR
    (.now .ok s1.groupStates, s1)

/-- RECENSUS (R59): refused over the line and where the lead census state is OFF; else the census restarts at attempt 0. -/
def recensusAct (o : Origin) (_ : Request) (s : State) : Answer × State :=
  if o.overLine = true ∨ s.isLead = false then (.plain .refused, s) else (.plain .ok, s.startAttempt 0)

/-- RESTART (R177). -/
def restartAct (_ : Origin) (_ : Request) (s : State) : Answer × State :=
  if s.mgmt.restart ≠ none then (.plain .busy, s)
  else (.plain .ok, { s with mgmt := { s.mgmt with restart := some Config.restartMs } })

/-! ## The requests of R173 with their codes (12.5) -/

/-- Arguments of a given length. -/
def argsOf (n : Nat) (args : List Byte) : Bool := decide (args.length = n)

/-- IDENTIFY. -/
def identifyService : Service := { code := 1, write := false, form := noArgs, act := readAct State.identifyResults }
/-- READ CONSIST. -/
def readConsistService : Service := { code := 2, write := false, form := noArgs, act := readAct State.consistResults }
/-- READ DOOR. -/
def readDoorService : Service := { code := 3, write := false, form := noArgs, act := readAct State.doorResults }
/-- READ HEATING. -/
def readHeatingService : Service := { code := 4, write := false, form := noArgs, act := readAct State.heatingResults }
/-- READ SENSE. -/
def readSenseService : Service := { code := 5, write := false, form := noArgs, act := readAct State.senseResults }
/-- READ CAPTURE. -/
def readCaptureService : Service := { code := 6, write := false, form := noArgs, act := captureAct }
/-- READ COUNTERS. -/
def readCountersService : Service := { code := 7, write := false, form := argsOf 2, act := countersAct }
/-- READ NOTICES. -/
def readNoticesService : Service := { code := 8, write := false, form := noArgs, act := readAct State.noticeResults }
/-- CLEAR COUNTERS. -/
def clearCountersService : Service := { code := 9, write := true, form := noArgs, act := clearCountersAct }
/-- CLEAR NOTICES. -/
def clearNoticesService : Service := { code := 10, write := true, form := argsOf 2, act := clearNoticesAct }
/-- SET NOTICE ENABLE. -/
def setNoticeEnableService : Service := { code := 11, write := true, form := argsOf 2, act := setEnableAct }
/-- LOAD TABLE. -/
def loadTableService : Service := { code := 12, write := true, form := loadForm, act := loadAct }
/-- APPLY. -/
def applyService : Service := { code := 13, write := true, form := noArgs, act := applyAct }
/-- STORE. -/
def storeService : Service := { code := storeCode, write := true, form := noArgs, act := storeAct }
/-- SET BUDGET. -/
def setBudgetService : Service := { code := 15, write := true, form := argsOf 2, act := budgetAct }
/-- SET SENSE. -/
def setSenseService : Service := { code := 16, write := true, form := argsOf 12, act := setSenseAct }
/-- SAMPLE. -/
def sampleService : Service := { code := 17, write := true, form := noArgs, act := sampleAct }
/-- START CAPTURE. -/
def startCaptureService : Service := { code := 18, write := true, form := noArgs, act := startCaptureAct }
/-- STOP CAPTURE. -/
def stopCaptureService : Service := { code := 19, write := true, form := noArgs, act := stopCaptureAct }
/-- CLEAR GROUP FAULT. -/
def clearGroupFaultService : Service := { code := 20, write := true, form := argsOf 1, act := groupFaultAct }
/-- RECENSUS: judged by R59 alone after test 1, so that test 2 does not judge it (R173). -/
def recensusService : Service := { code := 21, write := false, form := noArgs, act := recensusAct }
/-- RESTART. -/
def restartService : Service := { code := 22, write := true, form := noArgs, act := restartAct }

end Sys2Proof.Machine
end

