-- ==== Sys2Proof/Machine/Start.lean ====
section
/-! DEFINITION. Power and start-up: POWER_ON, POWER_LOSS and the taking effect of a RESTART (R177, R178 and the reset rules that R178
gathers). -/

namespace Sys2Proof.Machine

/-- The stored image a start-up finds: none when a write was cut short (R176). -/
def Mgmt.soundImage (m : Mgmt) : Option Image :=
  match m.store with
  | .idle => m.image
  | .writing _ _ _ => none

/-- The working tables of a start-up: those of a valid image, else the defaults (R178). -/
def startTables (image : Option Image) : Tables :=
  match image with
  | some i => i.tables
  | none => .default

/-- The enable mask of a start-up: that of a valid image, else all 13 flags (R167, R178). -/
def startMask (image : Option Image) : BitVec 13 :=
  match image with
  | some i => i.enable
  | none => 0x1FFF

/-- The state a side machine takes at a reset (R72). -/
def startSide (count : Nat) (loop : Bool) : DoorSide :=
  .reset (if count = 0 then .absent else if loop then .locked else .fault) loop

/-- The door controller at a reset (R72): door-derate is asserted if either side is FAULT. -/
def startDoors (t : DoorTable) (pins : ResetPins) : Doors :=
  let a := startSide t.count1 pins.loop1
  let b := startSide t.count2 pins.loop2
  { side1 := a, side2 := b, derate := decide (a.st = .fault ∨ b.st = .fault) }

/-- The state of a group at a reset; `keep` says that a FAILED group with a rating stays FAILED, as at a RESTART (R135). -/
def startGroupState (rating : Nat) (keep : Bool) (before : GroupState) : GroupState :=
  if rating = 0 then .notFitted else if keep && decide (before = .failed) then .failed else .enabled

/-- The four groups at a reset (R135). -/
def startGroups (t : HeatTable) (keep : Bool) (h : Heater) : List Group :=
  [0, 1, 2, 3].map fun k => Group.reset (startGroupState (t.rating k) keep (h.group k).st)

/-- The node with every block in its reset state (R178 and the rules it gathers): its stored image as found, the pins as sampled, its
counters as given. -/
def State.blank (s : State) (pins : ResetPins) (keep : Bool) (events : Events) : State :=
  let image := s.mgmt.soundImage
  let t := startTables image
  let groups := startGroups t.heat keep s.heater
  { powered := true
    nodeId := s.nodeId
    strap := pins.endswap
    portA := .reset
    portB := .reset
    delivered := []
    census := .reset
    line := .reset
    doors := startDoors t.door pins
    summary := .reset
    heater := .reset groups (ratingOf t.heat groups)
    alloc := .reset t.heat.defaultBudget
    sense := .reset t.sense
    events := events
    notices := { flags := 0, enable := startMask image }
    mgmt := { working := t, staging := t, image := image, store := .idle, restart := none }
    link := .reset
    freeCount := s.freeCount
    pending := s.pending }

/-- The conditions that arise once a start-up has loaded the tables (R167, R150): CONFIG_DEFAULTED without a valid image, SENSE_DEGRADED
where the settings give it. -/
def State.startConditions (s : State) : State :=
  let s1 := if s.mgmt.image = none then s.raise .configDefaulted else s
  if s1.sense.degraded then s1.raise .senseDegraded else s1

/-- The counters of a RESTART (R163): kept, and converted when the working array size changes. -/
def State.keptEvents (s : State) : Events :=
  let size := (startTables s.mgmt.soundImage).coach.arraySize
  if size = s.mgmt.working.coach.arraySize then s.events else s.events.resize size

/-- Power-on (R178): every block in its power-on state, counters 0. A node that has power takes it as a loss of power and its return
(log 4). -/
def State.powerOn (pins : ResetPins) (s : State) : State :=
  (s.blank pins false (.reset (startTables s.mgmt.soundImage).coach.arraySize)).startConditions

/-- A pending restart takes effect (R177, R178): every block in its RESTART state, counters kept. Nothing happens when none is pending
(log 3). -/
def State.restartNow (pins : ResetPins) (s : State) : State :=
  if s.mgmt.restart = none then s else (s.blank pins true s.keptEvents).startConditions

/-- The loss of power (R176, R177): a write under way leaves the image invalid; every block is at its power-on state, without power and
with every output off, and takes no command until POWER_ON (log 4). -/
def State.powerLost (s : State) : State :=
  { State.reset with
    powered := false
    nodeId := s.nodeId
    strap := s.strap
    portA := { LinePort.reset with tone := false }
    portB := { LinePort.reset with tone := false }
    notices := { flags := 0, enable := 0x1FFF }
    mgmt := { working := .default, staging := .default, image := s.mgmt.soundImage, store := .idle, restart := none }
    link := .reset
    freeCount := s.freeCount
    pending := s.pending }

end Sys2Proof.Machine
end

