-- ==== Sys2Proof/Machine/Commands.lean ====
section
/-! DEFINITION. The meaning of each command: one definition per row of spec/opcode_table.json, over the operations of the blocks. A
node without power takes no command but POWER_ON (log 4). -/

namespace Sys2Proof.Machine

/-- POWER_ON (R178), with the levels of the inputs sampled. -/
def execPowerOn (pins : ResetPins) (s : State) : Host.Outcome State Fault Refusal :=
  .next (s.powerOn pins)

/-- POWER_LOSS (R176, R177). -/
def execPowerLoss (s : State) : Host.Outcome State Fault Refusal :=
  .next s.powerLost

/-- PILOT_WINDOW_CLOSE (R4, R5): the window of `port` closes, having seen `edges` edges. -/
def execPilotWindowClose (port : Port) (edges : Nat) (s : State) : Host.Outcome State Fault Refusal :=
  s.run (State.pilotWindow port edges)

/-- LINE_FRAME_CLOSED (R8): `bytes` came in on `port` and the assembly closed, at a new frame start if `byStart`. -/
def execLineFrameClosed (port : Port) (bytes : List Byte) (byStart : Bool) (s : State) : Host.Outcome State Fault Refusal :=
  s.run (State.frameClosed port bytes byStart)

/-- LINE_TX_COMPLETE (R14). -/
def execLineTxComplete (port : Port) (s : State) : Host.Outcome State Fault Refusal :=
  s.run (State.txComplete port)

/-- CENSUS_CALL_TAKEN (R43 to R46). -/
def execCensusCallTaken (s : State) : Host.Outcome State Fault Refusal :=
  s.run (State.takeDelivered 0 Delivery.callAct)

/-- CENSUS_RETURN_TAKEN (R38, R39). -/
def execCensusReturnTaken (s : State) : Host.Outcome State Fault Refusal :=
  s.run (State.takeDelivered 1 Delivery.returnAct)

/-- CONSIST_ANNOUNCE_TAKEN (R48 to R50). -/
def execConsistAnnounceTaken (s : State) : Host.Outcome State Fault Refusal :=
  s.run (State.takeDelivered 2 Delivery.announceAct)

/-- TOPOLOGY_CHANGE_TAKEN (R36). -/
def execTopologyChangeTaken (s : State) : Host.Outcome State Fault Refusal :=
  s.run (State.takeDelivered 3 fun d => State.takeTopologyChange d.frame.payload)

/-- BEACON_TAKEN (R65, R67, R52). -/
def execBeaconTaken (s : State) : Host.Outcome State Fault Refusal :=
  s.run (State.takeDelivered 4 fun d => State.takeBeacon d.frame)

/-- DOOR_ORDER_TAKEN (R78). -/
def execDoorOrderTaken (s : State) : Host.Outcome State Fault Refusal :=
  s.run (State.takeDelivered 5 Delivery.orderAct)

/-- DOOR_STATE_TAKEN (R107). -/
def execDoorStateTaken (s : State) : Host.Outcome State Fault Refusal :=
  s.run (State.takeDelivered 6 Delivery.doorStateAct)

/-- HEAT_DEMAND_TAKEN (R124). -/
def execHeatDemandTaken (s : State) : Host.Outcome State Fault Refusal :=
  s.run (State.takeDelivered 7 Delivery.demandAct)

/-- HEAT_GRANT_TAKEN (R137). -/
def execHeatGrantTaken (s : State) : Host.Outcome State Fault Refusal :=
  s.run (State.takeDelivered 8 Delivery.grantAct)

/-- CAB_ASSERTION_TAKEN (R33). -/
def execCabAssertionTaken (s : State) : Host.Outcome State Fault Refusal :=
  s.run State.cabAssertion

/-- CAB_RELEASE_TAKEN (R33, R34). -/
def execCabReleaseTaken (s : State) : Host.Outcome State Fault Refusal :=
  s.run State.cabRelease

/-- CENSUS_TIMER_EXPIRY (R37). -/
def execCensusTimerExpiry (s : State) : Host.Outcome State Fault Refusal :=
  s.run State.censusTimeout

/-- SURVEY_HOLD_EXPIRY (R47). -/
def execSurveyHoldExpiry (s : State) : Host.Outcome State Fault Refusal :=
  s.run State.surveyTimeout

/-- CYCLE_TICK (R62). -/
def execCycleTick (s : State) : Host.Outcome State Fault Refusal :=
  s.run State.cycleTick

/-- SLOT_BOUNDARY (R63). -/
def execSlotBoundary (s : State) : Host.Outcome State Fault Refusal :=
  s.run State.slotBoundary

/-- ZSP_CHANGE_TAKEN (R61): the filtered level becomes `level` (true is asserted). -/
def execZspChangeTaken (level : Bool) (s : State) : Host.Outcome State Fault Refusal :=
  s.run (State.zspChange level)

/-- SUPERVISION_TIMER_EXPIRY (R68). -/
def execSupervisionTimerExpiry (s : State) : Host.Outcome State Fault Refusal :=
  s.run State.supervisionExpiry

/-- DOOR_COMMAND (R75 to R77). -/
def execDoorCommand (s : State) : Host.Outcome State Fault Refusal :=
  s.run (State.takeMessage 3 State.takeDoorCommand)

/-- LOOP_CHANGE_TAKEN (R83): the filtered loop level of `side` becomes `level` (true is made). -/
def execLoopChangeTaken (side : Side) (level : Bool) (s : State) : Host.Outcome State Fault Refusal :=
  s.run (State.loopChange side level)

/-- MAXIMUM_RELEASE_TIME_EXPIRY (R96). -/
def execMaximumReleaseTimeExpiry (side : Side) (s : State) : Host.Outcome State Fault Refusal :=
  s.run (State.releaseTimeout side)

/-- WARNING_LEAD_TIME_EXPIRY (R88). -/
def execWarningLeadTimeExpiry (side : Side) (s : State) : Host.Outcome State Fault Refusal :=
  s.run (State.warningTimeout side)

/-- CLOSE_TIMEOUT_EXPIRY (R89). -/
def execCloseTimeoutExpiry (side : Side) (s : State) : Host.Outcome State Fault Refusal :=
  s.run (State.closeTimeout side)

/-- WARNING_PHASE_CHANGE (R82). -/
def execWarningPhaseChange (side : Side) (s : State) : Host.Outcome State Fault Refusal :=
  s.run (State.changeSide side DoorSide.phaseChange)

/-- DOOR_REPORT (R97, R98). -/
def execDoorReport (s : State) : Host.Outcome State Fault Refusal :=
  s.run (State.takeMessage 2 State.takeDoorReport)

/-- DEMAND (R115). -/
def execDemand (s : State) : Host.Outcome State Fault Refusal :=
  s.run (State.takeMessage 1 State.takeDemand)

/-- DEMAND_HOLD_EXPIRY (R116). -/
def execDemandHoldExpiry (s : State) : Host.Outcome State Fault Refusal :=
  s.run State.demandTimeout

/-- PACER_TICK (R152). -/
def execPacerTick (s : State) : Host.Outcome State Fault Refusal :=
  s.run State.pacerTick

/-- CONVERSION_COMPLETE (R154): the conversion in flight gives `code`. -/
def execConversionComplete (code : Code) (s : State) : Host.Outcome State Fault Refusal :=
  s.run (State.conversionDone code)

/-- COACH_LINK_MESSAGE_COMPLETE (R179): `bytes` came in on the coach link, the last of them completing a message. -/
def execCoachLinkMessageComplete (bytes : List Byte) (s : State) : Host.Outcome State Fault Refusal :=
  s.run (State.receiveBytes bytes)

/-- COACH_LINK_BYTE_TIMEOUT (R179): `bytes` came in, and then none for more than 5 ms. -/
def execCoachLinkByteTimeout (bytes : List Byte) (s : State) : Host.Outcome State Fault Refusal :=
  s.run (fun x => (x.receiveBytes bytes).cutMessage)

/-- COACH_LINK_TX_COMPLETE (R180). -/
def execCoachLinkTxComplete (s : State) : Host.Outcome State Fault Refusal :=
  s.run State.linkTxComplete

/-- IDENTIFY (R55). -/
def execIdentify (route : Route) (s : State) : Host.Outcome State Fault Refusal :=
  s.run (fun x => x.serve route identifyService)

/-- READ_CONSIST (R55). -/
def execReadConsist (route : Route) (s : State) : Host.Outcome State Fault Refusal :=
  s.run (fun x => x.serve route readConsistService)

/-- READ_DOOR (R102, R113). -/
def execReadDoor (route : Route) (s : State) : Host.Outcome State Fault Refusal :=
  s.run (fun x => x.serve route readDoorService)

/-- READ_HEATING (R134, R149). -/
def execReadHeating (route : Route) (s : State) : Host.Outcome State Fault Refusal :=
  s.run (fun x => x.serve route readHeatingService)

/-- READ_SENSE (R162). -/
def execReadSense (route : Route) (s : State) : Host.Outcome State Fault Refusal :=
  s.run (fun x => x.serve route readSenseService)

/-- READ_CAPTURE (R161). -/
def execReadCapture (route : Route) (s : State) : Host.Outcome State Fault Refusal :=
  s.run (fun x => x.serve route readCaptureService)

/-- READ_COUNTERS (R165). -/
def execReadCounters (route : Route) (s : State) : Host.Outcome State Fault Refusal :=
  s.run (fun x => x.serve route readCountersService)

/-- READ_NOTICES (R171). -/
def execReadNotices (route : Route) (s : State) : Host.Outcome State Fault Refusal :=
  s.run (fun x => x.serve route readNoticesService)

/-- CLEAR_COUNTERS (R166). -/
def execClearCounters (route : Route) (s : State) : Host.Outcome State Fault Refusal :=
  s.run (fun x => x.serve route clearCountersService)

/-- CLEAR_NOTICES (R170). -/
def execClearNotices (route : Route) (s : State) : Host.Outcome State Fault Refusal :=
  s.run (fun x => x.serve route clearNoticesService)

/-- SET_NOTICE_ENABLE (R171). -/
def execSetNoticeEnable (route : Route) (s : State) : Host.Outcome State Fault Refusal :=
  s.run (fun x => x.serve route setNoticeEnableService)

/-- LOAD_TABLE (R174). -/
def execLoadTable (route : Route) (s : State) : Host.Outcome State Fault Refusal :=
  s.run (fun x => x.serve route loadTableService)

/-- APPLY (R175). -/
def execApply (route : Route) (s : State) : Host.Outcome State Fault Refusal :=
  s.run (fun x => x.serve route applyService)

/-- STORE (R176). -/
def execStore (route : Route) (s : State) : Host.Outcome State Fault Refusal :=
  s.run (fun x => x.serve route storeService)

/-- STORE_WRITE_COMPLETE (R176). -/
def execStoreWriteComplete (s : State) : Host.Outcome State Fault Refusal :=
  s.run State.storeDone

/-- SET_BUDGET (R126). -/
def execSetBudget (route : Route) (s : State) : Host.Outcome State Fault Refusal :=
  s.run (fun x => x.serve route setBudgetService)

/-- SET_SENSE (R157). -/
def execSetSense (route : Route) (s : State) : Host.Outcome State Fault Refusal :=
  s.run (fun x => x.serve route setSenseService)

/-- SAMPLE (R153). -/
def execSample (route : Route) (s : State) : Host.Outcome State Fault Refusal :=
  s.run (fun x => x.serve route sampleService)

/-- START_CAPTURE (R160). -/
def execStartCapture (route : Route) (s : State) : Host.Outcome State Fault Refusal :=
  s.run (fun x => x.serve route startCaptureService)

/-- STOP_CAPTURE (R160). -/
def execStopCapture (route : Route) (s : State) : Host.Outcome State Fault Refusal :=
  s.run (fun x => x.serve route stopCaptureService)

/-- CLEAR_GROUP_FAULT (R148). -/
def execClearGroupFault (route : Route) (s : State) : Host.Outcome State Fault Refusal :=
  s.run (fun x => x.serve route clearGroupFaultService)

/-- RECENSUS (R59). -/
def execRecensus (route : Route) (s : State) : Host.Outcome State Fault Refusal :=
  s.run (fun x => x.serve route recensusService)

/-- RESTART (R177). -/
def execRestart (route : Route) (s : State) : Host.Outcome State Fault Refusal :=
  s.run (fun x => x.serve route restartService)

/-- RESTART_TAKES_EFFECT (R177, R178), with the levels of the inputs sampled. -/
def execRestartTakesEffect (pins : ResetPins) (s : State) : Host.Outcome State Fault Refusal :=
  s.run (State.restartNow pins)

/-- COACH_LINK_BYTE_ERROR (R179): `bytes` came in, and then a byte with a parity or framing error. -/
def execCoachLinkByteError (bytes : List Byte) (s : State) : Host.Outcome State Fault Refusal :=
  s.run (fun x => (x.receiveBytes bytes).cutMessage)

end Sys2Proof.Machine
end

