-- ==== Sys2Proof/Machine/Dispatch.lean ====
section
/-! DEFINITION. One arm per command, each one direct call of its meaning. -/

namespace Sys2Proof.Machine

def exec (i : Instr) (s : State) : Host.Outcome State Fault Refusal :=
  match i with
  | .powerOn pins => Sys2Proof.Machine.execPowerOn pins s
  | .powerLoss => Sys2Proof.Machine.execPowerLoss s
  | .pilotWindowClose port edges => Sys2Proof.Machine.execPilotWindowClose port edges s
  | .lineFrameClosed port bytes byStart => Sys2Proof.Machine.execLineFrameClosed port bytes byStart s
  | .lineTxComplete port => Sys2Proof.Machine.execLineTxComplete port s
  | .censusCallTaken => Sys2Proof.Machine.execCensusCallTaken s
  | .censusReturnTaken => Sys2Proof.Machine.execCensusReturnTaken s
  | .consistAnnounceTaken => Sys2Proof.Machine.execConsistAnnounceTaken s
  | .topologyChangeTaken => Sys2Proof.Machine.execTopologyChangeTaken s
  | .beaconTaken => Sys2Proof.Machine.execBeaconTaken s
  | .doorOrderTaken => Sys2Proof.Machine.execDoorOrderTaken s
  | .doorStateTaken => Sys2Proof.Machine.execDoorStateTaken s
  | .heatDemandTaken => Sys2Proof.Machine.execHeatDemandTaken s
  | .heatGrantTaken => Sys2Proof.Machine.execHeatGrantTaken s
  | .cabAssertionTaken => Sys2Proof.Machine.execCabAssertionTaken s
  | .cabReleaseTaken => Sys2Proof.Machine.execCabReleaseTaken s
  | .censusTimerExpiry => Sys2Proof.Machine.execCensusTimerExpiry s
  | .surveyHoldExpiry => Sys2Proof.Machine.execSurveyHoldExpiry s
  | .cycleTick => Sys2Proof.Machine.execCycleTick s
  | .slotBoundary => Sys2Proof.Machine.execSlotBoundary s
  | .zspChangeTaken level => Sys2Proof.Machine.execZspChangeTaken level s
  | .supervisionTimerExpiry => Sys2Proof.Machine.execSupervisionTimerExpiry s
  | .doorCommand => Sys2Proof.Machine.execDoorCommand s
  | .loopChangeTaken side level => Sys2Proof.Machine.execLoopChangeTaken side level s
  | .maximumReleaseTimeExpiry side => Sys2Proof.Machine.execMaximumReleaseTimeExpiry side s
  | .warningLeadTimeExpiry side => Sys2Proof.Machine.execWarningLeadTimeExpiry side s
  | .closeTimeoutExpiry side => Sys2Proof.Machine.execCloseTimeoutExpiry side s
  | .warningPhaseChange side => Sys2Proof.Machine.execWarningPhaseChange side s
  | .doorReport => Sys2Proof.Machine.execDoorReport s
  | .demand => Sys2Proof.Machine.execDemand s
  | .demandHoldExpiry => Sys2Proof.Machine.execDemandHoldExpiry s
  | .pacerTick => Sys2Proof.Machine.execPacerTick s
  | .conversionComplete code => Sys2Proof.Machine.execConversionComplete code s
  | .coachLinkMessageComplete bytes => Sys2Proof.Machine.execCoachLinkMessageComplete bytes s
  | .coachLinkByteTimeout bytes => Sys2Proof.Machine.execCoachLinkByteTimeout bytes s
  | .coachLinkTxComplete => Sys2Proof.Machine.execCoachLinkTxComplete s
  | .identify route => Sys2Proof.Machine.execIdentify route s
  | .readConsist route => Sys2Proof.Machine.execReadConsist route s
  | .readDoor route => Sys2Proof.Machine.execReadDoor route s
  | .readHeating route => Sys2Proof.Machine.execReadHeating route s
  | .readSense route => Sys2Proof.Machine.execReadSense route s
  | .readCapture route => Sys2Proof.Machine.execReadCapture route s
  | .readCounters route => Sys2Proof.Machine.execReadCounters route s
  | .readNotices route => Sys2Proof.Machine.execReadNotices route s
  | .clearCounters route => Sys2Proof.Machine.execClearCounters route s
  | .clearNotices route => Sys2Proof.Machine.execClearNotices route s
  | .setNoticeEnable route => Sys2Proof.Machine.execSetNoticeEnable route s
  | .loadTable route => Sys2Proof.Machine.execLoadTable route s
  | .apply route => Sys2Proof.Machine.execApply route s
  | .store route => Sys2Proof.Machine.execStore route s
  | .storeWriteComplete => Sys2Proof.Machine.execStoreWriteComplete s
  | .setBudget route => Sys2Proof.Machine.execSetBudget route s
  | .setSense route => Sys2Proof.Machine.execSetSense route s
  | .sample route => Sys2Proof.Machine.execSample route s
  | .startCapture route => Sys2Proof.Machine.execStartCapture route s
  | .stopCapture route => Sys2Proof.Machine.execStopCapture route s
  | .clearGroupFault route => Sys2Proof.Machine.execClearGroupFault route s
  | .recensus route => Sys2Proof.Machine.execRecensus route s
  | .restart route => Sys2Proof.Machine.execRestart route s
  | .restartTakesEffect pins => Sys2Proof.Machine.execRestartTakesEffect pins s
  | .coachLinkByteError bytes => Sys2Proof.Machine.execCoachLinkByteError bytes s

end Sys2Proof.Machine
end

