-- ==== Sys2Proof/Machine/Time.lean ====
section
/-! DEFINITION. One millisecond of the node's timebase (log 1): running timers have less left, ages and the tick grow. Nothing is due by
it alone: an expiry, a tick, a window is taken as a command (log 2). -/

namespace Sys2Proof.Machine

/-- A running timer with one millisecond less, down to 0; a stopped one stays stopped. -/
def countdown (t : Option Nat) : Option Nat := t.map fun ms => ms - 1

/-- The timers of the census controller after one millisecond. -/
def Census.passMs (c : Census) : Census := { c with timer := countdown c.timer, hold := countdown c.hold }

/-- The tick and the supervision timer after one millisecond; the tick stands at 100 until CYCLE_TICK takes it. -/
def Supervisor.passMs (l : Supervisor) : Supervisor := { l with tick := min 100 (l.tick + 1), timer := countdown l.timer }

/-- A side timer after one millisecond. -/
def DoorSide.passMs (x : DoorSide) : DoorSide := { x with timer := x.timer.map fun t => { t with left := t.left - 1 } }

/-- Pacer and newest-code ages after one millisecond (R155). -/
def Sense.passMs (c : Sense) : Sense :=
  { c with pacer := countdown c.pacer
           channels := c.channels.map fun ch => { ch with age := ch.age.map fun ms => ms + 1 } }

/-- One millisecond passes at a node with power. -/
def State.passMs (s : State) : State :=
  if s.powered then
    { s with census := s.census.passMs
             line := s.line.passMs
             doors := { s.doors with side1 := s.doors.side1.passMs, side2 := s.doors.side2.passMs }
             heater := { s.heater with hold := countdown s.heater.hold }
             sense := s.sense.passMs
             mgmt := { s.mgmt with restart := countdown s.mgmt.restart } }
  else s

end Sys2Proof.Machine
end

