-- ==== Sys2Proof/Machine/Step.lean ====
section
/-! DEFINITION. The step: the command at the front of the queue is taken; on an empty queue one millisecond passes (log 1). -/

namespace Sys2Proof.Machine

/-- The next step of the node: the command at the front of the queue carried out with the queue's rest, or, with nothing waiting, the
passing of one millisecond. -/
def step (s : State) : Host.Outcome State Fault Refusal :=
  match s.pending with
  | [] => .next s.passMs
  | c :: rest => exec c { s with pending := rest }

/-- A state with the command that a word spells at the front of its queue. No row of spec/opcode_table.json has bits, so that no word
spells one (log 23). -/
def State.withFetchWord (s : State) (nbits w : Nat) : State :=
  match decodeTableWord nbits w with
  | some c => { s with pending := c :: s.pending }
  | none => s

end Sys2Proof.Machine
end

