-- ==== Sys2Proof/Safety.lean ====
section
/-! DEFINITION. What it is for a state to be sound: the conditions that the rules keep from one command to the next. Each is a Bool over
plain data; the statements say that every step keeps it and that State.reset meets it. -/

namespace Sys2Proof.Machine

/-! ## Door sides (R72, R82 to R91) and the permit (R70) -/

/-- The outputs and the timer that a side's state gives (R82, R84), the loop level that LOCKED, CLOSING and FAULT stand for (R87 to R90),
and ABSENT exactly without doors (R72, R91). -/
def DoorSide.sound (x : DoorSide) (count : Nat) : Bool :=
  match x.st with
  | .absent => !x.rel && !x.warn && x.timer.isNone && decide (count = 0)
  | .locked => !x.rel && !x.warn && x.timer.isNone && decide (count ≠ 0) && x.loop
  | .released => x.rel && !x.warn && decide (count ≠ 0) && decide (x.cause = .none)
  | .warning =>
    x.rel && x.timer.isSome && decide (count ≠ 0)
      && (match x.mode with
          | .steady => x.warn
          | .pulsed => x.warn == x.phase)
  | .closing => !x.rel && x.warn && x.timer.isSome && decide (count ≠ 0) && !x.loop
  | .fault => !x.rel && !x.warn && x.timer.isNone && decide (count ≠ 0) && !x.loop

/-- Both sides are sound, and door-derate says whether a side is out of LOCKED and ABSENT (R72, R101). -/
def State.doorsSound (s : State) : Bool :=
  s.doors.side1.sound s.mgmt.working.door.count1 && s.doors.side2.sound s.mgmt.working.door.count2
    && (s.doors.derate == !(s.doors.side1.shut && s.doors.side2.shut))

/-- No release output is on while the zero-speed permit is false (R79, R92, R93). -/
def State.releaseSafe (s : State) : Bool := s.line.permit || (!s.doors.side1.rel && !s.doors.side2.rel)

/-- The permit is what R70 forms from supervision state, ZSP and beacon flag. -/
def State.permitSound (s : State) : Bool := s.line.permit == permitOf s.line.sup s.line.zsp s.line.flag

/-! ## Census and supervision (chapters 3 and 4) -/

/-- The lead census state and the census state go together (3.3): CALLING in SURVEY, HOLDING in SETTLED, BLOCKED in STALE or DETACHED;
the census timer runs in CALLING alone, the survey hold in SURVEY without the lead role alone. -/
def State.censusSound (s : State) : Bool :=
  let c := s.census
  (match c.lead with
   | .off => true
   | .calling => decide (c.cs = .survey)
   | .holding => decide (c.cs = .settled)
   | .blocked => decide (c.cs = .stale ∨ c.cs = .detached))
    && (c.timer.isSome == decide (c.lead = .calling))
    && (c.hold.isSome == (decide (c.cs = .survey) && decide (c.lead = .off)))
    && (!decide (c.cs = .settled ∨ c.cs = .stale) || c.table.isSome)
    && (!decide (c.cs = .detached) || c.table.isNone)

/-- A node outside SETTLED is not supervised (R69); a lead in HOLDING is LIVE with its ZSP as stored flag (R61, R66); beacon sending is on
exactly in HOLDING (R64); a SETTLED member's timer runs unless it is LOST (R66 to R68). -/
def State.supervisionSound (s : State) : Bool :=
  let l := s.line
  (l.beaconOn == s.holding)
    && (if s.holding then decide (l.sup = .live) && l.timer.isNone && (l.flag == l.zsp)
        else if s.settled then (l.timer.isNone == decide (l.sup = .lost))
        else decide (l.sup = .none) && l.timer.isNone && !l.flag)

/-! ## Door summary and allocator (R104, R111, R112, R122, R125) -/

/-- PROVEN is on exactly when the lead is in HOLDING and every record is fresh with both sides LOCKED or ABSENT (R111). -/
def State.provenSound (s : State) : Bool := s.summary.proven == (s.holding && s.summary.recs.all SummaryRecord.proves)

/-- Outside HOLDING the summary and the demand table are empty and no allocation stands (R104, R112, R122, R125); in HOLDING both have one
record for each record of the table (R105, R123). -/
def State.summarySound (s : State) : Bool :=
  if s.holding then
    decide (s.summary.recs.length = s.tableSize) && decide (s.alloc.recs.length = s.tableSize) && decide (1 ≤ s.tableSize)
  else s.summary.recs.isEmpty && s.alloc.recs.isEmpty && s.alloc.last.isNone

/-! ## Heater groups (R118, R135, R136, R142 to R145) -/

/-- A group is NOT_FITTED exactly with rating 0, has on-slots only when ENABLED and at most 100 of them, is on exactly in its window, and
the converter holds its output level. -/
def groupSound (t : HeatTable) (slot k : Nat) (g : Group) (w : OnWindow) : Bool :=
  (decide (g.st = .notFitted) == decide (t.rating k = 0)) && (decide (g.n = 0) || decide (g.st = .enabled)) && decide (g.n ≤ 100)
    && (g.output == inWindow k g.n slot) && (w.level == g.output)

/-- The four groups are sound, R and D are what R118 and R117 form, and the duty and missed count lie in their ranges. -/
def State.heaterSound (s : State) : Bool :=
  let h := s.heater
  let t := s.mgmt.working.heat
  decide (h.groups.length = 4) && decide (s.sense.onWins.length = 4)
    && ([0, 1, 2, 3].all fun k => groupSound t h.slot k (h.group k) (s.sense.onWin k))
    && decide (h.rating = ratingOf t h.groups) && decide (h.demandD = effectiveDemand h.demandT s.doors.derate t.derate)
    && decide (h.duty ≤ 1000) && decide (h.missed ≤ 3) && decide (h.demandT ≤ 100)

/-! ## End units and relay queues (R1, R5 to R8, R13, R16, R27, R28) -/

/-- An end unit's counters fit its pilot state; an end that is not MATED holds no frame; an idle transmitter has nothing queued; the
queues keep their capacities. -/
def LinePort.sound (x : LinePort) : Bool :=
  (match x.pilot with
   | .parted => decide (x.good = 0) && decide (x.bad = 0)
   | .mating => decide (1 ≤ x.good) && decide (x.good ≤ 19) && decide (x.bad = 0)
   | .mated => decide (x.good = 0) && decide (x.bad ≤ 4))
    && (decide (x.pilot = .mated) || (x.tx.isNone && x.rx.isNone && x.urgentQ.isEmpty && x.normalQ.isEmpty))
    && (x.tx.isSome || (x.urgentQ.isEmpty && x.normalQ.isEmpty))
    && decide (x.urgentQ.length ≤ Config.urgentCapacity) && decide (x.normalQ.length ≤ Config.normalCapacity)
    && decide (x.edges = 0)

/-- Both end units are sound. -/
def State.portsSound (s : State) : Bool := s.portA.sound && s.portB.sound

/-- Every frame that a port holds for sending has its fields in the ranges of the line frame (12.2, R25). -/
def LinePort.framesFit (x : LinePort) : Bool :=
  (match x.tx with
   | some f => f.wellFormed
   | none => true) && x.urgentQ.all Frame.wellFormed && x.normalQ.all Frame.wellFormed

/-- Every frame held for sending fits the line frame, and so do the values the node puts into the frames it makes: its recorded position and
epochs, the length of its demand table, and the payloads of the messages it has received (12.6). -/
def State.framesFit (s : State) : Bool :=
  s.portA.framesFit && s.portB.framesFit && decide (s.census.position ≤ 32) && decide (s.census.epoch ≤ 255)
    && decide (s.census.lastEpoch ≤ 255) && decide (s.alloc.recs.length ≤ 32)
    && (s.link.rx.all fun m => decide (m.payload.length ≤ Config.maxMessagePayload))

/-- Every message waiting or in transmission on the coach link has a payload of at most 72 bytes (12.6). -/
def State.messagesFit (s : State) : Bool :=
  let fits := fun (m : Message) => decide (m.payload.length ≤ Config.maxMessagePayload)
  s.link.txQ.all fits && s.link.backlog.all fits
    && (match s.link.sending with
        | some m => fits m
        | none => true)

/-! ## The coach link (R179, R180) -/

/-- The places a STORE under way keeps for its reply (R179). -/
def Mgmt.keptPlaces (m : Mgmt) : Nat :=
  match m.store with
  | .writing _ .coachLink _ => 1
  | .writing _ (.line _ _ _) _ => 0
  | .idle => 0

/-- The transmit queue and the reserved places keep within 8, places are reserved between commands for a STORE alone, an idle
transmitter has nothing queued, parts wait only behind a full queue, and the receiver holds at most 2 messages. -/
def State.linkSound (s : State) : Bool :=
  let l := s.link
  decide (l.txQ.length + l.reserved ≤ Config.txPlaces) && decide (l.reserved = s.mgmt.keptPlaces)
    && (l.sending.isSome || (l.txQ.isEmpty && l.backlog.isEmpty))
    && (l.backlog.isEmpty || decide (l.txQ.length = Config.txPlaces)) && decide (l.rx.length ≤ Config.rxBuffers)

/-! ## Loadable tables (11, 11.2) -/

/-- The COACH table keeps its ranges (R163). -/
def CoachTable.sound (t : CoachTable) : Bool := decide (16 ≤ t.arraySize) && decide (t.arraySize ≤ 64)

/-- The DOOR table keeps its ranges (R103). -/
def DoorTable.sound (t : DoorTable) : Bool :=
  decide (t.count1 ≤ 8) && decide (t.count2 ≤ 8) && decide (5 ≤ t.warnLead) && decide (t.warnLead ≤ 100)
    && decide (1 ≤ t.closeTimeout) && decide (t.closeTimeout ≤ 30)
    && (decide (t.maxRelease = 0) || (decide (10 ≤ t.maxRelease) && decide (t.maxRelease ≤ 600)))

/-- The HEAT table keeps its ranges (R119, R136). -/
def HeatTable.sound (t : HeatTable) : Bool :=
  decide (t.g0 ≤ 511) && decide (t.g1 ≤ 511) && decide (t.g2 ≤ 511) && decide (t.g3 ≤ 511) && decide (t.fallbackCap ≤ 511)
    && decide (t.derate ≤ 100) && decide (t.defaultBudget ≤ 4095) && decide (t.undervolt ≤ 4000)

/-- A CLASS entry keeps its ranges (R21). -/
def ClassEntry.sound (e : ClassEntry) : Bool :=
  match e.countCode with
  | some c => decide (16 ≤ c) && decide (c ≤ 63)
  | none => true

/-- The SENSE table keeps its ranges (R158). -/
def SenseTable.sound (t : SenseTable) : Bool :=
  decide (t.stop ≤ 7) && decide (t.selected ≤ 7) && decide (1 ≤ t.interval) && decide (t.interval ≤ 255)
    && decide (t.gains.length = 8) && t.gains.all goodGain

/-- The five tables keep their ranges, the CLASS table its 32 entries. -/
def Tables.sound (t : Tables) : Bool :=
  t.coach.sound && t.door.sound && t.heat.sound && decide (t.cls.length = 32) && t.cls.all ClassEntry.sound && t.sense.sound

/-- Working, staging and stored tables keep their ranges, and so does an image being written (R174, R176, R178). -/
def State.tablesSound (s : State) : Bool :=
  let m := s.mgmt
  m.working.sound && m.staging.sound
    && (match m.image with
        | some i => i.tables.sound
        | none => true)
    && (match m.store with
        | .writing i _ _ => i.tables.sound
        | .idle => true)

/-! ## Sense converter and counters (R150, R154, R160, R163, R164) -/

/-- Windows hold at most 8 codes and the capture FIFO at most 32 entries; there are 8 channels and 4 on-windows; the pacer runs in the
continuous modes, and otherwise only during a SCAN. -/
def State.senseSound (s : State) : Bool :=
  let c := s.sense
  decide (c.channels.length = 8) && decide (c.onWins.length = 4)
    && (c.channels.all fun ch => decide (ch.window.length ≤ Config.windowCodes) && (ch.window.isEmpty == ch.age.isNone))
    && (c.onWins.all fun w => decide (w.window.length ≤ Config.windowCodes) && decide (w.count ≤ 255))
    && decide (c.fifo.length ≤ Config.fifoEntries) && decide (c.lost ≤ 65535)
    && (match c.mode with
        | .single => c.pacer.isNone && c.scan.isNone
        | .singleCont => c.pacer.isSome && c.scan.isNone
        | .scanCont => c.pacer.isSome && c.scan.isNone
        | .scan => c.pacer.isSome == c.scan.isSome)

/-- The counter array has the size of the working coach table, and its counters and the exception count lie in their ranges (R163,
R164). -/
def State.eventsSound (s : State) : Bool :=
  decide (s.events.counters.length = s.mgmt.working.coach.arraySize)
    && (s.events.counters.all fun c => decide (c.recent ≤ 65535) && decide (c.wide ≤ 65535))
    && decide (s.events.exceptions ≤ 4294967295)

/-! ## What LOAD TABLE stores (R21, R103, R119, R136, R158, R163 and the COACH table of 11.2) -/

/-- The value that field `n` of a table holds after a LOAD TABLE of value `v`, as the clamping columns give it. -/
def storedValue (name : TableName) (n v : Nat) : Nat :=
  match name with
  | .coach => if n = 1 then (if v = 2 then 2 else 1) else if n = 4 then max 16 (min 64 v) else min 1 v
  | .door =>
    if n ≤ 1 then min 8 v
    else if n = 2 then max 5 (min 100 v)
    else if n = 3 then (if v = 1 then 1 else 0)
    else if n = 4 then max 1 (min 30 v)
    else if v = 0 then 0
    else max 10 (min 600 v)
  | .heat =>
    if n = 0 ∨ n = 5 then min 1 v
    else if n ≤ 4 ∨ n = 6 then min 511 v
    else if n = 7 then min 100 v
    else if n = 8 then min 4095 v
    else min 4000 v
  | .cls =>
    if n % 5 = 0 then min 3 v
    else if n % 5 = 1 then (if v = 1 then 1 else 0)
    else if n % 5 = 2 then (if v ≤ 2 then v else 0)
    else if n % 5 = 3 then min 1 v
    else if 16 ≤ v ∧ v ≤ 63 then v
    else 0
  | .sense =>
    if n = 0 then min 3 v
    else if n ≤ 2 then min 7 v
    else if n = 3 then max 1 v
    else if v = 0 then 1
    else if v ≤ 2 then v
    else if v = 3 then 2
    else if v ≤ 7 then 4
    else 8

/-! ## What the statements say of frames, start-ups, requests and deliveries -/

/-- A MATED end with an idle transmitter and empty queues, so that a frame offered to it is begun at once (R13, R28). -/
abbrev State.idleEnd (s : State) (p : Port) : Prop :=
  (s.port p).pilot = .mated ∧ (s.port p).tx = none ∧ (s.port p).urgentQ = [] ∧ (s.port p).normalQ = []

/-- The state with a frame begun at such an end. -/
def State.begun (s : State) (p : Port) (f : Frame) : State := s.setPort p { s.port p with tx := some f }

/-- A frame that a block of the node originates, of a class 0 to 11, as the relay unit completes it: hop count 0, the node's own ID, its
recorded position if SETTLED and 0 otherwise, the urgent flag for classes 0 to 6 (R26). -/
def State.ownFrame (s : State) (cls : Nat) (dir : Dir) (epoch : Nat) (kind : DestKind) (val : BitVec 32) (payload : List Byte) : Frame :=
  { cls := cls, urgent := decide (cls ≤ 6), dir := dir, hop := 0, epoch := epoch
    srcPos := if s.census.cs = .settled then s.census.position else 0
    destKind := kind, destVal := val, srcId := s.nodeId, payload := payload }

/-- The tests that R38 and R48 make of a list, on the bytes of its payload: a fixed part of 7 bytes whose last is the entry count, then 1 to
32 entries of 8 bytes, as many as the count says; no node ID twice; the node's own ID and orientation at place `k` (R182). -/
abbrev State.listSound (s : State) (payload : List Byte) (es : List Entry) (k : Nat) : Prop :=
  (payload.getD 6 0).toNat = es.length ∧ payload.length = 7 + 8 * es.length ∧ 1 ≤ es.length ∧ es.length ≤ 32
    ∧ (es.map Entry.id).Nodup ∧ ∃ e, es[k]? = some e ∧ e.id = s.nodeId ∧ e.orient = s.census.orient

/-- The tests of R48: the pending tag, an epoch in 1..255, and a sound list with the node at its recorded position. -/
abbrev State.announceSound (s : State) (payload : List Byte) (a : AnnounceIn) : Prop :=
  s.census.tag = some a.tag ∧ 1 ≤ a.epoch ∧ a.epoch ≤ 255 ∧ 1 ≤ s.census.position
    ∧ s.listSound payload a.entries (s.census.position - 1)

/-- The census entry that a node puts into a list, with orientation `o` (R45). -/
def State.censusEntry (s : State) (o : Orientation) : Entry :=
  let w := s.mgmt.working
  { id := s.nodeId, orient := o, drivable := w.coach.drivable, heating := w.heat.enabled, preferred := w.heat.preferred
    doors1 := w.door.count1, doors2 := w.door.count2, rating := s.heater.rating }

/-- The payload of a DOOR_STATE (R100, 12.8). -/
def State.doorStatePayload (s : State) : List Byte :=
  let side : DoorSide → List Byte := fun x => [byte x.st.code, byte x.cause.code, byte x.refusal.code, byte x.openN, byte x.obstrN]
  [byte s.census.position, byte s.census.epoch] ++ side s.doors.side1 ++ side s.doors.side2 ++ [if s.line.permit then 1 else 0]

/-- What a start-up leaves, whatever the counters and the group states: tables and mask of the valid image or else the defaults, pins
sampled, every block in its reset state, CONFIG_DEFAULTED raised without an image and SENSE_DEGRADED where the settings give it, with the
NOTICE of each that is enabled in transmission (R178 and R1, R16, R32, R60, R72, R104, R114, R122, R135, R150, R156, R167, R169, R179). -/
def State.startedAs (s t : State) (pins : ResetPins) : Prop :=
  let image := if s.mgmt.store = .idle then s.mgmt.image else none
  let tables := (image.map Image.tables).getD Tables.default
  let enable := (image.map Image.enable).getD 0x1FFF
  let degraded := (Sense.reset tables.sense).degraded
  let side : Nat → Bool → DoorSide := fun count loop =>
    DoorSide.reset (if count = 0 then .absent else if loop then .locked else .fault) loop
  let a := side tables.door.count1 pins.loop1
  let b := side tables.door.count2 pins.loop2
  let notice : Byte → Byte → Byte → Message := fun flag h l => { kind := 0x82, payload := idBytes s.nodeId ++ [0, flag, h, l, 0] }
  t.powered = true ∧ t.nodeId = s.nodeId ∧ t.pending = s.pending ∧ t.freeCount = s.freeCount ∧ t.strap = pins.endswap
    ∧ t.mgmt = { working := tables, staging := tables, image := image, store := .idle, restart := none }
    ∧ t.portA = LinePort.reset ∧ t.portB = LinePort.reset ∧ t.delivered = [] ∧ t.census = Census.reset ∧ t.line = Supervisor.reset
    ∧ t.doors = { side1 := a, side2 := b, derate := decide (a.st = .fault ∨ b.st = .fault) } ∧ t.summary = Summary.reset
    ∧ t.heater = Heater.reset t.heater.groups (ratingOf tables.heat t.heater.groups) ∧ t.heater.groups.length = 4
    ∧ t.alloc = Allocator.reset tables.heat.defaultBudget ∧ t.sense = Sense.reset tables.sense
    ∧ t.notices = { flags := if image = none then 0x800 else if degraded then 0x100 else 0, enable := enable }
    ∧ t.link = { Link.reset with
        sending := if image = none then some (notice 12 8 0)
          else if degraded ∧ hasFlag enable .senseDegraded = true then some (notice 9 1 0)
          else none }

/-- A request alone in the receive buffers of a node with power, with its two tag bytes, while the transmitter of the coach link is busy
and its queue empty. -/
def State.asks (s : State) (code : Nat) (h l : Byte) (args : List Byte) : Prop :=
  s.powered = true ∧ s.link.rx = [{ kind := 4, payload := byte code :: h :: l :: args }] ∧ s.link.txQ = [] ∧ s.link.backlog = []
    ∧ s.link.reserved = 0 ∧ s.link.sending ≠ none

/-- The state with that request taken and its reply in the transmit queue, the parts beyond the eighth waiting to enter (R172, R179). -/
def State.answered (s : State) (code : Nat) (h l : Byte) (st : Status) (results : List Byte) : State :=
  let parts := (replyPayloads code (u16 h l) st results linkPartBytes).map fun p => ({ kind := 0x81, payload := p } : Message)
  { s with link := { s.link with rx := [], txQ := parts.take 8, backlog := parts.drop 8 } }

/-- A message of a kind alone in the receive buffers of a node with power. -/
def State.brings (s : State) (kind : Nat) (payload : List Byte) : Prop :=
  s.powered = true ∧ s.link.rx = [{ kind := kind, payload := payload }]

/-- The state with that message taken. -/
def State.emptied (s : State) : State := { s with link := { s.link with rx := [] } }

/-- A frame of a class first among those of its class waiting at a node with power; `rest` are the other deliveries. -/
def State.holds (s : State) (cls : Nat) (d : Delivery) (rest : List Delivery) : Prop :=
  s.powered = true ∧ takeClass cls s.delivered = some (d, rest)

/-- What no census, door, line or heating event touches: power, identity, strap, configuration, free values and the queue. -/
def State.sameFrame (s t : State) : Prop :=
  t.powered = s.powered ∧ t.nodeId = s.nodeId ∧ t.strap = s.strap ∧ t.mgmt = s.mgmt ∧ t.pending = s.pending

end Sys2Proof.Machine
end

