-- ==== Sys2Proof/Certificates/Slice0/Obligations.lean ====
section
/-! DEFINITION. The statements for the provers. Each docstring names the rules it formalises; a clause that rests on a choice of the
model names the log entry. -/

open Sys2Proof Sys2Proof.Machine

/-! ## The step -/

/-- The step carries out the command at the front of the queue with the queue's rest (log 1). -/
def Obligations.StepRunsFront : Prop :=
  ∀ (c : Instr) (rest : List Instr) (s : State), step { s with pending := c :: rest } = exec c { s with pending := rest }

/-- Every command answers a next state, and none touches the node ID. That a command leaves the queue as it is (log 1), and that a command
whose event cannot occur, or that meets a node without power, answers a next state as well (log 3, log 4), is the model's choice. -/
def Obligations.EveryCommandCompletes : Prop :=
  ∀ (c : Instr) (s : State), ∃ t, exec c s = .next t ∧ t.pending = s.pending ∧ t.nodeId = s.nodeId

/-- On an empty queue one millisecond passes: every running timer has one less, the newest-code ages and the tick have one more (the tick
to a most of 100), windows, ports, counters, notices and coach link stand; the model's choice (log 1, log 2). -/
def Obligations.IdleStepIsOneMillisecond : Prop :=
  ∀ (s : State), s.powered = true → s.pending = [] → ∃ t, step s = .next t
    ∧ t.census.timer = s.census.timer.map (· - 1) ∧ t.census.hold = s.census.hold.map (· - 1)
    ∧ t.line.timer = s.line.timer.map (· - 1) ∧ t.line.tick = min 100 (s.line.tick + 1)
    ∧ t.heater.hold = s.heater.hold.map (· - 1) ∧ t.sense.pacer = s.sense.pacer.map (· - 1)
    ∧ t.mgmt.restart = s.mgmt.restart.map (· - 1)
    ∧ (∀ sd, (t.doors.side sd).timer = (s.doors.side sd).timer.map fun x => { x with left := x.left - 1 })
    ∧ (∀ k, (t.sense.channel k).age = (s.sense.channel k).age.map (· + 1)
        ∧ (t.sense.channel k).window = (s.sense.channel k).window ∧ (t.sense.channel k).gain = (s.sense.channel k).gain)
    ∧ t.portA = s.portA ∧ t.portB = s.portB ∧ t.events = s.events ∧ t.notices = s.notices ∧ t.link = s.link

/-! ## Conditions that every step keeps -/

/-- State.reset is sound in every respect (R1, R32, R60, R72, R104, R114, R122, R135, R150, R163, R178, R179). -/
def Obligations.ResetIsSound : Prop :=
  State.reset.doorsSound = true ∧ State.reset.releaseSafe = true ∧ State.reset.permitSound = true ∧ State.reset.censusSound = true
    ∧ State.reset.supervisionSound = true ∧ State.reset.provenSound = true ∧ State.reset.summarySound = true
    ∧ State.reset.heaterSound = true ∧ State.reset.portsSound = true ∧ State.reset.framesFit = true ∧ State.reset.messagesFit = true
    ∧ State.reset.linkSound = true ∧ State.reset.senseSound = true ∧ State.reset.tablesSound = true ∧ State.reset.eventsSound = true

/-- Every step keeps the door sides sound: outputs and timer as the side state gives, LOCKED only with the loop made, CLOSING and FAULT
only with it broken, ABSENT exactly without doors, door-derate as the states give (R82, R84, R87 to R91, R101); and with them it keeps
this: no release output is on while the zero-speed permit is false (R79, R92, R93). -/
def Obligations.StepKeepsDoorsSafe : Prop :=
  ∀ (s t : State), s.doorsSound = true → step s = .next t →
    t.doorsSound = true ∧ (s.releaseSafe = true → t.releaseSafe = true)

/-- Every step keeps the lead census state, the census state, their timers and the table in the combinations of 3.3 and 3.1, and with them
the supervision state, timer, stored flag and beacon sending (R64, R66 to R69). -/
def Obligations.StepKeepsCensusSound : Prop :=
  ∀ (s t : State), s.censusSound = true → step s = .next t →
    t.censusSound = true ∧ (s.supervisionSound = true → t.supervisionSound = true)

/-- Every step keeps the permit as R70 forms it from the supervision state, the debounced ZSP and the stored beacon flag. It keeps PROVEN
on exactly when the lead is in HOLDING and every summary record has an age of 2 or less and both train sides LOCKED or ABSENT (R111). And
it keeps the summary and the demand table empty outside HOLDING, and of the table's length in HOLDING (R104, R105, R112, R122, R123,
R125). -/
def Obligations.StepKeepsPermitAndProven : Prop :=
  ∀ (s t : State), step s = .next t →
    ((s.line.permit = match s.line.sup with
      | .live => s.line.zsp && s.line.flag
      | .none => s.line.zsp
      | .lost => s.line.zsp) →
     (t.line.permit = match t.line.sup with
      | .live => t.line.zsp && t.line.flag
      | .none => t.line.zsp
      | .lost => t.line.zsp))
    ∧ (s.provenSound = true → t.provenSound = true) ∧ (s.summarySound = true → t.summarySound = true)

/-- Every step keeps the heater groups sound: NOT_FITTED exactly with rating 0, on-slots in ENABLED alone, each output on exactly in its
window, the level handed to the converter, and R and D as formed (R117, R118, R135, R136, R142 to R145). -/
def Obligations.StepKeepsHeaterSound : Prop :=
  ∀ (s t : State), s.heaterSound = true → step s = .next t → t.heaterSound = true

/-- Every step keeps the end units sound: counters fitting the pilot state, no frame at an end that is not MATED, nothing queued behind an
idle transmitter, queues within 8 and 16 (R5, R7, R13, R27, R28); and it keeps every frame held for sending in the ranges of the line
frame, its hop count at 40 or less (12.2, R25). -/
def Obligations.StepKeepsPortsAndFrames : Prop :=
  ∀ (s t : State), step s = .next t →
    (s.portsSound = true → t.portsSound = true) ∧ (s.framesFit = true → t.framesFit = true)

/-- Every step keeps every coach link message within 72 payload bytes, the transmit queue with its reserved places within 8, the receive
buffers within 2, and nothing queued behind an idle transmitter (12.6, R179, R180). -/
def Obligations.StepKeepsLinkSound : Prop :=
  ∀ (s t : State), s.messagesFit = true → s.linkSound = true → step s = .next t → t.messagesFit = true ∧ t.linkSound = true

/-- Every step keeps all loadable tables, working, staged and stored, in their ranges (R21, R103, R119, R136, R158, R163, R174). With them
it keeps windows within 8 codes, the capture FIFO within 32 entries, and the pacer running in the continuous modes and otherwise only
during a SCAN (R150, R152 to R154, R160). And it keeps the counter array at the size of the working coach table and its counters in range
(R163, R164). -/
def Obligations.StepKeepsTablesSenseCounters : Prop :=
  ∀ (s t : State), step s = .next t →
    (s.tablesSound = true → t.tablesSound = true)
    ∧ (s.tablesSound = true → s.senseSound = true → t.senseSound = true)
    ∧ (s.eventsSound = true → t.eventsSound = true)

/-! ## Encodings -/

/-- A frame in range with hop count 39 or less passes the checks of a neighbour's end unit and is read as sent; with hop count 40 it is
dropped at the hop limit (R9 to R13, R181, 12.2). A list of census entries in range is read back from its bytes, whole and in order, and
its count field matches (R182, 12.3). -/
def Obligations.FramesAndEntriesReadAsSent : Prop :=
  (∀ (f : Frame), f.wellFormed = true →
    (f.hop ≤ 39 → checkFrame (Assembly.empty.extend f.encode) = .good f)
      ∧ (f.hop = 40 → checkFrame (Assembly.empty.extend f.encode) = .hopLimit))
  ∧ (∀ (es : List Entry), (∀ e ∈ es, e.doors1 ≤ 8 ∧ e.doors2 ≤ 8 ∧ e.rating ≤ 2047) →
    readEntries (entriesBytes es) = es ∧ countMatches es.length (entriesBytes es) = true)

/-- Between messages, the bytes of a sound message of kind 1 to 3 put it into a free receive buffer, and with both buffers full it is an
overrun at code 15. A message with a wrong CRC, a length byte above 72 or an unknown type is discarded at code 15 (where a message with
such a length byte ends is log 27). A MGMT_REQUEST of a known type waits in a free buffer; one too short is discarded at code 15; one of
an unknown type is answered BAD_REQUEST, without results (log 18), as soon as it is oldest (log 21) (R173, R179, R181; 12.6). -/
def Obligations.MessageReceived : Prop :=
  ∀ (s : State), s.powered = true → s.link.asm = none →
    (∀ m : Message, 1 ≤ m.kind → m.kind ≤ 3 → m.payload.length ≤ 72 → (∀ x ∈ s.link.rx, 1 ≤ x.kind ∧ x.kind ≤ 3) →
      (s.link.rx.length < 2 →
        exec (.coachLinkMessageComplete m.encode) s = .next { s with link := { s.link with rx := s.link.rx ++ [m] } })
      ∧ (s.link.rx.length = 2 → 15 < s.events.counters.length →
        exec (.coachLinkMessageComplete m.encode) s = .next { s with events := s.events.bump 15 }))
    ∧ (∀ (n : Byte) (more : List Byte), more.length = n.toNat + 3 → 15 < s.events.counters.length →
      (72 < n.toNat ∨ crcBytes (n :: more.take (n.toNat + 1)) ≠ more.drop (n.toNat + 1)
        ∨ (more.getD 0 0).toNat < 1 ∨ 5 < (more.getD 0 0).toNat) →
      exec (.coachLinkMessageComplete (0xA5 :: n :: more)) s = .next { s with events := s.events.bump 15 })
    ∧ (∀ p : List Byte, p.length < 3 → s.link.rx = [] → 15 < s.events.counters.length →
      exec (.coachLinkMessageComplete ({ kind := 4, payload := p } : Message).encode) s = .next { s with events := s.events.bump 15 })
    ∧ (∀ (code h l : Byte) (args : List Byte), args.length ≤ 69 → s.link.rx = [] →
      let m : Message := { kind := 4, payload := code :: h :: l :: args }
      (1 ≤ code.toNat → code.toNat ≤ 22 →
        exec (.coachLinkMessageComplete m.encode) s = .next { s with link := { s.link with rx := [m] } })
      ∧ ((code.toNat < 1 ∨ 22 < code.toNat) → s.link.txQ = [] → s.link.backlog = [] → s.link.reserved = 0 → s.link.sending ≠ none →
        exec (.coachLinkMessageComplete m.encode) s =
          .next { s with link := { s.link with txQ := [{ kind := 0x81, payload := [code, h, l, 4, 0x80] }] } }))

/-! ## Power and start-up -/

/-- Power-on. With a valid stored image its tables and enable mask are loaded; without one, a write cut short included, the defaults are,
all 13 flags are enabled and CONFIG_DEFAULTED is set with its NOTICE. The strap is sampled and every block is in its power-on state, the
counters 0, a group ENABLED or NOT_FITTED by its rating, SENSE_DEGRADED raised where the settings give it (R178 and R1, R16, R32, R60,
R72, R104, R114, R122, R135, R150, R163, R167, R169, R176). -/
def Obligations.PowerOnStartsEveryBlock : Prop :=
  ∀ (pins : ResetPins) (s : State), ∃ t, exec (.powerOn pins) s = .next t ∧ s.startedAs t pins
    ∧ t.events = Events.reset t.mgmt.working.coach.arraySize
    ∧ (∀ k, k < 4 → t.heater.group k = Group.reset (if t.mgmt.working.heat.rating k = 0 then .notFitted else .enabled))

/-- The loss of power: every output off, a pending restart forgotten, and the stored image invalid where a write was under way (R176,
R177). A node without power then takes no command but POWER_ON and a further POWER_LOSS, which is the model's choice (log 4). -/
def Obligations.PowerLossEndsAll : Prop :=
  ∀ (s : State), ∃ t, exec .powerLoss s = .next t ∧ t.powered = false ∧ t.nodeId = s.nodeId
    ∧ t.mgmt.image = (if s.mgmt.store = .idle then s.mgmt.image else none) ∧ t.mgmt.store = .idle ∧ t.mgmt.restart = none
    ∧ t.portA.tone = false ∧ t.portB.tone = false ∧ t.doors.side1.rel = false ∧ t.doors.side2.rel = false
    ∧ t.doors.side1.warn = false ∧ t.doors.side2.warn = false ∧ t.summary.proven = false
    ∧ (t.heater.groups.all fun g => !g.output) = true
    ∧ ∀ c, (∀ pins, c ≠ .powerOn pins) → c ≠ .powerLoss → exec c t = .next t

/-- A pending restart takes effect: tables loaded as at power-on, from the image or, where a write was cut short or none is valid, from
the defaults; every block in its RESTART state; the counters kept, and converted where the array size changes; a FAILED group with a
rating still FAILED; both presence tones on (R178 and R1, R3, R16, R32, R60, R72, R104, R114, R122, R135, R150, R163, R167, R176, R177).
With none pending nothing happens, which is the model's choice (log 3). -/
def Obligations.RestartKeepsCountersAndFailures : Prop :=
  ∀ (pins : ResetPins) (s : State), s.powered = true →
    (s.mgmt.restart = none → exec (.restartTakesEffect pins) s = .next s)
    ∧ (s.mgmt.restart ≠ none →
        ∃ t, exec (.restartTakesEffect pins) s = .next t ∧ s.startedAs t pins ∧ t.portA.tone = true ∧ t.portB.tone = true
          ∧ t.events.exceptions = s.events.exceptions
          ∧ (t.mgmt.working.coach.arraySize = s.mgmt.working.coach.arraySize → t.events = s.events)
          ∧ (t.mgmt.working.coach.arraySize ≠ s.mgmt.working.coach.arraySize →
              s.events.counters.length = s.mgmt.working.coach.arraySize →
              t.events.counters.length = t.mgmt.working.coach.arraySize
              ∧ ∀ k, k < t.mgmt.working.coach.arraySize →
                  t.events.counters[k]? = some (s.events.counters.getD k { recent := 0, wide := 0 }))
          ∧ ∀ k, k < 4 → t.heater.group k = Group.reset
              (if t.mgmt.working.heat.rating k = 0 then .notFitted
               else if (s.heater.group k).st = .failed then .failed else .enabled))

/-! ## End units and relay -/

/-- The moves of R5 that neither enter nor leave MATED, and nothing else changes; a window holds 0 edges when it begins (R4). -/
def Obligations.PilotWindowMoves : Prop :=
  ∀ (s : State) (p : Port) (edges : Nat), s.powered = true → (s.port p).edges = 0 →
    let x := s.port p
    let good := 16 ≤ edges ∧ edges ≤ 24
    (x.pilot = .parted → good → exec (.pilotWindowClose p edges) s = .next (s.setPort p { x with good := 1, pilot := .mating }))
    ∧ (x.pilot = .parted → ¬good → exec (.pilotWindowClose p edges) s = .next s)
    ∧ (x.pilot = .mating → good → x.good < 19 →
        exec (.pilotWindowClose p edges) s = .next (s.setPort p { x with good := x.good + 1 }))
    ∧ (x.pilot = .mating → ¬good → exec (.pilotWindowClose p edges) s = .next (s.setPort p { x with good := 0, pilot := .parted }))
    ∧ (x.pilot = .mated → good → exec (.pilotWindowClose p edges) s = .next (s.setPort p { x with bad := 0 }))
    ∧ (x.pilot = .mated → ¬good → x.bad < 4 →
        exec (.pilotWindowClose p edges) s = .next (s.setPort p { x with bad := x.bad + 1 }))

/-- The twentieth good window takes an end to MATED; the fifth bad one takes it to PARTED with its traffic discarded. Without the lead
role either is a topology change: SETTLED goes to STALE and TOPOLOGY is set. At a lead, either at the non-cab end restarts the census at
attempt 0; the cab end entering MATED takes the role with CAB_COUPLED; the cab end leaving it does nothing to the census, which is the
model's choice (log 3) (R5 to R7, R15, R34, R36, R51, R58). When the report of a stale beacon is armed is log 25. -/
def Obligations.PilotEntersAndLeavesMated : Prop :=
  ∀ (s : State) (p : Port) (edges : Nat), s.powered = true → (s.port p).edges = 0 →
    let x := s.port p
    let good := 16 ≤ edges ∧ edges ≤ 24
    let enters := x.pilot = .mating ∧ good ∧ x.good = 19
    let leaves := x.pilot = .mated ∧ ¬good ∧ x.bad = 4
    let parted : LinePort := { x with pilot := .parted, bad := 0, tx := none, rx := none, urgentQ := [], normalQ := [] }
    let after : State → Prop := fun t =>
      t.census = { s.census with cs := if s.census.cs = .settled then .stale else s.census.cs
                                 staleArmed := s.census.staleArmed || decide (s.census.cs = .settled) }
      ∧ hasFlag t.notices.flags .topology = true ∧ s.sameFrame t ∧ t.delivered = s.delivered ∧ t.alloc = s.alloc
      ∧ t.sense = s.sense ∧ (t.port (otherPort p)).pilot = (s.port (otherPort p)).pilot
    let restarted : State → Prop := fun t =>
      t.census.attemptNo = (s.census.attemptNo + 1) % 256 ∧ t.census.attemptCtr = 0 ∧ t.census.position = 1
      ∧ hasFlag t.notices.flags .topology = true ∧ s.sameFrame t ∧ t.delivered = s.delivered ∧ t.sense = s.sense
    (s.census.lead = .off → enters →
      ∃ t, exec (.pilotWindowClose p edges) s = .next t ∧ (t.port p).pilot = .mated ∧ (t.port p).good = 0 ∧ (t.port p).rx = none ∧ after t)
    ∧ (s.census.lead = .off → leaves →
      ∃ t, exec (.pilotWindowClose p edges) s = .next t ∧ t.port p = parted
        ∧ (0 < (if x.tx.isSome then 1 else 0) + x.urgentQ.length + x.normalQ.length →
            hasFlag t.notices.flags .framesDropped = true) ∧ after t)
    ∧ (s.census.lead ≠ .off → p = s.nonCabPort → enters →
      ∃ t, exec (.pilotWindowClose p edges) s = .next t ∧ (t.port p).pilot = .mated ∧ t.census.lead = .calling ∧ t.census.cs = .survey
        ∧ t.census.timer = some 600 ∧ t.census.tag = some { lead := s.nodeId, attempt := (s.census.attemptNo + 1) % 256 }
        ∧ t.census.table = s.census.table ∧ restarted t)
    ∧ (s.census.lead ≠ .off → p = s.nonCabPort → leaves →
      ∃ t, exec (.pilotWindowClose p edges) s = .next t ∧ t.port p = parted ∧ t.census.lead = .holding ∧ t.census.cs = .settled
        ∧ t.census.timer = none ∧ t.census.table.map List.length = some 1 ∧ restarted t)
    ∧ (s.census.lead ≠ .off → p = s.cabPort → enters →
      ∃ t, exec (.pilotWindowClose p edges) s = .next t ∧ (t.port p).pilot = .mated ∧ t.census.lead = .off
        ∧ t.census.failure = .cabCoupled ∧ t.census.timer = none ∧ t.census.tag = none ∧ t.census.table = s.census.table
        ∧ t.census.epoch = s.census.epoch ∧ t.census.position = s.census.position
        ∧ t.census.cs = (if s.census.lead = .calling then (if s.census.table.isSome then .stale else .detached) else s.census.cs)
        ∧ (s.census.lead = .holding → t.summary.recs = [] ∧ t.summary.proven = false ∧ t.alloc.recs = [] ∧ t.alloc.last = none
            ∧ t.line.beaconOn = false ∧ t.line.sup = .none ∧ t.line.timer = some 350 ∧ t.line.flag = false)
        ∧ hasFlag t.notices.flags .censusFailed = true ∧ s.sameFrame t ∧ t.delivered = s.delivered ∧ t.sense = s.sense)
    ∧ (s.census.lead ≠ .off → p = s.cabPort → leaves → x.tx = none → x.urgentQ = [] → x.normalQ = [] →
      exec (.pilotWindowClose p edges) s = .next (s.setPort p parted))

/-- A closed assembly (the bytes held and those that the command brings; none held where the frame began by an ordinary start: log 38)
that is too short, overlong, of a wrong length or with a wrong CRC is discarded at code 0 and nothing else is done with it; an end that is
not MATED ignores the line (R8, R9). A frame sound in this is discarded at code 0 too where its class, direction, source position,
destination kind or POSITION value is out of range (R10), and otherwise at code 1 with a hop count of 40 to 255 (R11). -/
def Obligations.UnsoundFramesDiscarded : Prop :=
  ∀ (s : State) (p : Port) (bytes : List Byte) (byStart : Bool), s.powered = true →
    let x := s.port p
    let held := x.rx.getD { bytes := [], overlong := false }
    let all := held.bytes ++ bytes
    let next : LinePort := { x with rx := if byStart then some { bytes := [], overlong := false } else none }
    let at' : Nat → Nat := fun i => (all.getD i 0).toNat
    let value := ((at' 10 * 256 + at' 11) * 256 + at' 12) * 256 + at' 13
    let unsound := held.overlong = true ∨ all.length < 18 ∨ 282 < all.length ∨ all.length ≠ 18 + u16 (all.getD 14 0) (all.getD 15 0)
      ∨ crcBytes (all.take (all.length - 2)) ≠ all.drop (all.length - 2)
    let outOfRange := 31 < at' 0 ∨ (at' 1 % 4 ≠ 1 ∧ at' 1 % 4 ≠ 2) ∨ 32 < at' 4 ∨ at' 5 < 1 ∨ 4 < at' 5
      ∨ (at' 5 = 2 ∧ (value < 1 ∨ 32 < value))
    let counted : Nat → Prop := fun code =>
      exec (.lineFrameClosed p bytes byStart) s = .next ({ s with events := s.events.bump code }.setPort p next)
    (x.pilot ≠ .mated → exec (.lineFrameClosed p bytes byStart) s = .next s)
    ∧ (x.pilot = .mated → takeClass 9 s.delivered = none → 1 < s.events.counters.length →
        (unsound → counted 0) ∧ (¬unsound → outOfRange → counted 0) ∧ (¬unsound → ¬outOfRange → 40 ≤ at' 2 → counted 1))
    ∧ (∀ f : Frame, x.pilot = .mated → x.rx = none → takeClass 9 s.delivered = none → 1 < s.events.counters.length →
        f.wellFormed = true → f.hop = 40 →
        exec (.lineFrameClosed p f.encode byStart) s = .next ({ s with events := s.events.bump 1 }.setPort p next))

/-- A broadcast of a fixed class 1 to 11 is delivered and then relayed (R12, R17, R20; log 30; its whole bytes come with the command that
closes it: log 38). Delivered: classes 1 to 8 wait for their block; a MGMT_REQUEST and a MGMT_RESPONSE are discarded (R20, R172); a NOTICE
becomes one NOTICE message (bytes as they came: log 34), is lost at code 15 where the transmit queue is full, and is discarded with a
payload other than 4 bytes (R180, R181). Relayed to the opposite port with one hop more, in the urgent queue for classes 1 to 6 and the
normal queue for 7 to 11; an idle transmitter takes it at once. Where the opposite end is not MATED no copy is made and nothing is
counted. Into a full queue the copy is dropped, at code 3 for the urgent queue of 8 and code 2 for the normal queue of 16, and
FRAMES_DROPPED is set: nothing more where it was set or is disabled, and otherwise with its NOTICE, the frame of which a member sends by
its lead end, where it may meet the same full queue (R18, R24, R25, R27, R28, R168, R169, 12.9). -/
def Obligations.BroadcastDeliveredAndRelayed : Prop :=
  ∀ (s : State) (p : Port) (f : Frame), s.powered = true → (s.port p).pilot = .mated → (s.port p).rx = none → s.delivered = [] →
    f.wellFormed = true → f.hop ≤ 39 → f.destKind = .broadcast → 1 ≤ f.cls → f.cls ≤ 11 → (s.classEntry f.cls).countCode = none →
    (f.cls = 11 → f.payload.length = 4 → s.link.sending ≠ none ∧ 15 < s.events.counters.length) →
    let q := otherPort p
    let y := s.port q
    let told : State → Message → State := fun w m => { w with link := { w.link with txQ := w.link.txQ ++ [m] } }
    let d : State :=
      if f.cls ≤ 8 then { s with delivered := [{ port := p, endNo := s.portEnd p, frame := f }] }
      else if f.cls = 11 ∧ f.payload.length = 4 then
        if s.link.txQ.length + s.link.reserved < 8 then
          told s { kind := 0x82, payload := idBytes f.srcId ++ byte f.srcPos :: f.payload }
        else { s with events := s.events.bump 15 }
      else s
    let g : Frame := { f with hop := f.hop + 1 }
    let does : State → Prop := fun t => exec (.lineFrameClosed p f.encode false) s = .next t
    let flag := Flag.framesDropped
    let flags := s.notices.flags ||| (1#13 <<< (flag.number - 1))
    let tail : List Byte := be16 flags.toNat ++ [byte s.census.failure.code]
    let m : Message :=
      { kind := 0x82
        payload := idBytes s.nodeId ++ [byte (if s.census.cs = .settled then s.census.position else 0), byte flag.number] ++ tail }
    let notice := s.ownFrame 11 .toward (if s.census.cs = .settled then s.census.epoch else 0) .lead 0 (byte flag.number :: tail)
    let room := d.link.sending ≠ none ∧ d.link.txQ.length + d.link.reserved < 8
    let dropped : Nat → Prop := fun code =>
      let counted : State := { d with events := d.events.bump code }
      let marked : State := { counted with notices := { s.notices with flags := flags } }
      let out := told marked m
      let sends := hasFlag s.notices.flags flag = false ∧ hasFlag s.notices.enable flag = true ∧ room
      (hasFlag s.notices.flags flag = true → does counted)
      ∧ (hasFlag s.notices.flags flag = false → hasFlag s.notices.enable flag = false → does marked)
      ∧ (sends → s.census.lead ≠ .off → does out)
      ∧ (∀ e, sends → s.census.lead = .off → s.census.leadEnd = some e → s.endPort e = p → s.idleEnd p → does (out.begun p notice))
      ∧ (∀ e, sends → s.census.lead = .off → s.census.leadEnd = some e → s.endPort e = q →
          (y.normalQ.length < 16 → does (out.setPort q { y with normalQ := y.normalQ ++ [notice] }))
          ∧ (16 ≤ y.normalQ.length → does { out with events := counted.events.bump 2 }))
      ∧ ∃ t, does t ∧ t.delivered = d.delivered ∧ hasFlag t.notices.flags flag = true ∧ (t.port q).tx = y.tx
          ∧ (t.port q).urgentQ = y.urgentQ ∧ (code = 2 → t.port q = y) ∧ s.sameFrame t ∧ t.census = s.census ∧ t.doors = s.doors
    (y.pilot ≠ .mated → does d)
    ∧ (y.pilot = .mated → y.tx = none → y.urgentQ = [] → y.normalQ = [] → does (d.setPort q { y with tx := some g }))
    ∧ (y.pilot = .mated → y.tx ≠ none → y.urgentQ.length < 8 → f.cls ≤ 6 → does (d.setPort q { y with urgentQ := y.urgentQ ++ [g] }))
    ∧ (y.pilot = .mated → y.tx ≠ none → y.normalQ.length < 16 → 7 ≤ f.cls → does (d.setPort q { y with normalQ := y.normalQ ++ [g] }))
    ∧ (y.pilot = .mated → y.tx ≠ none → 8 ≤ y.urgentQ.length → f.cls ≤ 6 → 3 < s.events.counters.length → dropped 3)
    ∧ (y.pilot = .mated → y.tx ≠ none → 16 ≤ y.normalQ.length → 7 ≤ f.cls → 3 < s.events.counters.length → dropped 2)

/-- A frame of a fixed class by its destination (R18, R20), its whole bytes brought by the command that closes it (log 38). CENSUS_CALL is
delivered whatever its destination, and never relayed. A frame for this node (POSITION of a SETTLED node, NODE_ID, LEAD at CALLING or
HOLDING, a TOPOLOGY_CHANGE for LEAD at BLOCKED too) is delivered and not relayed: handed to its block (a MGMT_REQUEST where its type is a
request), a MGMT_RESPONSE discarded (R20), a MGMT_REQUEST addressed by LEAD too (R172), a NOTICE of 4 bytes put into the transmit queue as
one NOTICE message laid out as 12.9 says, its bytes as they came (log 34), or lost at code 15 where that is full (R180), and one of
another length discarded (R181). A frame for elsewhere is relayed and not delivered, urgent for classes 1 to 6; where the opposite end is
not MATED it is dropped at code 4, with FRAMES_DROPPED set (R25, R27). Coach data that the class entry does not let pass is dropped:
requires-settled at a node that is not SETTLED, a direction not allowed, action DROP, DELIVER of a frame for elsewhere, RELAY of a frame
for this node (R22). -/
def Obligations.LeadAndDataFramesHandled : Prop :=
  ∀ (s : State) (p : Port) (f : Frame), s.powered = true → (s.port p).pilot = .mated → (s.port p).rx = none → s.delivered = [] →
    f.wellFormed = true → f.hop ≤ 39 → (s.classEntry f.cls).countCode = none →
    let q := otherPort p
    let y := s.port q
    let e := s.classEntry f.cls
    let g : Frame := { f with hop := f.hop + 1 }
    let does : State → Prop := fun t => exec (.lineFrameClosed p f.encode false) s = .next t
    let handed : State := { s with delivered := [{ port := p, endNo := s.portEnd p, frame := f }] }
    let here := (f.destKind = .position ∧ s.census.cs = .settled ∧ f.destVal.toNat = s.census.position)
      ∨ (f.destKind = .nodeId ∧ f.destVal = s.nodeId)
      ∨ (f.destKind = .lead ∧ (s.census.lead = .calling ∨ s.census.lead = .holding ∨ (f.cls = 3 ∧ s.census.lead = .blocked)))
    let elsewhere := f.destKind ≠ .broadcast ∧ ¬here ∧ 1 ≤ f.cls ∧ f.cls ≤ 11
    let m : Message := { kind := 0x82, payload := idBytes f.srcId ++ byte f.srcPos :: f.payload }
    (f.cls = 0 → does handed)
    ∧ (1 ≤ f.cls → f.cls ≤ 8 → here → does handed)
    ∧ (∀ (code h l : Byte) (args : List Byte), f.cls = 9 → here → f.destKind ≠ .lead → f.payload = code :: h :: l :: args →
        1 ≤ code.toNat → code.toNat ≤ 22 → does handed)
    ∧ (f.cls = 9 → here → f.destKind = .lead → does s) ∧ (f.cls = 10 → here → does s)
    ∧ (f.cls = 11 → here → f.payload.length ≠ 4 → does s)
    ∧ (f.cls = 11 → here → f.payload.length = 4 → s.link.sending ≠ none → s.link.txQ.length + s.link.reserved < 8 →
        does { s with link := { s.link with txQ := s.link.txQ ++ [m] } })
    ∧ (f.cls = 11 → here → f.payload.length = 4 → 8 ≤ s.link.txQ.length + s.link.reserved → 15 < s.events.counters.length →
        does { s with events := s.events.bump 15 })
    ∧ (elsewhere → s.idleEnd q → does (s.begun q g))
    ∧ (elsewhere → y.pilot = .mated → y.tx ≠ none →
        (f.cls ≤ 6 → y.urgentQ.length < 8 → does (s.setPort q { y with urgentQ := y.urgentQ ++ [g] }))
        ∧ (7 ≤ f.cls → y.normalQ.length < 16 → does (s.setPort q { y with normalQ := y.normalQ ++ [g] })))
    ∧ (elsewhere → y.pilot ≠ .mated → 4 < s.events.counters.length → hasFlag s.notices.flags .framesDropped = true →
        does { s with events := s.events.bump 4 })
    ∧ (elsewhere → y.pilot ≠ .mated →
        ∃ t, does t ∧ hasFlag t.notices.flags .framesDropped = true ∧ t.delivered = []
          ∧ s.sameFrame t ∧ t.census = s.census ∧ t.doors = s.doors ∧ t.line = s.line)
    ∧ (12 ≤ f.cls →
        ((e.needsSettled = true ∧ s.census.cs ≠ .settled) ∨ (e.restrict = .awayOnly ∧ f.dir = .toward)
          ∨ (e.restrict = .towardOnly ∧ f.dir = .away) ∨ e.action = .drop
          ∨ (e.action = .deliver ∧ f.destKind ≠ .broadcast ∧ ¬here) ∨ (e.action = .relay ∧ here)) →
        does s)

/-- Coach data received, its whole frame brought by the command that closes it (log 38), with a class entry that lets it pass: no count
code, SETTLED where required, and a direction restriction that allows the frame's direction. For this node (POSITION of a SETTLED node,
NODE_ID, LEAD at CALLING or HOLDING) it becomes, by BOTH or DELIVER, one COACH_DATA message, or counts code 15 where its payload exceeds
64 bytes or the transmit queue is full; RELAY drops it. For elsewhere it is relayed by BOTH or RELAY, and dropped by DELIVER; where the
opposite end is not MATED it is dropped at code 4 with FRAMES_DROPPED set. A BROADCAST is delivered and relayed, or either, by the entry's
action (delivery first: log 30), and its copy is not made where the opposite end is not MATED. A copy has one hop more and enters the
queue of the entry's urgency, or is dropped at code 3 or 2 where that is full. A frame that the entry drops counts its count code all the
same (R18, R19, R21 to R25, R27, R28, R182, 12.6). -/
def Obligations.CoachDataReceived : Prop :=
  ∀ (s : State) (p : Port) (f : Frame), s.powered = true → (s.port p).pilot = .mated → (s.port p).rx = none →
    takeClass 9 s.delivered = none → f.wellFormed = true → f.hop ≤ 39 → 12 ≤ f.cls →
    let e := s.classEntry f.cls
    let q := otherPort p
    let y := s.port q
    let g : Frame := { f with hop := f.hop + 1 }
    let m : Message := { kind := 0x83, payload := byte f.cls :: idBytes f.srcId ++ [byte f.srcPos, byte f.epoch, byte f.dir.code] ++ f.payload }
    let got : State := { s with link := { s.link with txQ := s.link.txQ ++ [m] } }
    let lost : State := { s with events := s.events.bump 15 }
    let here := (f.destKind = .position ∧ s.census.cs = .settled ∧ f.destVal.toNat = s.census.position)
      ∨ (f.destKind = .nodeId ∧ f.destVal = s.nodeId)
      ∨ (f.destKind = .lead ∧ (s.census.lead = .calling ∨ s.census.lead = .holding))
    let elsewhere := f.destKind ≠ .broadcast ∧ ¬here
    let allowed := e.restrict = .any ∨ (e.restrict = .awayOnly ∧ f.dir = .away) ∨ (e.restrict = .towardOnly ∧ f.dir = .toward)
    let passes := e.countCode = none ∧ (e.needsSettled = true → s.census.cs = .settled) ∧ allowed
    let room := f.payload.length ≤ 64 ∧ s.link.sending ≠ none ∧ s.link.txQ.length + s.link.reserved < 8
    let noRoom := 15 < s.events.counters.length ∧ (64 < f.payload.length ∨ 8 ≤ s.link.txQ.length + s.link.reserved)
    let does : State → Prop := fun t => exec (.lineFrameClosed p f.encode false) s = .next t
    let quiet := hasFlag s.notices.flags .framesDropped = true ∧ 4 < s.events.counters.length
    let copied : State → Prop := fun w =>
      (s.idleEnd q → does (w.begun q g))
      ∧ (y.pilot = .mated → y.tx ≠ none →
          (e.urgent = true → y.urgentQ.length < 8 → does (w.setPort q { y with urgentQ := y.urgentQ ++ [g] }))
          ∧ (e.urgent = false → y.normalQ.length < 16 → does (w.setPort q { y with normalQ := y.normalQ ++ [g] }))
          ∧ (quiet → e.urgent = true → 8 ≤ y.urgentQ.length → does { w with events := w.events.bump 3 })
          ∧ (quiet → e.urgent = false → 16 ≤ y.normalQ.length → does { w with events := w.events.bump 2 }))
    let delivered : (State → Prop) → Prop := fun goes => (room → goes got) ∧ (noRoom → goes lost)
    (passes → here → (e.action = .both ∨ e.action = .deliver) → delivered does)
    ∧ (passes → elsewhere → (e.action = .both ∨ e.action = .relay) →
        copied s ∧ (y.pilot ≠ .mated → quiet → does { s with events := s.events.bump 4 })
        ∧ (y.pilot ≠ .mated → ∃ t, does t ∧ hasFlag t.notices.flags .framesDropped = true ∧ t.delivered = s.delivered
            ∧ s.sameFrame t ∧ t.census = s.census ∧ t.doors = s.doors ∧ t.line = s.line))
    ∧ (passes → ((here ∧ e.action = .relay) ∨ (elsewhere ∧ e.action = .deliver)) → does s)
    ∧ (passes → f.destKind = .broadcast →
        (e.action = .both → delivered copied ∧ (y.pilot ≠ .mated → delivered does)) ∧ (e.action = .deliver → delivered does)
        ∧ (e.action = .relay → copied s ∧ (y.pilot ≠ .mated → does s)))
    ∧ (∀ code, e.countCode = some code → 16 ≤ code → (code < s.events.counters.length ∨ hasFlag s.notices.flags .counterException = true) →
        (e.action = .drop ∨ (e.needsSettled = true ∧ s.census.cs ≠ .settled) ∨ ¬allowed) → does { s with events := s.events.bump code })

/-- A COACH_DATA_SEND of the node's own coach, taken as soon as it is oldest (log 21). It is discarded at code 15 where it is too short or
names a class, kind or position out of range; makes no frame where the entry requires SETTLED of a node that is not, has action DROP or
bars the direction, or where this node alone is its destination; and otherwise leaves with hop count 0 and the entry's urgency, TOWARD by
the lead end for LEAD or a lower position, AWAY by the away end for a higher one, and by both ends for BROADCAST, end 1 first (log 20)
(R26, R27a). -/
def Obligations.CoachDataSent : Prop :=
  ∀ (s : State) (payload : List Byte), s.powered = true → s.link.asm = none → s.link.rx = [] → payload.length ≤ 72 →
    let does : State → Prop := fun t => exec (.coachLinkMessageComplete ({ kind := 5, payload := payload } : Message).encode) s = .next t
    (15 < s.events.counters.length → payload.length < 6 → does { s with events := s.events.bump 15 })
    ∧ (∀ (cls kind v3 v2 v1 v0 : Byte) (data : List Byte), payload = cls :: kind :: v3 :: v2 :: v1 :: v0 :: data →
      let value := u32 v3 v2 v1 v0
      let e := s.classEntry cls.toNat
      let bad := cls.toNat < 12 ∨ 31 < cls.toNat ∨ kind.toNat < 1 ∨ 4 < kind.toNat
        ∨ (kind.toNat = 2 ∧ (value.toNat < 1 ∨ 32 < value.toNat))
      let leadEnd : Option EndNo := if s.census.lead = .off then s.census.leadEnd else some s.mgmt.working.coach.cabEnd
      let frame : Dir → DestKind → BitVec 32 → Frame := fun dir k v =>
        { cls := cls.toNat, urgent := e.urgent, dir := dir, hop := 0, epoch := if s.census.cs = .settled then s.census.epoch else 0
          srcPos := if s.census.cs = .settled then s.census.position else 0, destKind := k, destVal := v, srcId := s.nodeId
          payload := data }
      let may := ¬bad ∧ (e.needsSettled = true → s.census.cs = .settled) ∧ e.action ≠ .drop
      (15 < s.events.counters.length → bad → does { s with events := s.events.bump 15 })
      ∧ (¬bad → ((e.needsSettled = true ∧ s.census.cs ≠ .settled) ∨ e.action = .drop ∨ (kind.toNat = 3 ∧ value = s.nodeId)
          ∨ (kind.toNat = 2 ∧ s.census.cs = .settled ∧ value.toNat = s.census.position)
          ∨ (kind.toNat = 4 ∧ (s.census.lead = .calling ∨ s.census.lead = .holding))) → does s)
      ∧ (∀ en, may → leadEnd = some en → s.census.cs = .settled → e.restrict ≠ .awayOnly → s.idleEnd (s.endPort en) →
          (kind.toNat = 4 → s.census.lead = .off → does (s.begun (s.endPort en) (frame .toward .lead 0)))
          ∧ (kind.toNat = 2 → value.toNat < s.census.position → does (s.begun (s.endPort en) (frame .toward .position value))))
      ∧ (∀ en, may → leadEnd = some en → s.census.cs = .settled → e.restrict ≠ .towardOnly →
          let away : EndNo := match en with
            | .one => .two
            | .two => .one
          s.idleEnd (s.endPort away) → kind.toNat = 2 → s.census.position < value.toNat →
          does (s.begun (s.endPort away) (frame .away .position value)))
      ∧ (∀ en, may → leadEnd = some en → s.census.cs = .settled → e.restrict = .awayOnly → kind.toNat = 2 →
          value.toNat < s.census.position → does s)
      ∧ (may → kind.toNat = 1 → e.restrict = .any → s.idleEnd (s.endPort .one) → s.idleEnd (s.endPort .two) →
          does ((s.begun (s.endPort .one) (frame (if leadEnd = some .two then .away else .toward) .broadcast 0)).begun (s.endPort .two)
            (frame (if leadEnd = some .two then .toward else .away) .broadcast 0))))

/-- A transmission completes and the transmitter takes the head of the urgent queue, or else of the normal queue, or goes IDLE (R14, R28);
an idle one completes nothing, which is the model's choice (log 3). -/
def Obligations.TransmitterTakesNext : Prop :=
  ∀ (s : State) (p : Port), s.powered = true →
    let x := s.port p
    (x.tx = none → exec (.lineTxComplete p) s = .next s)
    ∧ (x.pilot = .mated → x.tx ≠ none →
        (∀ f q, x.urgentQ = f :: q → exec (.lineTxComplete p) s = .next (s.setPort p { x with tx := some f, urgentQ := q }))
        ∧ (∀ f q, x.urgentQ = [] → x.normalQ = f :: q →
            exec (.lineTxComplete p) s = .next (s.setPort p { x with tx := some f, normalQ := q }))
        ∧ (x.urgentQ = [] → x.normalQ = [] → exec (.lineTxComplete p) s = .next (s.setPort p { x with tx := none })))

/-! ## Census -/

/-- A CENSUS_CALL that is not refused: SURVEY, with position, orientation, lead end, tag and survey hold recorded. One refused, for a lead
of its own, a survey for another lead, a full list or its own node ID, leaves the census record as it was (R43 to R45; log 11). -/
def Obligations.CensusCallRecorded : Prop :=
  ∀ (s : State) (d : Delivery) (rest : List Delivery) (c : CallIn), s.holds 0 d rest → readCall d.frame.payload = some c →
    (s.census.lead = .off → (s.census.cs ≠ .survey ∨ s.census.hold = none ∨ ∀ u, s.census.tag = some u → u.lead = c.tag.lead) →
      c.entries.length < 32 → (∀ e ∈ c.entries, e.id ≠ s.nodeId) →
      ∃ t, exec .censusCallTaken s = .next t
        ∧ t.census = { s.census with cs := .survey, position := c.entries.length + 1
                                     orient := match d.endNo with
                                       | .one => .normal
                                       | .two => .reversed
                                     leadEnd := some d.endNo, tag := some c.tag, hold := some 3000 }
        ∧ s.sameFrame t ∧ t.delivered = rest ∧ t.alloc = s.alloc ∧ t.sense = s.sense ∧ t.summary = s.summary
        ∧ (s.census.cs ≠ .settled → t.doors = s.doors ∧ t.line = s.line ∧ t.heater = s.heater)
        ∧ (s.census.cs = .settled → t.line.sup = .none ∧ t.line.timer = none ∧ t.line.flag = false))
    ∧ ((s.census.lead ≠ .off
        ∨ (s.census.cs = .survey ∧ s.census.hold ≠ none ∧ ∃ u, s.census.tag = some u ∧ u.lead ≠ c.tag.lead)
        ∨ 32 ≤ c.entries.length ∨ ∃ e ∈ c.entries, e.id = s.nodeId) →
      ∃ t, exec .censusCallTaken s = .next t ∧ t.census = s.census ∧ s.sameFrame t ∧ t.delivered = rest ∧ t.alloc = s.alloc
        ∧ t.sense = s.sense ∧ t.summary = s.summary ∧ t.doors = s.doors ∧ t.line = s.line ∧ t.heater = s.heater)

/-- A CENSUS_RETURN, its list sound when count and length agree at 1 to 32 entries, no ID stands twice and the first entry is the lead's
own. One that is current, OK and sound: the next epoch, the table installed, SETTLED and HOLDING, supervision LIVE, beacon sending on, one
summary record and one demand record for each record of the table, and the pending tag left as it is (log 25). One that is current with a
failure status blocks the census with its reason. One that is not current, or OK and not sound, changes nothing (R38 to R42, R54, R66,
R105, R123). -/
def Obligations.ReturnInstallsOrBlocks : Prop :=
  ∀ (s : State) (d : Delivery) (rest : List Delivery) (r : ReturnIn), s.holds 1 d rest → readReturn d.frame.payload = some r →
    let sound := s.listSound d.frame.payload r.entries 0
    (s.census.lead = .calling → s.census.tag = some r.tag → r.status = 0 → sound →
      let epoch := if s.census.lastEpoch = 0 ∨ s.census.lastEpoch = 255 then 1 else s.census.lastEpoch + 1
      ∃ t, exec .censusReturnTaken s = .next t
        ∧ t.census = { s.census with cs := .settled, lead := .holding, table := some (recordsFrom 1 r.entries), epoch := epoch
                                     lastEpoch := epoch, timer := none, position := 1, leadEnd := some s.mgmt.working.coach.cabEnd }
        ∧ t.line.sup = .live ∧ t.line.timer = none ∧ t.line.flag = s.line.zsp ∧ t.line.permit = s.line.zsp ∧ t.line.beaconOn = true
        ∧ t.summary.recs = (recordsFrom 1 r.entries).map createdRecord ∧ t.summary.proven = (t.summary.recs.all SummaryRecord.proves)
        ∧ t.alloc.recs = demandRecords (recordsFrom 1 r.entries) ∧ t.alloc.last = none ∧ t.alloc.budget = s.alloc.budget
        ∧ s.sameFrame t ∧ t.delivered = rest ∧ t.sense = s.sense)
    ∧ ((s.census.lead ≠ .calling ∨ s.census.tag ≠ some r.tag ∨ (r.status = 0 ∧ ¬sound)) →
      exec .censusReturnTaken s = .next { s with delivered := rest })
    ∧ (s.census.lead = .calling → s.census.tag = some r.tag → ∀ why,
        (r.status, why) ∈ [(1, Failure.tooLong), (2, Failure.duplicateId), (3, Failure.twoLeads)] →
        ∃ t, exec .censusReturnTaken s = .next t ∧ t.census.lead = .blocked ∧ t.census.failure = why ∧ t.census.timer = none
          ∧ t.census.tag = none ∧ t.census.cs = (if s.census.table.isSome then .stale else .detached)
          ∧ t.census.table = s.census.table ∧ t.census.epoch = s.census.epoch ∧ t.census.position = s.census.position
          ∧ hasFlag t.notices.flags .censusFailed = true ∧ s.sameFrame t ∧ t.delivered = rest ∧ t.sense = s.sense)

/-- A CONSIST_ANNOUNCE at a node in SURVEY without the lead role is installed when it passes every test of R48 (the pending tag, an epoch
in 1..255, count and length that agree at 1 to 32 entries, no ID twice, the node's own entry at its recorded position), and otherwise
takes it to STALE or DETACHED with a topology change seen; elsewhere it is ignored (R48 to R50, R66). When the report of a stale beacon is
armed is log 25. -/
def Obligations.AnnounceInstallsOrMismatches : Prop :=
  ∀ (s : State) (d : Delivery) (rest : List Delivery) (a : AnnounceIn), s.holds 2 d rest → readAnnounce d.frame.payload = some a →
    ((s.census.cs ≠ .survey ∨ s.census.lead ≠ .off) → exec .consistAnnounceTaken s = .next { s with delivered := rest })
    ∧ (s.census.cs = .survey → s.census.lead = .off → s.announceSound d.frame.payload a →
        ∃ t, exec .consistAnnounceTaken s = .next t
          ∧ t.census = { s.census with cs := .settled, table := some (recordsFrom 1 a.entries), epoch := a.epoch, lastEpoch := a.epoch
                                       hold := none, tag := none, staleArmed := true }
          ∧ t.line.sup = .none ∧ t.line.timer = some 350 ∧ t.line.permit = s.line.zsp
          ∧ s.sameFrame t ∧ t.delivered = rest ∧ t.sense = s.sense ∧ t.alloc = s.alloc)
    ∧ (s.census.cs = .survey → s.census.lead = .off → ¬s.announceSound d.frame.payload a →
        ∃ t, exec .consistAnnounceTaken s = .next t
          ∧ t.census.cs = (if s.census.table.isSome then .stale else .detached) ∧ t.census.hold = none ∧ t.census.tag = none
          ∧ t.census.table = s.census.table ∧ t.census.position = s.census.position ∧ hasFlag t.notices.flags .topology = true
          ∧ s.sameFrame t ∧ t.delivered = rest ∧ t.sense = s.sense ∧ t.alloc = s.alloc ∧ t.doors = s.doors ∧ t.line = s.line)

/-- A TOPOLOGY_CHANGE at a lead with its non-cab end MATED restarts the census at attempt 0, with TOPOLOGY set; at a node without the lead
role nothing happens (R36, R35, R58, R112). -/
def Obligations.TopologyChangeRestartsCensus : Prop :=
  ∀ (s : State) (d : Delivery) (rest : List Delivery), s.holds 3 d rest →
    (s.census.lead = .off → exec .topologyChangeTaken s = .next { s with delivered := rest })
    ∧ (s.census.lead ≠ .off → d.frame.payload.length = 1 → s.mated s.nonCabPort = true →
        ∃ t, exec .topologyChangeTaken s = .next t ∧ t.census.lead = .calling ∧ t.census.cs = .survey
          ∧ t.census.attemptNo = (s.census.attemptNo + 1) % 256 ∧ t.census.attemptCtr = 0 ∧ t.census.timer = some 600
          ∧ t.census.tag = some { lead := s.nodeId, attempt := (s.census.attemptNo + 1) % 256 } ∧ t.census.position = 1
          ∧ t.census.table = s.census.table ∧ hasFlag t.notices.flags .topology = true
          ∧ (s.census.lead = .holding → t.summary.recs = [] ∧ t.summary.proven = false ∧ t.alloc.recs = [] ∧ t.alloc.last = none
              ∧ t.line.beaconOn = false)
          ∧ s.sameFrame t ∧ t.delivered = rest ∧ t.sense = s.sense)

/-- An assertion of CAB: at a drivable node whose cab end is not MATED a census starts at attempt 0; where the cab end is MATED the role
is refused with CAB_COUPLED; at a node not drivable the level alone is taken (R33, R35). -/
def Obligations.CabAssertionJudged : Prop :=
  ∀ (s : State), s.powered = true → s.census.cab = false → s.census.lead = .off →
    let taken := { s.census with cab := true, cabRefused := false }
    (s.mgmt.working.coach.drivable = false → exec .cabAssertionTaken s = .next { s with census := taken })
    ∧ (s.mgmt.working.coach.drivable = true → s.mated s.cabPort = true →
        ∃ t, exec .cabAssertionTaken s = .next t
          ∧ t.census = { s.census with cab := true, cabRefused := true, failure := .cabCoupled }
          ∧ hasFlag t.notices.flags .censusFailed = true ∧ s.sameFrame t ∧ t.doors = s.doors ∧ t.line = s.line
          ∧ t.summary = s.summary ∧ t.heater = s.heater ∧ t.alloc = s.alloc ∧ t.sense = s.sense)
    ∧ (s.mgmt.working.coach.drivable = true → s.mated s.cabPort = false → s.mated s.nonCabPort = true →
        ∃ t, exec .cabAssertionTaken s = .next t ∧ t.census.cab = true ∧ t.census.lead = .calling ∧ t.census.cs = .survey
          ∧ t.census.attemptNo = (s.census.attemptNo + 1) % 256 ∧ t.census.attemptCtr = 0 ∧ t.census.timer = some 600
          ∧ t.census.position = 1 ∧ t.census.leadEnd = some s.mgmt.working.coach.cabEnd
          ∧ s.sameFrame t ∧ t.sense = s.sense ∧ t.alloc = s.alloc)
    ∧ (s.mgmt.working.coach.drivable = true → s.mated s.cabPort = false → s.mated s.nonCabPort = false →
        ∃ t, exec .cabAssertionTaken s = .next t ∧ t.census.lead = .holding ∧ t.census.cs = .settled
          ∧ t.census.table.map List.length = some 1 ∧ t.line.beaconOn = true ∧ s.sameFrame t ∧ t.sense = s.sense)

/-- A release of CAB takes the lead role: from HOLDING the node stays SETTLED, is supervised as a member, and its summary and demand table
are emptied; from CALLING it goes to STALE or DETACHED; from BLOCKED only the role goes (R34, R58, R69). -/
def Obligations.CabReleaseTakesRole : Prop :=
  ∀ (s : State), s.powered = true → s.census.cab = true →
    let c := { s.census with cab := false, cabRefused := false }
    let released := { s.census with cab := false, cabRefused := false, lead := .off, timer := none, tag := none }
    (s.census.lead = .off → exec .cabReleaseTaken s = .next { s with census := c })
    ∧ (s.census.lead = .blocked → exec .cabReleaseTaken s = .next { s with census := released })
    ∧ (s.census.lead = .holding →
        ∃ t, exec .cabReleaseTaken s = .next t ∧ t.census = released ∧ t.summary.recs = [] ∧ t.summary.proven = false
          ∧ t.alloc.recs = [] ∧ t.alloc.last = none ∧ t.line.beaconOn = false ∧ t.line.sup = .none ∧ t.line.timer = some 350
          ∧ t.line.flag = false ∧ t.line.permit = s.line.zsp ∧ s.sameFrame t ∧ t.delivered = s.delivered ∧ t.sense = s.sense)
    ∧ (s.census.lead = .calling → s.census.cs = .survey →
        ∃ t, exec .cabReleaseTaken s = .next t ∧ t.census.lead = .off ∧ t.census.timer = none ∧ t.census.tag = none
          ∧ t.census.cs = (if s.census.table.isSome then .stale else .detached) ∧ t.census.table = s.census.table
          ∧ s.sameFrame t ∧ t.delivered = s.delivered ∧ t.sense = s.sense ∧ t.doors = s.doors ∧ t.alloc = s.alloc)

/-- The census timer expiring in CALLING starts a retry with a new attempt number, or after the fourth attempt blocks the census with
NO_RETURN (R37, R40); the survey hold expiring takes a member to STALE with its table, or to DETACHED without position and lead end (R47).
When the report of a stale beacon is armed is log 25. -/
def Obligations.CensusTimersExpire : Prop :=
  ∀ (s : State), s.powered = true →
    (s.census.lead = .calling → s.census.timer ≠ none → s.census.attemptCtr ≤ 2 → s.mated s.nonCabPort = true →
      ∃ t, exec .censusTimerExpiry s = .next t ∧ t.census.lead = .calling ∧ t.census.cs = .survey
        ∧ t.census.attemptCtr = s.census.attemptCtr + 1 ∧ t.census.attemptNo = (s.census.attemptNo + 1) % 256
        ∧ t.census.timer = some 600 ∧ t.census.table = s.census.table ∧ s.sameFrame t ∧ t.delivered = s.delivered ∧ t.sense = s.sense)
    ∧ (s.census.lead = .calling → s.census.timer ≠ none → 3 ≤ s.census.attemptCtr →
      ∃ t, exec .censusTimerExpiry s = .next t ∧ t.census.lead = .blocked ∧ t.census.failure = .noReturn ∧ t.census.timer = none
        ∧ t.census.tag = none ∧ t.census.cs = (if s.census.table.isSome then .stale else .detached)
        ∧ hasFlag t.notices.flags .censusFailed = true ∧ s.sameFrame t ∧ t.delivered = s.delivered ∧ t.sense = s.sense)
    ∧ (s.census.cs = .survey → s.census.hold ≠ none → ∀ tb, s.census.table = some tb →
      exec .surveyHoldExpiry s = .next { s with census := { s.census with cs := .stale, hold := none, tag := none, staleArmed := true } })
    ∧ (s.census.cs = .survey → s.census.hold ≠ none → s.census.table = none →
      exec .surveyHoldExpiry s = .next { s with census := { s.census with
        cs := .detached, hold := none, tag := none, staleArmed := true, position := 0, leadEnd := none } })

/-- The frames of the census, each begun at an end that is idle. A call taken goes on by the other end with the node's own entry added, or
comes back as an OK return by the end of arrival where the other end is not MATED; a call refused comes back with status 3, 1 or 2 and no
entries (R26, R43 to R46). A census attempt sends its call by the non-cab end (R35), an accepted return the CONSIST_ANNOUNCE (R42), and a
member's topology change seen TOPOLOGY_CHANGE of its kind, 1 or 2 for an end that enters or leaves MATED, 5 or 7 for a beacon, 6 for an
announce, by the recorded lead end where that is MATED and by each end otherwise (R49, R51 to R53). The header epoch of a return is a free
value (log 9); the ends named by number are those of the taking (log 31). TOPOLOGY_CHANGE of a SETTLED member carries source position 0,
since STALE is taken before the frame is completed (log 7). A CENSUS_CALL is read by the whole entries it holds, whatever its count field
says (log 11). -/
def Obligations.CensusFramesSent : Prop :=
  ∀ (s : State),
    (∀ (d : Delivery) (rest : List Delivery) (c : CallIn), s.holds 0 d rest → readCall d.frame.payload = some c →
      let back := s.endPort d.endNo
      let on := s.endPort (match d.endNo with
        | .one => .two
        | .two => .one)
      let mine := s.censusEntry (match d.endNo with
        | .one => .normal
        | .two => .reversed)
      let list : List Byte := byte (c.entries.length + 1) :: entriesBytes (c.entries ++ [mine])
      let twoLeads := s.census.lead ≠ .off
        ∨ (s.census.cs = .survey ∧ s.census.hold ≠ none ∧ ∃ u, s.census.tag = some u ∧ u.lead ≠ c.tag.lead)
      let own := ∃ e ∈ c.entries, e.id = s.nodeId
      let outside : State := { s with census := { s.census with cs := .survey } }
      let returned : State → List Byte → Prop := fun w rest => c.tag.lead ≠ s.nodeId → s.idleEnd back →
        ∃ t e, exec .censusCallTaken s = .next t ∧ e ≤ 255
          ∧ t.port back = { s.port back with tx := some (w.ownFrame 1 .toward e .nodeId c.tag.lead (c.tag.bytes ++ rest)) }
      (twoLeads → returned s [3, 0]) ∧ (¬twoLeads → 32 ≤ c.entries.length → returned s [1, 0])
      ∧ (¬twoLeads → c.entries.length < 32 → own → returned s [2, 0])
      ∧ (¬twoLeads → c.entries.length < 32 → ¬own → s.mated on = false → returned outside (0 :: list))
      ∧ (¬twoLeads → c.entries.length < 32 → ¬own → s.idleEnd on →
          ∃ t, exec .censusCallTaken s = .next t
            ∧ t.port on = { s.port on with tx := some (outside.ownFrame 0 .away 0 .broadcast 0 (c.tag.bytes ++ list)) }))
    ∧ (s.powered = true → s.census.cab = false → s.census.lead = .off → s.mgmt.working.coach.drivable = true →
        s.mated s.cabPort = false → s.idleEnd s.nonCabPort →
        let tag : Tag := { lead := s.nodeId, attempt := (s.census.attemptNo + 1) % 256 }
        let mine := s.censusEntry (match s.mgmt.working.coach.cabEnd with
          | .one => .normal
          | .two => .reversed)
        let outside : State := { s with census := { s.census with cs := .survey } }
        ∃ t, exec .cabAssertionTaken s = .next t ∧ t.port s.nonCabPort = { s.port s.nonCabPort with
          tx := some (outside.ownFrame 0 .away 0 .broadcast 0 (tag.bytes ++ byte 1 :: entriesBytes [mine])) })
    ∧ (∀ (d : Delivery) (rest : List Delivery) (r : ReturnIn), s.holds 1 d rest → readReturn d.frame.payload = some r →
        s.census.lead = .calling → s.census.tag = some r.tag → r.status = 0 → s.listSound d.frame.payload r.entries 0 → s.idleEnd s.nonCabPort →
        ∃ t, exec .censusReturnTaken s = .next t ∧ t.port s.nonCabPort = { s.port s.nonCabPort with
          tx := some (t.ownFrame 2 .away t.census.epoch .broadcast 0
            (byte t.census.epoch :: (r.tag.bytes ++ byte r.entries.length :: entriesBytes r.entries))) })
    ∧ (s.powered = true → s.census.lead = .off → hasFlag s.notices.flags .topology = true →
        hasFlag s.notices.flags .framesDropped = true → 6 < s.events.counters.length →
        let out : State := { s with census := { s.census with cs := if s.census.cs = .settled then .stale else s.census.cs } }
        let change : Byte → Frame := fun kind =>
          out.ownFrame 3 .toward (if s.census.table.isSome then s.census.epoch else 0) .lead 0 [kind]
        let way : (Port → Bool) → Port → Prop := fun mated x =>
          ∀ e, s.census.leadEnd = some e → mated (s.endPort e) = true → x = s.endPort e
        (∀ (d : Delivery) (rest : List Delivery) (a : AnnounceIn) (x : Port), s.holds 2 d rest →
          readAnnounce d.frame.payload = some a → s.census.cs = .survey → ¬s.announceSound d.frame.payload a → way s.mated x → s.idleEnd x →
          ∃ t, exec .consistAnnounceTaken s = .next t ∧ t.port x = { s.port x with tx := some (change 6) })
        ∧ (∀ (p x : Port) (edges : Nat), (s.port p).pilot = .mating → (s.port p).good = 19 → (s.port p).edges = 0 → 16 ≤ edges →
            edges ≤ 24 → way (fun y => s.mated y || decide (y = p)) x →
            (x ≠ p → s.idleEnd x →
              ∃ t, exec (.pilotWindowClose p edges) s = .next t ∧ t.port x = { s.port x with tx := some (change 1) })
            ∧ (x = p → (s.port p).urgentQ = [] → (s.port p).normalQ = [] →
              ∃ t, exec (.pilotWindowClose p edges) s = .next t
                ∧ t.port p = { s.port p with pilot := .mated, good := 0, rx := none, tx := some (change 1) }))
        ∧ (∀ (p : Port) (edges : Nat), (s.port p).pilot = .mated → (s.port p).bad = 4 → (s.port p).edges = 0 → (edges < 16 ∨ 24 < edges) →
            s.idleEnd (otherPort p) →
            ∃ t, exec (.pilotWindowClose p edges) s = .next t
              ∧ t.port (otherPort p) = { s.port (otherPort p) with tx := some (change 2) })
        ∧ (∀ (d : Delivery) (rest : List Delivery) (b : BeaconIn) (x : Port), s.holds 4 d rest → readBeacon d.frame.payload = some b →
            way s.mated x → s.idleEnd x →
            let sends : Byte → Prop := fun kind =>
              ∃ t, exec .beaconTaken s = .next t ∧ change kind ∈ (t.port x).tx.toList ++ (t.port x).urgentQ
                ∧ (b.idx ∉ [0, 5, 10] → t.port x = { s.port x with tx := some (change kind) })
            (s.census.cs = .settled → d.frame.epoch ≠ s.census.epoch → sends 5)
            ∧ ((s.census.cs = .stale ∨ s.census.cs = .detached) → s.census.staleArmed = true → sends 7)))

/-! ## Clock, supervision and permit -/

/-- The tick advances the index, and the cycle number past index 19, 255 being followed by 0; the slot position is five times the index. A
cycle start is marked once for each cycle number, with the staged slot emptied and every on-sample count 0 (R62, R63, R138). -/
def Obligations.CycleTickAdvancesClock : Prop :=
  ∀ (s : State), s.powered = true → s.line.idx ≤ 19 →
    let idx := (s.line.idx + 1) % 20
    let cyc := if s.line.idx = 19 then (s.line.cyc + 1) % 256 else s.line.cyc
    ∃ t, exec .cycleTick s = .next t ∧ t.line.idx = idx ∧ t.line.cyc = cyc ∧ t.line.tick = 0 ∧ t.heater.slot = 5 * idx
      ∧ (idx = 0 ∧ s.line.lastStart ≠ some cyc →
          t.line.lastStart = some cyc ∧ t.heater.staged = none ∧ (t.sense.onWins.all fun w => decide (w.count = 0)) = true)
      ∧ (¬(idx = 0 ∧ s.line.lastStart ≠ some cyc) → t.line.lastStart = s.line.lastStart)
      ∧ s.sameFrame t ∧ t.census = s.census ∧ t.doors = s.doors ∧ t.delivered = s.delivered ∧ t.freeCount = s.freeCount

/-- The frames of the cycle, each begun at an end that is idle. A lead in HOLDING sends its BEACON by the non-cab end at every tick, at
the entry of index 16 behind the HEAT_GRANT of its computation, which names the grant of every position (log 15); a SETTLED member sends
DOOR_STATE at index 5 and HEAT_DEMAND at index 10 by its lead end, and DOOR_STATE again when a side changes its state; the lead takes both
from itself into record 1 (R26, R64, R99, R100, R106, R109, R120, R121, R133). -/
def Obligations.CyclicFramesSent : Prop :=
  ∀ (s : State), s.powered = true →
    let idx := (s.line.idx + 1) % 20
    let cyc := if s.line.idx = 19 then (s.line.cyc + 1) % 256 else s.line.cyc
    let zsp : Byte := if s.line.zsp then 1 else 0
    let beacon := s.ownFrame 4 .away s.census.epoch .broadcast 0 (byte idx :: byte cyc :: zsp :: idBytes s.nodeId)
    let x := s.port s.nonCabPort
    let w := s.mgmt.working
    (s.census.lead = .holding → s.line.idx ≤ 19 → s.line.beaconOn = true → s.idleEnd s.nonCabPort →
      (idx ≠ 16 → ∃ t, exec .cycleTick s = .next t ∧ t.port s.nonCabPort = { x with tx := some beacon })
      ∧ (idx = 16 → ∃ t a, exec .cycleTick s = .next t ∧ t.alloc.last = some a
          ∧ t.port s.nonCabPort = { x with
              tx := some (s.ownFrame 8 .away s.census.epoch .broadcast 0
                (byte s.census.epoch :: byte ((s.line.cyc + 1) % 256) :: byte a.grants.length :: a.grants.flatMap be16))
              urgentQ := [beacon] }))
    ∧ (s.census.lead = .holding → s.census.cs = .settled → s.line.idx = 4 →
        let report : DoorSide → SideReport := fun y =>
          { st := .reported y.st, cause := y.cause, refusal := y.refusal, openN := y.openN, obstrN := y.obstrN }
        let one := report s.doors.side1
        let two := report s.doors.side2
        ∃ t, exec .cycleTick s = .next t
          ∧ t.summary.recs = s.summary.recs.map (fun r => if r.pos = 1 then
              { r with left := (if r.orient = .normal then one else two), right := (if r.orient = .normal then two else one)
                       permit := some s.line.permit, age := 0 }
              else r)
          ∧ t.summary.proven = t.summary.recs.all SummaryRecord.proves)
    ∧ (s.census.lead = .holding → s.line.idx = 9 →
        ∃ t, exec .cycleTick s = .next t ∧ t.alloc = { s.alloc with recs := s.alloc.recs.map fun r => if r.pos = 1 then
          { r with rating := s.heater.rating, demand := s.heater.demandD, preferred := w.heat.preferred, age := 0 } else r })
    ∧ (∀ e, s.census.lead = .off → s.census.cs = .settled → s.line.beaconOn = false → s.census.leadEnd = some e → s.idleEnd (s.endPort e) →
        let begins : Instr → (State → Frame) → Prop := fun c f =>
          ∃ t, exec c s = .next t ∧ t.port (s.endPort e) = { s.port (s.endPort e) with tx := some (f t) }
        let doorState : State → Frame := fun t => s.ownFrame 6 .toward s.census.epoch .lead 0 t.doorStatePayload
        (s.line.idx = 4 → begins .cycleTick fun _ => doorState s)
        ∧ (s.line.idx = 9 → begins .cycleTick fun _ => s.ownFrame 7 .toward s.census.epoch .lead 0
            ([byte s.census.position, byte s.census.epoch, byte s.line.cyc] ++ be16 s.heater.rating
              ++ [byte s.heater.demandD, if w.heat.preferred then 1 else 0]))
        ∧ (∀ sd, (s.doors.side sd).st = .warning → (s.doors.side sd).timer ≠ none → begins (.warningLeadTimeExpiry sd) doorState)
        ∧ (∀ sd, (s.doors.side sd).st = .released → (s.doors.side sd).timer ≠ none → begins (.maximumReleaseTimeExpiry sd) doorState))

/-- The grant applied at a cycle start: outside SETTLED the fallback grant; in SETTLED a staged grant of this cycle on time, one of the
cycle before late, and otherwise the grant held over at the first two misses and the fallback grant after them. From it come the duty in
permille of R and the on-slot count of each group: 0 unless it is ENABLED after the tests of this cycle start, and otherwise floor((duty +
5) / 10), at most 25 while its current channel is not supervised (R139 to R142, R156). -/
def Obligations.CycleStartAppliesGrant : Prop :=
  ∀ (s : State), s.powered = true → s.line.idx = 19 → s.line.lastStart ≠ some ((s.line.cyc + 1) % 256) →
    let c := (s.line.cyc + 1) % 256
    let before := if c = 0 then 255 else c - 1
    let watched : Nat → Prop := fun k =>
      (s.sense.mode = .scanCont ∧ k ≤ s.sense.stop) ∨ (s.sense.mode = .singleCont ∧ k = s.sense.selected)
    ∃ t, exec .cycleTick s = .next t
      ∧ (let fallback := min (t.heater.rating * s.heater.demandD / 100) s.mgmt.working.heat.fallbackCap
         let miss : Nat × GrantSource × Nat :=
           if s.heater.missed ≤ 1 then (s.heater.applied, .held, s.heater.missed + 1) else (fallback, .fallback, 3)
         (t.heater.applied, t.heater.source, t.heater.missed) =
           if s.census.cs = .settled then
             match s.heater.staged with
             | some g => if g.cyc = c then (g.grant, .onTime, 0) else if g.cyc = before then (g.grant, .late, 0) else miss
             | none => miss
           else (fallback, .fallback, 3))
      ∧ t.heater.duty = (if t.heater.rating = 0 then 0 else min 1000 (t.heater.applied * 1000 / t.heater.rating))
      ∧ t.heater.groups.length = s.heater.groups.length
      ∧ (∀ k g, t.heater.groups[k]? = some g →
          (g.st = .enabled → watched k → g.n = (t.heater.duty + 5) / 10)
          ∧ (g.st = .enabled → ¬watched k → g.n = min ((t.heater.duty + 5) / 10) 25) ∧ (g.st ≠ .enabled → g.n = 0))
      ∧ t.heater.demandD = s.heater.demandD ∧ t.heater.demandT = s.heater.demandT

/-- The current tests of a cycle start. An ENABLED group with 4 or more on-samples in the ended cycle and an average is tested:
overcurrent is a current above floor(G × 5 / 4) or a saturated sample, and adds a strike, the third taking the group to FAILED with its
output off, no on-slots, code 11 and GROUP_FAILED; open circuit is a current below floor(G / 4) and sets the flag, with code 12 and
GROUP_OPEN where it was clear; a test that passes clears strikes or flag. Other groups are not tested. R is formed afresh (R118, R138,
R146, R147, R151, R155). The ages of the door summary rise by 1 to a most of 3, and PROVEN is judged (R110, R111). -/
def Obligations.CycleStartTestsGroups : Prop :=
  ∀ (s : State), s.powered = true → s.line.idx = 19 → s.line.lastStart ≠ some ((s.line.cyc + 1) % 256) →
    let g := s.heater.group
    let w := s.sense.onWin
    let limit := s.mgmt.working.heat.rating
    let current : Nat → Nat := fun k =>
      (Int.tdiv ((w k).window.map BitVec.toInt).sum (w k).window.length).toNat / (2 * (s.sense.channel k).gain)
    let tested : Nat → Prop := fun k => (g k).st = .enabled ∧ 4 ≤ (w k).count ∧ (w k).window ≠ []
    let above : Nat → Prop := fun k => limit k * 5 / 4 < current k ∨ ∃ c ∈ (w k).window, c.toInt = -2048 ∨ c.toInt = 2047
    let fails : Nat → Prop := fun k => tested k ∧ above k ∧ 2 ≤ (g k).strikes
    let opens : Nat → Prop := fun k => tested k ∧ current k < limit k / 4 ∧ (g k).openFlag = false
    ∃ t, exec .cycleTick s = .next t
      ∧ (∀ k, k < 4 → k < s.heater.groups.length →
          (¬tested k → (t.heater.group k).st = (g k).st ∧ (t.heater.group k).strikes = (g k).strikes
            ∧ (t.heater.group k).openFlag = (g k).openFlag)
          ∧ (tested k → ¬above k → (t.heater.group k).strikes = 0 ∧ (t.heater.group k).st = .enabled)
          ∧ (tested k → above k → (g k).strikes < 2 →
              (t.heater.group k).strikes = (g k).strikes + 1 ∧ (t.heater.group k).st = .enabled)
          ∧ (fails k → (t.heater.group k).st = .failed ∧ (t.heater.group k).strikes = 3 ∧ (t.heater.group k).n = 0
              ∧ (t.heater.group k).output = false ∧ hasFlag t.notices.flags .groupFailed = true)
          ∧ (tested k → ((t.heater.group k).openFlag = true ↔ current k < limit k / 4))
          ∧ (opens k → hasFlag t.notices.flags .groupOpen = true))
      ∧ (11 < s.events.counters.length → (∀ k, k < 4 → ¬fails k) → t.events.counters[11]? = s.events.counters[11]?)
      ∧ (12 < s.events.counters.length → (∀ k, k < 4 → ¬opens k) → t.events.counters[12]? = s.events.counters[12]?)
      ∧ (∀ j, j < 4 → j < s.heater.groups.length →
          (fails j → (∀ k, k < 4 → k ≠ j → ¬fails k) → t.events.counters[11]? = s.events.counters[11]?.map Counter.up)
          ∧ (opens j → (∀ k, k < 4 → k ≠ j → ¬opens k) → t.events.counters[12]? = s.events.counters[12]?.map Counter.up))
      ∧ t.heater.rating = ratingOf s.mgmt.working.heat t.heater.groups
      ∧ t.summary.recs = (s.summary.recs.map fun r => { r with age := min 3 (r.age + 1) })
      ∧ (s.summary.recs ≠ [] → t.summary.proven = (decide (s.census.lead = .holding) && t.summary.recs.all SummaryRecord.proves))

/-- A 20 ms boundary: the next slot position of the index, and each group's output on exactly while it lies in the group's window of n
slots beginning at slot 25 k (R63, R143); how the tick stands after it is the model's choice (log 28). -/
def Obligations.SlotBoundarySetsOutputs : Prop :=
  ∀ (s : State) (j : Nat), s.powered = true → j < 4 → s.heater.slot = 5 * s.line.idx + j → s.line.tick ≤ 20 * (j + 1) →
    ∃ t, exec .slotBoundary s = .next t ∧ t.heater.slot = 5 * s.line.idx + j + 1 ∧ t.line.tick = 20 * (j + 1)
      ∧ t.line.idx = s.line.idx ∧ t.line.cyc = s.line.cyc
      ∧ (∀ k, k < 4 → k < s.heater.groups.length → t.heater.slot < 100 → (s.heater.group k).n ≤ 100 →
          ((t.heater.group k).output = true ↔ ∃ i, i < (s.heater.group k).n ∧ (25 * k + i) % 100 = t.heater.slot))
      ∧ (∀ k, (t.heater.group k).n = (s.heater.group k).n ∧ (t.heater.group k).st = (s.heater.group k).st)
      ∧ s.sameFrame t ∧ t.census = s.census ∧ t.doors = s.doors ∧ t.alloc = s.alloc ∧ t.events = s.events ∧ t.link = s.link
      ∧ t.portA = s.portA ∧ t.portB = s.portB

/-- A BEACON taken: disregarded at a lead in HOLDING; elsewhere with an index to 19 the clock takes its pair and restarts the tick; at a
SETTLED member with the installed epoch the supervision timer restarts, the state is LIVE and its flag is stored; another epoch takes it
to STALE with TOPOLOGY set; and a STALE or DETACHED node sees a topology change at the first beacon after its report was armed (R65, R67,
R70, R52). When the report of a stale beacon is armed is log 25. -/
def Obligations.BeaconRealignsAndSupervises : Prop :=
  ∀ (s : State) (d : Delivery) (rest : List Delivery) (b : BeaconIn), s.holds 4 d rest → readBeacon d.frame.payload = some b →
    (s.census.lead = .holding → exec .beaconTaken s = .next { s with delivered := rest })
    ∧ (s.census.lead ≠ .holding → b.idx ≤ 19 →
        ∃ t, exec .beaconTaken s = .next t ∧ t.line.idx = b.idx ∧ t.line.cyc = b.cyc ∧ t.line.tick = 0
          ∧ t.heater.slot = 5 * b.idx ∧ s.sameFrame t ∧ t.delivered = rest)
    ∧ (s.census.lead = .off → b.idx ≤ 19 → s.census.cs = .settled → d.frame.epoch = s.census.epoch →
        ∃ t, exec .beaconTaken s = .next t ∧ t.line.sup = .live ∧ t.line.timer = some 350 ∧ t.line.flag = b.flag
          ∧ t.line.permit = (s.line.zsp && b.flag) ∧ t.census = s.census)
    ∧ (s.census.lead = .off → b.idx ≤ 19 → s.census.cs = .settled → d.frame.epoch ≠ s.census.epoch →
        ∃ t, exec .beaconTaken s = .next t ∧ t.census = { s.census with cs := .stale, staleArmed := true }
          ∧ t.line.sup = .none ∧ t.line.timer = none ∧ t.line.flag = false ∧ t.line.permit = s.line.zsp
          ∧ hasFlag t.notices.flags .topology = true)
    ∧ (s.census.lead = .off → (s.census.cs = .stale ∨ s.census.cs = .detached) →
        ∃ t, exec .beaconTaken s = .next t ∧ t.census = { s.census with staleArmed := false } ∧ t.delivered = rest ∧ s.sameFrame t
          ∧ (s.census.staleArmed = true → hasFlag t.notices.flags .topology = true))
    ∧ (s.census.lead = .off → s.census.cs = .survey → ∃ t, exec .beaconTaken s = .next t ∧ t.census = s.census ∧ t.delivered = rest)

/-- A filtered change of ZSP forms the permit afresh; where the permit falls, a side in RELEASED or WARNING goes to CLOSING with
ZERO_SPEED_LOST, which replaces any cause of a warning: release output off, warning output on and steady, close timeout started; or to
LOCKED at once with its loop made, output and timer off. A side in LOCKED, CLOSING, FAULT or ABSENT is unchanged (R61, R70, R82, R84, R89,
R92, R93). A level that stands changes nothing, the model's choice (log 3). -/
def Obligations.ZeroSpeedLossClosesDoors : Prop :=
  ∀ (s : State) (level : Bool), s.powered = true →
    (s.line.zsp = level → exec (.zspChangeTaken level) s = .next s)
    ∧ (s.line.zsp ≠ level →
        ∃ t, exec (.zspChangeTaken level) s = .next t ∧ t.line.zsp = level
          ∧ t.line.flag = (if s.census.lead = .holding then level else s.line.flag) ∧ t.line.sup = s.line.sup
          ∧ t.line.permit = (if s.line.sup = .live then level && t.line.flag else level)
          ∧ t.line.timer = s.line.timer ∧ t.line.idx = s.line.idx ∧ t.line.cyc = s.line.cyc ∧ t.census = s.census
          ∧ ((s.line.permit = false ∨ t.line.permit = true) → t.doors = s.doors)
          ∧ (s.line.permit = true → t.line.permit = false → ∀ sd,
              let x := s.doors.side sd
              let y := t.doors.side sd
              ((x.st = .released ∨ x.st = .warning) →
                y.rel = false ∧ y.cause = .zeroSpeedLost ∧ y.loop = x.loop
                ∧ (x.loop = true → y.st = .locked ∧ y.warn = false ∧ y.timer = none)
                ∧ (x.loop = false → y.st = .closing ∧ y.warn = true
                    ∧ ∃ w, y.timer = some w ∧ w.length = s.mgmt.working.door.closeTimeout * 1000 ∧ w.left = w.length))
              ∧ (x.st ≠ .released → x.st ≠ .warning → y = x))
          ∧ s.sameFrame t ∧ t.delivered = s.delivered ∧ t.alloc = s.alloc ∧ t.sense = s.sense)

/-- The supervision timer of a SETTLED node expires: LOST with the timer stopped, LINE_LOST set, a RELEASED side to WARNING with
LINE_LOST, its release output still on while ZSP stands, and the permit from ZSP alone (R68, R70, R94); a stopped timer does not expire
(log 3). -/
def Obligations.SupervisionExpiryLosesLine : Prop :=
  ∀ (s : State), s.powered = true →
    (s.line.timer = none → exec .supervisionTimerExpiry s = .next s)
    ∧ (s.line.timer ≠ none → s.census.cs = .settled →
        ∃ t, exec .supervisionTimerExpiry s = .next t ∧ t.line.sup = .lost ∧ t.line.timer = none ∧ t.line.flag = s.line.flag
          ∧ t.line.zsp = s.line.zsp ∧ t.line.permit = s.line.zsp ∧ hasFlag t.notices.flags .lineLost = true
          ∧ (s.line.zsp = true → ∀ sd, (s.doors.side sd).st = .released →
              (t.doors.side sd).st = .warning ∧ (t.doors.side sd).cause = .lineLost ∧ (t.doors.side sd).rel = true
              ∧ (t.doors.side sd).warn = true
              ∧ (t.doors.side sd).timer = some { length := s.mgmt.working.door.warnLead * 100
                                                 left := s.mgmt.working.door.warnLead * 100 })
          ∧ t.census = s.census ∧ s.sameFrame t ∧ t.delivered = s.delivered ∧ t.alloc = s.alloc ∧ t.sense = s.sense)

/-! ## Doors -/

/-- A door order of good form and in range for this node: the first of the four checks it fails is recorded as refusal and DOOR_REFUSED is
set, and nothing else of the doors changes; a RELEASE that passes them takes a side that has doors to RELEASED; a CLOSE that passes them
takes a RELEASED side to WARNING with CLOSE_ORDER. An accepted RELEASE on a RELEASED side, or CLOSE on a side in another state, changes
order record and refusal alone. An order of bad form, or not for this position, is ignored (R74, R78 to R80, R85, R86). -/
def Obligations.DoorOrderObeyedOrRefused : Prop :=
  ∀ (s : State) (d : Delivery) (rest : List Delivery) (o : OrderIn), s.holds 5 d rest → readDoorOrder d.frame.payload = some o →
    ((o.side = none ∨ o.action = none ∨ o.first < 1 ∨ 32 < o.first ∨ o.last < 1 ∨ 32 < o.last ∨ o.last < o.first
        ∨ s.census.position < o.first ∨ o.last < s.census.position) →
      exec .doorOrderTaken s = .next { s with delivered := rest })
    ∧ (∀ (side : TrainSide) (a : DoorAction) (f l e : Nat),
        o = { side := some side, action := some a, first := f, last := l, epoch := e } →
        1 ≤ f → f ≤ s.census.position → s.census.position ≤ l → l ≤ 32 →
        let sd : Side := if (s.census.orient = .normal) = (side = .left) then .one else .two
        let x := s.doors.side sd
        let count := match sd with
          | .one => s.mgmt.working.door.count1
          | .two => s.mgmt.working.door.count2
        let why : DoorRefusal :=
          if s.census.cs ≠ .settled then .notSettled else if e ≠ s.census.epoch then .epochMismatch else if count = 0 then .noDoors
          else if a = .release ∧ s.line.permit = false then .noZeroSpeed else .none
        (why ≠ .none →
          ∃ t, exec .doorOrderTaken s = .next t ∧ t.doors.side sd = { x with refusal := why }
            ∧ (∀ sd', sd' ≠ sd → t.doors.side sd' = s.doors.side sd') ∧ t.doors.derate = s.doors.derate
            ∧ hasFlag t.notices.flags .doorRefused = true ∧ s.sameFrame t ∧ t.delivered = rest ∧ t.census = s.census ∧ t.line = s.line
            ∧ t.heater = s.heater ∧ t.summary = s.summary)
        ∧ (why = .none → a = .release → x.st ≠ .absent → x.st ≠ .released →
          ∃ t, exec .doorOrderTaken s = .next t ∧ (t.doors.side sd).st = .released ∧ (t.doors.side sd).rel = true
            ∧ (t.doors.side sd).warn = false ∧ (t.doors.side sd).cause = .none ∧ (t.doors.side sd).refusal = .none
            ∧ (t.doors.side sd).order = some (.release, e)
            ∧ (∀ sd', sd' ≠ sd → t.doors.side sd' = s.doors.side sd') ∧ t.doors.derate = true
            ∧ s.sameFrame t ∧ t.delivered = rest ∧ t.census = s.census ∧ t.line = s.line)
        ∧ (why = .none → a = .close → x.st = .released →
          ∃ t, exec .doorOrderTaken s = .next t ∧ (t.doors.side sd).st = .warning ∧ (t.doors.side sd).rel = true
            ∧ (t.doors.side sd).warn = true ∧ (t.doors.side sd).cause = .closeOrder ∧ (t.doors.side sd).order = some (.close, e)
            ∧ (∀ sd', sd' ≠ sd → t.doors.side sd' = s.doors.side sd')
            ∧ s.sameFrame t ∧ t.delivered = rest ∧ t.census = s.census ∧ t.line = s.line)
        ∧ (why = .none → ((a = .release ∧ x.st = .released) ∨ (a = .close ∧ x.st ≠ .released)) →
          exec .doorOrderTaken s =
            .next (({ s with delivered := rest } : State).changeSide sd fun y => { y with refusal := .none, order := some (a, e) })))

/-- A filtered loop change: made takes CLOSING and FAULT to LOCKED; broken takes LOCKED to FAULT with DOOR_FORCED set; in the other states
only the level changes, and a level that stands is no event (R83, R87, R89, R90; log 3). The warning phase changes in WARNING: a PULSED
warning output follows it, a STEADY one stays on; in other states nothing changes (R82). That the phase stands outside WARNING is log
25. -/
def Obligations.LoopAndPhaseMoveSide : Prop :=
  ∀ (s : State) (sd : Side) (made : Bool), s.powered = true →
    let x := s.doors.side sd
    (x.loop = made → exec (.loopChangeTaken sd made) s = .next s)
    ∧ (x.loop = false → made = true → (x.st = .closing ∨ x.st = .fault) →
        ∃ t, exec (.loopChangeTaken sd made) s = .next t
          ∧ t.doors.side sd = { x with st := .locked, loop := true, timer := none, rel := false, warn := false }
          ∧ (∀ sd', sd' ≠ sd → t.doors.side sd' = s.doors.side sd') ∧ s.sameFrame t ∧ t.census = s.census ∧ t.line = s.line)
    ∧ (x.loop = true → made = false → x.st = .locked →
        ∃ t, exec (.loopChangeTaken sd made) s = .next t
          ∧ t.doors.side sd = { x with st := .fault, loop := false, timer := none, rel := false, warn := false }
          ∧ hasFlag t.notices.flags .doorForced = true
          ∧ (∀ sd', sd' ≠ sd → t.doors.side sd' = s.doors.side sd') ∧ s.sameFrame t ∧ t.census = s.census ∧ t.line = s.line)
    ∧ (x.loop ≠ made → (x.st = .absent ∨ x.st = .released ∨ x.st = .warning) →
        exec (.loopChangeTaken sd made) s = .next (s.changeSide sd fun y => { y with loop := made }))
    ∧ (x.st ≠ .warning → exec (.warningPhaseChange sd) s = .next s)
    ∧ (x.st = .warning → x.mode = .pulsed →
        exec (.warningPhaseChange sd) s = .next (s.changeSide sd fun y => { y with phase := !x.phase, warn := !x.phase }))
    ∧ (x.st = .warning → x.mode = .steady →
        exec (.warningPhaseChange sd) s = .next (s.changeSide sd fun y => { y with phase := !x.phase, warn := true }))

/-- The three side timers expire: the maximum release time of a RELEASED side takes it to WARNING with RELEASE_TIMEOUT; the warning lead
time takes a WARNING side to CLOSING, or to LOCKED with its loop made; the close timeout takes a CLOSING side to FAULT with DOOR_FAULT
set. A side without a running timer, or in another state, is left (R84, R88, R89, R96; log 3). -/
def Obligations.SideTimersExpire : Prop :=
  ∀ (s : State) (sd : Side), s.powered = true →
    let x := s.doors.side sd
    ((x.st ≠ .released ∨ x.timer = none) → exec (.maximumReleaseTimeExpiry sd) s = .next s)
    ∧ ((x.st ≠ .warning ∨ x.timer = none) → exec (.warningLeadTimeExpiry sd) s = .next s)
    ∧ ((x.st ≠ .closing ∨ x.timer = none) → exec (.closeTimeoutExpiry sd) s = .next s)
    ∧ (x.st = .released → x.timer ≠ none →
        ∃ t, exec (.maximumReleaseTimeExpiry sd) s = .next t ∧ (t.doors.side sd).st = .warning
          ∧ (t.doors.side sd).cause = .releaseTimeout ∧ (t.doors.side sd).rel = true ∧ (t.doors.side sd).warn = true
          ∧ (t.doors.side sd).mode = s.mgmt.working.door.warnMode
          ∧ (∀ sd', sd' ≠ sd → t.doors.side sd' = s.doors.side sd') ∧ s.sameFrame t ∧ t.census = s.census ∧ t.line = s.line)
    ∧ (x.st = .warning → x.timer ≠ none →
        ∃ t, exec (.warningLeadTimeExpiry sd) s = .next t ∧ (t.doors.side sd).rel = false
          ∧ (t.doors.side sd).cause = x.cause
          ∧ (x.loop = true → (t.doors.side sd).st = .locked ∧ (t.doors.side sd).warn = false ∧ (t.doors.side sd).timer = none)
          ∧ (x.loop = false → (t.doors.side sd).st = .closing ∧ (t.doors.side sd).warn = true
              ∧ (t.doors.side sd).timer = some { length := s.mgmt.working.door.closeTimeout * 1000
                                                 left := s.mgmt.working.door.closeTimeout * 1000 })
          ∧ (∀ sd', sd' ≠ sd → t.doors.side sd' = s.doors.side sd') ∧ s.sameFrame t ∧ t.census = s.census ∧ t.line = s.line)
    ∧ (x.st = .closing → x.timer ≠ none →
        ∃ t, exec (.closeTimeoutExpiry sd) s = .next t
          ∧ t.doors.side sd = { x with st := .fault, timer := none, rel := false, warn := false }
          ∧ hasFlag t.notices.flags .doorFault = true
          ∧ (∀ sd', sd' ≠ sd → t.doors.side sd' = s.doors.side sd') ∧ s.sameFrame t ∧ t.census = s.census ∧ t.line = s.line)

/-- A good DOOR_REPORT sets each side's counts from its first statuses, as many as the side has doors: OPEN or OBSTRUCTED, and OBSTRUCTED;
one with more than 8 statuses on a side or a status of no value is discarded at code 15 (R97, R98, 12.9). A DOOR_STATE frame at a lead in
HOLDING whose epoch, position and source agree with its record replaces the record's two groups by the coach sides as its orientation maps
them, sets its permit and its age to 0, and judges PROVEN; one that fails a test, or carries a value out of its range, changes nothing
(R106 to R108, R111). -/
def Obligations.DoorReportsTaken : Prop :=
  ∀ (s : State),
    (∀ (l1 l2 : List Byte), s.brings 2 (byte l1.length :: (l1 ++ byte l2.length :: l2)) → l1.length ≤ 255 → l2.length ≤ 255 →
      let d := s.mgmt.working.door
      let opened : List Byte → Nat := fun l => (l.filter fun b => b = 1 ∨ b = 2).length
      let obstructed : List Byte → Nat := fun l => (l.filter fun b => b = 2).length
      ((l1.length ≤ 8 ∧ l2.length ≤ 8 ∧ ∀ b ∈ l1 ++ l2, b.toNat ≤ 3) →
        exec .doorReport s = .next { s.emptied with doors := { s.doors with
          side1 := { s.doors.side1 with openN := opened (l1.take d.count1), obstrN := obstructed (l1.take d.count1) }
          side2 := { s.doors.side2 with openN := opened (l2.take d.count2), obstrN := obstructed (l2.take d.count2) } } })
      ∧ ((8 < l1.length ∨ 8 < l2.length ∨ ∃ b ∈ l1 ++ l2, 3 < b.toNat) → 15 < s.events.counters.length →
        exec .doorReport s = .next { s.emptied with events := s.events.bump 15 }))
    ∧ (∀ (d : Delivery) (rest : List Delivery) (r : DoorStateIn), s.holds 6 d rest → readDoorState d.frame.payload = some r →
      (r.side1 = none ∨ r.side2 = none) → exec .doorStateTaken s = .next { s with delivered := rest })
    ∧ (∀ (d : Delivery) (rest : List Delivery) (r : DoorStateIn) (a b : SideReport), s.holds 6 d rest →
      readDoorState d.frame.payload = some r → r.side1 = some a → r.side2 = some b →
      let passes := s.census.lead = .holding ∧ r.epoch = s.census.epoch ∧ 2 ≤ r.pos ∧ r.pos ≤ s.summary.recs.length
        ∧ ∃ x ∈ s.summary.recs, x.pos = r.pos ∧ x.id = d.frame.srcId
      (¬passes → exec .doorStateTaken s = .next { s with delivered := rest })
      ∧ (passes →
          let recs := s.summary.recs.map fun x =>
            if x.pos = r.pos then
              { x with left := (if x.orient = .normal then a else b), right := (if x.orient = .normal then b else a)
                       permit := some r.permit, age := 0 }
            else x
          exec .doorStateTaken s = .next { s with delivered := rest, summary := { recs := recs, proven := recs.all SummaryRecord.proves } }))

/-- A DOOR_COMMAND of good form: answered REFUSED with NOT_LEAD where the lead census state is OFF and with NOT_SETTLED in CALLING and
BLOCKED; in HOLDING first and last are clamped into 1 to N, and BAD_RANGE answers first above last. An accepted command is answered OK
with epoch, first, last and the outcome at the own side; the lead's own side obeys a RELEASE or a CLOSE that names position 1, or refuses
it; and one DOOR_ORDER frame begins at the idle non-cab end (R75 to R77, R26, R79, R80, R85, R86; the reasons NONE: log 26). One of bad
form is answered BAD_REQUEST. The transmit queue is empty, and behind a busy transmitter, as a premise. -/
def Obligations.DoorCommandAnswered : Prop :=
  ∀ (s : State), s.link.txQ = [] → s.link.reserved = 0 → s.link.sending ≠ none →
    let reply : List Byte → Message := fun p => { kind := 0x81, payload := 0x20 :: 0 :: 0 :: p }
    let replied : List Byte → State := fun p => { s with link := { s.link with rx := [], txQ := [reply p] } }
    (∀ p, s.brings 3 p → (p.length ≠ 4 ∨ 1 < (p.getD 0 0).toNat ∨ 1 < (p.getD 1 0).toNat) →
      exec .doorCommand s = .next (replied [4, 0x80, 0]))
    ∧ (∀ (sd a f l : Byte), s.brings 3 [sd, a, f, l] → sd.toNat ≤ 1 → a.toNat ≤ 1 →
      let n := s.tableSize
      let first := max 1 (min n f.toNat)
      let last := max 1 (min n l.toNat)
      let ok : Byte → Message := fun outcome => reply [0, 0x80, 0, byte s.census.epoch, byte first, byte last, outcome]
      let q := s.nonCabPort
      let order := s.ownFrame 5 .away s.census.epoch .broadcast 0 [sd, a, byte first, byte last, byte s.census.epoch]
      (s.census.lead = .off → exec .doorCommand s = .next (replied [2, 0x80, 1]))
      ∧ ((s.census.lead = .calling ∨ s.census.lead = .blocked) → exec .doorCommand s = .next (replied [2, 0x80, 2]))
      ∧ (s.census.lead = .holding → last < first → exec .doorCommand s = .next (replied [5, 0x80, 0]))
      ∧ (s.census.lead = .holding → first ≤ last → 1 < first → last ≤ 32 → s.census.position = 1 →
          (s.mated q = false → exec .doorCommand s = .next { s with link := { s.link with rx := [], txQ := [ok 5] } })
          ∧ (s.idleEnd q → exec .doorCommand s =
              .next (({ s with link := { s.link with rx := [], txQ := [ok 5] } } : State).begun q order)))
      ∧ (s.census.lead = .holding → first = 1 → last ≤ 32 → s.census.position = 1 → s.census.cs = .settled →
          (s.mated q = false ∨ s.idleEnd q) →
          let mine : Side := if (s.census.orient = .normal) = (sd = 0) then .one else .two
          let x := s.doors.side mine
          (match mine with
            | .one => s.mgmt.working.door.count1
            | .two => s.mgmt.working.door.count2) ≠ 0 →
          let answers : Byte → State → Prop := fun outcome t =>
            exec .doorCommand s = .next t ∧ (∀ sd', sd' ≠ mine → t.doors.side sd' = s.doors.side sd')
            ∧ t.link = { s.link with rx := [], txQ := [ok outcome] }
            ∧ t.port q = (if s.mated q then { s.port q with tx := some order } else s.port q)
            ∧ s.sameFrame t ∧ t.census = s.census ∧ t.line = s.line
          (a = 0 → s.line.permit = true → x.st ≠ .absent → x.st ≠ .released →
            ∃ t, answers 0 t ∧ (t.doors.side mine).st = .released ∧ (t.doors.side mine).rel = true
              ∧ (t.doors.side mine).refusal = .none ∧ (t.doors.side mine).order = some (.release, s.census.epoch))
          ∧ (a = 1 → x.st = .released →
            ∃ t, answers 0 t ∧ (t.doors.side mine).st = .warning ∧ (t.doors.side mine).cause = .closeOrder
              ∧ (t.doors.side mine).refusal = .none ∧ (t.doors.side mine).order = some (.close, s.census.epoch))
          ∧ (a = 0 → s.line.permit = false → hasFlag s.notices.flags .doorRefused = true → 8 < s.events.counters.length →
            ∃ t, answers 4 t ∧ t.doors.side mine = { x with refusal := .noZeroSpeed })))

/-! ## Demand, grants and the allocation -/

/-- A DEMAND sets T, at most 100, restarts the demand hold at 30 s and forms D; one of another length than 1 is discarded at code 15; the
hold expiring takes T and D to 0 (R115 to R117, R181). A HEAT_DEMAND at a lead in HOLDING that passes the tests of R124 replaces R, D and
P of its record with age 0; a HEAT_GRANT that passes the tests of R137 is staged; one that fails is discarded with nothing changed. Each
payload is read as R182 says, a HEAT_GRANT with bytes beyond its N grants by its count and its whole grants (log 37). -/
def Obligations.DemandsAndGrantsTaken : Prop :=
  ∀ (s : State),
    (∀ b : Byte, s.brings 1 [b] →
      let x := min 100 b.toNat
      exec .demand s = .next { s.emptied with heater := { s.heater with
        demandT := x, hold := some 30000, demandD := if s.doors.derate then min x s.mgmt.working.heat.derate else x } })
    ∧ (∀ p, s.brings 1 p → p.length ≠ 1 → 15 < s.events.counters.length →
        exec .demand s = .next { s.emptied with events := s.events.bump 15 })
    ∧ (s.powered = true → s.heater.hold ≠ none → exec .demandHoldExpiry s =
        .next { s with heater := { s.heater with demandT := 0, hold := none, demandD := 0 } })
    ∧ (∀ (d : Delivery) (rest : List Delivery) (r : DemandIn), s.holds 7 d rest → readHeatDemand d.frame.payload = some r →
        let passes := s.census.lead = .holding ∧ r.epoch = s.census.epoch ∧ 2 ≤ r.pos ∧ r.pos ≤ s.alloc.recs.length
          ∧ (∃ x ∈ s.alloc.recs, x.pos = r.pos ∧ x.id = d.frame.srcId) ∧ r.rating ≤ 2047 ∧ r.demand ≤ 100 ∧ r.priority ≤ 1
        (¬passes → exec .heatDemandTaken s = .next { s with delivered := rest })
        ∧ (passes → exec .heatDemandTaken s = .next { s with delivered := rest, alloc := { s.alloc with
            recs := s.alloc.recs.map fun x =>
              if x.pos = r.pos then { x with rating := r.rating, demand := r.demand, preferred := decide (r.priority = 1), age := 0 }
              else x } }))
    ∧ (∀ (d : Delivery) (rest : List Delivery) (g : GrantIn), s.holds 8 d rest → readHeatGrant d.frame.payload = some g →
        let tests := s.census.cs = .settled ∧ s.census.lead ≠ .holding ∧ g.epoch = s.census.epoch ∧ 1 ≤ g.n ∧ g.n ≤ 32
          ∧ 1 ≤ s.census.position ∧ s.census.position ≤ g.n
        ((¬tests ∨ ∀ x, g.grants[s.census.position - 1]? = some x → 2047 < x) →
          exec .heatGrantTaken s = .next { s with delivered := rest })
        ∧ (∀ x, tests → g.grants[s.census.position - 1]? = some x → x ≤ 2047 → exec .heatGrantTaken s =
            .next { s with delivered := rest
                           heater := { s.heater with staged := some { grant := x, epoch := g.epoch, cyc := g.cyc } } }))

/-- The computation of a lead in HOLDING at the entry of index 16: ages raised; the voltage judged from SI4, SKIPPED_UNSUPERVISED where
the running mode does not supervise it, SKIPPED_STALE where its window is empty or its newest code 500 ms old, UNDERVOLTAGE where the
average, as volts, lies below the threshold, else NORMAL (R127, R151, R155, R156); the effective budget halved under UNDERVOLTAGE alone;
requests of floor(R × D / 100) with the demand of an age of 4 taken as 0, and grants, none above its request, whose sum is the smaller of
the request total and the effective budget. With the budget short one class is scaled: each of its positions has its share or one hu more,
the hu of the remainder going to the first positions below their request, and the other class has its requests or nothing. The lead's own
grant is staged for the next cycle (R127 to R133). -/
def Obligations.ComputationGrantsWithinBudget : Prop :=
  ∀ (s : State), s.powered = true → s.line.idx = 15 → s.census.lead = .holding →
    let recs := s.alloc.recs.map fun r => { r with age := min 4 (r.age + 1) }
    let si4 := s.sense.channel 4
    let watched := (s.sense.mode = .scanCont ∧ 4 ≤ s.sense.stop) ∨ (s.sense.mode = .singleCont ∧ 4 = s.sense.selected)
    let fresh := si4.window ≠ [] ∧ (si4.age.any fun ms => decide (ms < 500)) = true
    let volts := (Int.tdiv (si4.window.map BitVec.toInt).sum si4.window.length).toNat * 2 / si4.gain
    let eff := if watched ∧ fresh ∧ volts < s.mgmt.working.heat.undervolt then s.alloc.budget / 2 else s.alloc.budget
    let request : DemandRecord → Nat := fun r => if r.age ≤ 3 then r.rating * r.demand / 100 else 0
    let total := (recs.map request).sum
    let total1 := ((recs.filter fun r => r.preferred).map request).sum
    let total0 := ((recs.filter fun r => !r.preferred).map request).sum
    let scaled := decide (eff < total1)
    let budget := if scaled then eff else eff - total1
    let share : DemandRecord → Nat := fun r => request r * budget / (if scaled then total1 else total0)
    ∃ t a, exec .cycleTick s = .next t
      ∧ t.alloc = { recs := recs, budget := s.alloc.budget, judged := a.judged, effective := eff, last := some a }
      ∧ (¬watched → a.judged = .skippedUnsupervised) ∧ (watched → ¬fresh → a.judged = .skippedStale)
      ∧ (watched → fresh → volts < s.mgmt.working.heat.undervolt → a.judged = .undervoltage)
      ∧ (watched → fresh → s.mgmt.working.heat.undervolt ≤ volts → a.judged = .normal)
      ∧ a.cyc = (s.line.cyc + 1) % 256 ∧ a.effective = eff
      ∧ a.total = total ∧ a.total1 = total1 ∧ a.total0 = total0 ∧ total = total1 + total0
      ∧ a.grants.length = recs.length ∧ a.grants.sum = min total eff
      ∧ (∀ i r, recs[i]? = some r → a.grants.getD i 0 ≤ request r)
      ∧ (total ≤ eff → a.case = .unscaled ∧ a.remainder = 0 ∧ a.grants = recs.map request)
      ∧ (eff < total →
          a.case = (if scaled then .class1Scaled else .class0Scaled)
          ∧ a.remainder = budget - ((recs.filter fun r => r.preferred == scaled).map share).sum
          ∧ (∀ i r, recs[i]? = some r → r.preferred ≠ scaled → a.grants.getD i 0 = if scaled then 0 else request r)
          ∧ (∀ i r, recs[i]? = some r → r.preferred = scaled → a.grants.getD i 0 = share r ∨ a.grants.getD i 0 = share r + 1)
          ∧ (∀ i j x y, i < j → recs[i]? = some x → recs[j]? = some y → x.preferred = scaled → y.preferred = scaled →
              share x < request x → a.grants.getD j 0 = share y + 1 → a.grants.getD i 0 = share x + 1))
      ∧ t.heater.staged = some { grant := a.grants.getD 0 0, epoch := s.census.epoch, cyc := a.cyc }

/-! ## The sense converter -/

/-- A tick of the running pacer starts the conversion its mode gives, and the completion of a conversion puts its code into the channel's
window of 8, into the on-window of a group whose output level is on, and into the capture FIFO of 32 while capture is on; the stop channel
ends a SCAN; the entry that brings the FIFO to 16 sets CAPTURE_HALF (R152 to R154, R160). A stopped pacer does not tick, and with nothing
in flight nothing completes (log 3). -/
def Obligations.ConversionsStartAndComplete : Prop :=
  ∀ (s : State), s.powered = true →
    let c := s.sense
    ((c.pacer = none ∨ c.conv ≠ none) → exec .pacerTick s = .next s)
    ∧ (c.pacer ≠ none → c.conv = none →
        (c.mode = .singleCont →
          exec .pacerTick s = .next { s with sense := { c with conv := some c.selected, pacer := some c.interval } })
        ∧ (c.mode = .scanCont → exec .pacerTick s = .next { s with sense := { c with
            conv := some c.rotation, rotation := (if c.rotation < c.stop then c.rotation + 1 else 0), pacer := some c.interval } })
        ∧ (c.mode = .scan → ∀ ch, c.scan = some ch → exec .pacerTick s = .next { s with sense := { c with
            conv := some ch, scan := some (if ch < c.stop then ch + 1 else ch), pacer := some c.interval } }))
    ∧ (∀ code, c.conv = none → exec (.conversionComplete code) s = .next s)
    ∧ (∀ code ch, c.conv = some ch → ch < c.channels.length →
        let push : List Code → List Code := fun w => if w.length < 8 then w ++ [code] else w.drop 1 ++ [code]
        let room := c.fifo.length < 32
        ∃ t, exec (.conversionComplete code) s = .next t ∧ t.sense.conv = none
          ∧ t.sense.channel ch = { gain := (c.channel ch).gain, window := push (c.channel ch).window, age := some 0 }
          ∧ (∀ k, k ≠ ch → t.sense.channel k = c.channel k)
          ∧ (∀ k, t.sense.onWin k =
              if k = ch ∧ (c.onWin k).level = true then
                { window := push (c.onWin k).window, count := min 255 ((c.onWin k).count + 1), level := true }
              else c.onWin k)
          ∧ t.sense.fifo = (if c.capture = true ∧ room then
              c.fifo ++ [{ channel := ch, code := code, idx := s.line.idx, slot := 5 * s.line.idx + min 4 (s.line.tick / 20) }]
              else c.fifo)
          ∧ t.sense.lost = (if c.capture = true ∧ ¬room then min 65535 (c.lost + 1) else c.lost)
          ∧ (t.sense.scan, t.sense.pacer) = (if c.mode = .scan ∧ ch = c.stop then (none, none) else (c.scan, c.pacer))
          ∧ (c.capture = true → c.fifo.length = 15 → hasFlag t.notices.flags .captureHalf = true)
          ∧ (¬(c.capture = true ∧ c.fifo.length = 15) → t = { s with sense := t.sense })
          ∧ s.sameFrame t ∧ t.census = s.census ∧ t.line = s.line ∧ t.doors = s.doors ∧ t.heater = s.heater ∧ t.alloc = s.alloc)

/-! ## The coach link -/

/-- A message in assembly cut off by a bad byte or by silence is discarded at code 15, with the receiver between messages (that one with a
length byte above 72 is still in assembly then is log 27); bytes that hold no start byte are ignored there. A transmission completes and
the oldest message begins, its place going to a part still to enter (R179, R180); an idle transmitter completes nothing, the model's
choice (log 3). -/
def Obligations.MessagesCutAndSent : Prop :=
  ∀ (s : State), s.powered = true →
    (∀ bytes : List Byte, s.link.asm = none → (∀ b ∈ bytes, b ≠ 0xA5) →
      exec (.coachLinkByteTimeout bytes) s = .next s ∧ exec (.coachLinkByteError bytes) s = .next s
        ∧ exec (.coachLinkMessageComplete bytes) s = .next s)
    ∧ (∀ (n : Byte) (more : List Byte), s.link.asm = none → more.length < n.toNat + 3 → 15 < s.events.counters.length →
        exec (.coachLinkByteTimeout (0xA5 :: n :: more)) s = .next { s with events := s.events.bump 15 }
          ∧ exec (.coachLinkByteError (0xA5 :: n :: more)) s = .next { s with events := s.events.bump 15 })
    ∧ (s.link.asm ≠ none → 15 < s.events.counters.length →
        exec (.coachLinkByteTimeout []) s = .next { s with link := { s.link with asm := none }, events := s.events.bump 15 }
          ∧ exec (.coachLinkByteError []) s = .next { s with link := { s.link with asm := none }, events := s.events.bump 15 })
    ∧ (s.link.sending = none → exec .coachLinkTxComplete s = .next s)
    ∧ (s.link.sending ≠ none → s.link.rx = [] →
        (s.link.txQ = [] → exec .coachLinkTxComplete s = .next { s with link := { s.link with sending := none } })
        ∧ (∀ m q, s.link.txQ = m :: q → s.link.backlog = [] →
            exec .coachLinkTxComplete s = .next { s with link := { s.link with sending := some m, txQ := q } })
        ∧ (∀ m q b bs, s.link.txQ = m :: q → s.link.backlog = b :: bs →
            exec .coachLinkTxComplete s =
              .next { s with link := { s.link with sending := some m, txQ := q ++ [b], backlog := bs } }))

/-! ## Notices -/

/-- A condition that arises. Where its flag is set nothing follows; where it is clear and disabled the flag is set; where it is clear and
enabled the flag is set and one NOTICE is sent: a message with node ID, position, flag, flag set and failure reason, lost at code 15 where
the transmit queue is full, and at a node without the lead role a frame of class 11 by the recorded lead end or, without one, by each end
that is MATED (R168, R169; message before frame: log 8). A capture FIFO that takes its sixteenth entry raises its condition so (R160). -/
def Obligations.NoticeSentOnceWhenSet : Prop :=
  ∀ (s : State) (f : Flag),
    let set : State := { s with notices := { s.notices with flags := s.notices.flags ||| (1#13 <<< (f.number - 1)) } }
    let pos := if s.census.cs = .settled then s.census.position else 0
    let tail : List Byte := be16 set.notices.flags.toNat ++ [byte s.census.failure.code]
    let m : Message := { kind := 0x82, payload := idBytes s.nodeId ++ [byte pos, byte f.number] ++ tail }
    let frame := s.ownFrame 11 .toward (if s.census.cs = .settled then s.census.epoch else 0) .lead 0 (byte f.number :: tail)
    let told : State := { set with link := { s.link with txQ := s.link.txQ ++ [m] } }
    let sends := hasFlag s.notices.flags f = false ∧ hasFlag s.notices.enable f = true
    let room := s.link.sending ≠ none ∧ s.link.txQ.length + s.link.reserved < 8
    (hasFlag s.notices.flags f = true → s.raise f = s)
    ∧ (hasFlag s.notices.flags f = false → hasFlag s.notices.enable f = false → s.raise f = set)
    ∧ (sends → room → s.census.lead ≠ .off → s.raise f = told)
    ∧ (sends → 8 ≤ s.link.txQ.length + s.link.reserved → 15 < s.events.counters.length → s.census.lead ≠ .off →
        s.raise f = { set with events := s.events.bump 15 })
    ∧ (∀ e, sends → room → s.census.lead = .off → s.census.leadEnd = some e → s.idleEnd (s.endPort e) →
        s.raise f = told.begun (s.endPort e) frame)
    ∧ (sends → room → s.census.lead = .off → s.census.leadEnd = none →
        (s.idleEnd .a → s.idleEnd .b → s.raise f = (told.begun .a frame).begun .b frame)
        ∧ (s.mated .a = false → s.mated .b = false → s.raise f = told))
    ∧ (∀ code ch, s.powered = true → s.sense.conv = some ch → s.sense.capture = true → s.sense.fifo.length = 15 → f = .captureHalf →
        ∃ t, exec (.conversionComplete code) s = .next t
          ∧ (hasFlag s.notices.flags f = true → t.notices = s.notices ∧ t.link = s.link)
          ∧ (hasFlag s.notices.flags f = false → hasFlag s.notices.enable f = false → t.notices = set.notices ∧ t.link = s.link)
          ∧ (sends → room → s.census.lead ≠ .off → t.notices = set.notices ∧ t.link = told.link))

/-! ## Requests over the coach link -/

/-- IDENTIFY, READ CONSIST, READ DOOR, READ HEATING, READ SENSE and READ NOTICES are answered OK with the items that their rules list, in
the order listed, and change nothing but the two buffers of the coach link; with arguments each is answered BAD_REQUEST (R55, R71, R102,
R113, R134, R149, R151, R155, R156, R162, R171, R173, R183, 12.3). READ DOOR adds the summary at a lead alone, READ HEATING the judgement,
B_eff, the demand table and the last allocation in HOLDING, an empty table and no allocation in CALLING and BLOCKED (log 19). That the
items of a record stand in the order of its table, that an average and its quantity share one presence byte, and which sets carry no
number are the model's (log 17, log 35), and that BAD_REQUEST carries no results is log 18. -/
def Obligations.ReadsAnsweredAndChangeNothing : Prop :=
  ∀ (s : State) (h l : Byte),
    let c := s.census
    let bit : Bool → Byte := fun b => if b then 1 else 0
    let record : ConsistRecord → List Byte := fun r =>
      byte r.pos :: (idBytes r.entry.id
        ++ [byte (r.entry.orient.code + 2 * r.entry.drivable.toNat + 4 * r.entry.heating.toNat + 8 * r.entry.preferred.toNat),
            byte (r.entry.doors1 + 16 * r.entry.doors2)] ++ be16 r.entry.rating)
    let consist : List Byte :=
      [byte c.cs.code, byte c.lead.code, byte (if c.table = none then 0 else c.epoch), bit (decide (c.cs ≠ .settled)), byte c.position,
        byte c.orient.code, byte (endCode c.leadEnd), byte (c.table.getD []).length] ++ (c.table.getD []).flatMap record
    let coachSide : DoorSide → Nat → List Byte := fun x count =>
      [byte x.st.code, byte x.cause.code, byte x.refusal.code]
        ++ (match x.order with
            | none => [0]
            | some (action, epoch) => [1, byte action.code, byte epoch])
        ++ [byte count, bit x.loop, bit x.rel, bit x.warn]
        ++ (match x.timer with
            | none => [0]
            | some w => 1 :: be32 w.left)
        ++ [byte x.openN, byte x.obstrN]
    let trainSide : SideReport → List Byte := fun x =>
      [byte x.st.code, byte x.cause.code, byte x.refusal.code, byte x.openN, byte x.obstrN]
    let summary : SummaryRecord → List Byte := fun r =>
      byte r.pos :: idBytes r.id ++ [byte r.orient.code, byte r.countL, byte r.countR] ++ trainSide r.left ++ trainSide r.right
        ++ (match r.permit with
            | none => [0]
            | some p => [1, bit p])
        ++ [byte r.age]
    let door : List Byte :=
      coachSide s.doors.side1 s.mgmt.working.door.count1 ++ coachSide s.doors.side2 s.mgmt.working.door.count2
        ++ [bit s.doors.derate, byte s.line.sup.code, bit s.line.zsp, bit s.line.flag, bit s.line.permit, byte s.line.idx, byte s.line.cyc]
        ++ (if c.lead = .off then []
            else [byte c.lead.code, byte c.epoch, bit s.summary.proven, byte s.summary.recs.length] ++ s.summary.recs.flatMap summary)
    let group : Group × Nat → List Byte := fun x =>
      [byte x.1.st.code] ++ be16 (s.mgmt.working.heat.rating x.2)
        ++ [byte x.1.n, bit x.1.output, byte x.1.strikes, bit x.1.openFlag, byte (s.sense.onWin x.2).count]
    let demand : DemandRecord → List Byte := fun r =>
      byte r.pos :: idBytes r.id ++ be16 r.rating ++ [byte r.demand, bit r.preferred, byte r.age]
    let allocation : Allocation → List Byte := fun a =>
      byte a.cyc :: be16 a.effective ++ [byte a.judged.code] ++ be16 a.total ++ be16 a.total1 ++ be16 a.total0
        ++ [byte a.case.code, byte a.remainder, byte a.grants.length] ++ a.grants.flatMap be16
    let heating : List Byte :=
      (match s.heater.staged with
        | none => [0]
        | some g => 1 :: be16 g.grant ++ [byte g.epoch, byte g.cyc])
        ++ be16 s.heater.applied ++ [byte s.heater.source.code, byte s.heater.missed] ++ be16 s.heater.duty
        ++ be16 s.mgmt.working.heat.fallbackCap ++ [byte s.heater.slot] ++ s.heater.groups.zipIdx.flatMap group
        ++ [byte s.heater.demandT]
        ++ (match s.heater.hold with
            | none => [0]
            | some ms => 1 :: be32 ms)
        ++ [byte s.heater.demandD, bit s.doors.derate, byte s.mgmt.working.heat.derate] ++ be16 s.heater.rating
        ++ [bit s.mgmt.working.heat.preferred] ++ be16 s.alloc.budget
        ++ (if c.lead = .holding then
              byte s.alloc.judged.code :: be16 s.alloc.effective ++ byte s.alloc.recs.length :: s.alloc.recs.flatMap demand
                ++ (match s.alloc.last with
                    | none => [0]
                    | some a => 1 :: allocation a)
            else if c.lead = .off then []
            else [0, 0])
    let mean : List Code → Int := fun w => Int.tdiv (w.map BitVec.toInt).sum w.length
    let channel : Nat → List Byte := fun k =>
      let x := s.sense.channel k
      let watched := (s.sense.mode = .scanCont ∧ k ≤ s.sense.stop) ∨ (s.sense.mode = .singleCont ∧ k = s.sense.selected)
      let fresh := x.window ≠ [] ∧ (x.age.any fun ms => decide (ms < 500)) = true
      let shown : Int :=
        if k = 4 then ((mean x.window).toNat * 2 / x.gain : Nat)
        else if k ≤ 5 then ((mean x.window).toNat / (2 * x.gain) : Nat)
        else mean x.window
      [if watched then 1 else 0, byte x.window.length]
        ++ (match x.window.getLast? with
            | none => [0]
            | some newest => 1 :: codeBytes newest.toInt)
        ++ (if fresh then 1 :: codeBytes (mean x.window) ++ codeBytes shown else [0])
    let onWindow : Nat → List Byte := fun k =>
      let w := s.sense.onWin k
      [byte w.window.length, byte w.count]
        ++ (if w.window = [] then [0] else 1 :: be16 ((mean w.window).toNat / (2 * (s.sense.channel k).gain)))
        ++ [if ∃ x ∈ w.window, x.toInt = -2048 ∨ x.toInt = 2047 then 1 else 0]
    let sense : List Byte :=
      [byte s.sense.mode.code, byte s.sense.stop, byte s.sense.selected, byte s.sense.interval]
        ++ s.sense.channels.map (fun x => byte x.gain) ++ [bit s.sense.scan.isSome]
        ++ (match s.sense.conv with
            | none => [0]
            | some k => [1, byte k])
        ++ [0, 1, 2, 3, 4, 5, 6, 7].flatMap channel ++ [0, 1, 2, 3].flatMap onWindow
        ++ [if s.sense.mode = .scanCont ∧ 4 ≤ s.sense.stop then 0 else 1, bit s.sense.capture, byte s.sense.fifo.length]
        ++ be16 s.sense.lost
    (s.asks 1 h l [] → exec (.identify .coachLink) s = .next (s.answered 1 h l .ok
      (idBytes s.nodeId ++ [byte c.cs.code, byte c.lead.code, byte c.epoch, byte c.position, byte c.orient.code])))
    ∧ (s.asks 2 h l [] → exec (.readConsist .coachLink) s = .next (s.answered 2 h l .ok consist))
    ∧ (s.asks 3 h l [] → exec (.readDoor .coachLink) s = .next (s.answered 3 h l .ok door))
    ∧ (s.asks 4 h l [] → exec (.readHeating .coachLink) s = .next (s.answered 4 h l .ok heating))
    ∧ (s.asks 5 h l [] → exec (.readSense .coachLink) s = .next (s.answered 5 h l .ok sense))
    ∧ (s.asks 8 h l [] → exec (.readNotices .coachLink) s = .next (s.answered 8 h l .ok
        (be16 s.notices.flags.toNat ++ be16 s.notices.enable.toNat ++ [byte c.failure.code])))
    ∧ (∀ (code : Nat) (x : Instr) (args : List Byte),
        (code, x) ∈ [(1, Instr.identify .coachLink), (2, .readConsist .coachLink), (3, .readDoor .coachLink),
          (4, .readHeating .coachLink), (5, .readSense .coachLink), (8, .readNotices .coachLink)] →
        args ≠ [] → s.asks code h l args → exec x s = .next (s.answered code h l .badRequest []))

/-- READ COUNTERS answers array size, exception count and the counters named, or BAD_RANGE; CLEAR COUNTERS sets all to 0; CLEAR NOTICES
clears the flags its mask names, SENSE_DEGRADED being set again at once while its condition stands; SET NOTICE ENABLE sets the mask; a
mask that names a flag beyond the thirteenth is BAD_RANGE (R165, R166, R170, R171). That a BAD_RANGE reply carries no results is log
18. -/
def Obligations.CounterAndNoticeRequests : Prop :=
  ∀ (s : State) (h l a b : Byte),
    let size := s.events.counters.length
    let inRange := 1 ≤ b.toNat ∧ b.toNat ≤ 32 ∧ a.toNat + b.toNat ≤ size
    let mask : BitVec 13 := BitVec.ofNat 13 (a.toNat * 256 + b.toNat)
    (s.asks 7 h l [a, b] → inRange → exec (.readCounters .coachLink) s = .next (s.answered 7 h l .ok
      (byte size :: (be32 s.events.exceptions ++ a :: b :: ((s.events.counters.drop a.toNat).take b.toNat).flatMap fun x =>
        be16 x.recent ++ be16 x.wide))))
    ∧ (s.asks 7 h l [a, b] → ¬inRange → exec (.readCounters .coachLink) s = .next (s.answered 7 h l .badRange []))
    ∧ (s.asks 9 h l [] → exec (.clearCounters .coachLink) s = .next { s.answered 9 h l .ok [] with
        events := { counters := s.events.counters.map fun _ => { recent := 0, wide := 0 }, exceptions := 0 } })
    ∧ (s.asks 10 h l [a, b] → 32 ≤ a.toNat → exec (.clearNotices .coachLink) s = .next (s.answered 10 h l .badRange []))
    ∧ (s.asks 10 h l [a, b] → a.toNat < 32 → (hasFlag mask .senseDegraded = false ∨ s.sense.degraded = false) →
        exec (.clearNotices .coachLink) s = .next { s.answered 10 h l .ok (be16 (s.notices.flags &&& ~~~mask).toNat) with
          notices := { s.notices with flags := s.notices.flags &&& ~~~mask } })
    ∧ (s.asks 10 h l [a, b] → a.toNat < 32 → hasFlag mask .senseDegraded = true → s.sense.degraded = true →
        ∃ t, exec (.clearNotices .coachLink) s = .next t ∧ hasFlag t.notices.flags .senseDegraded = true
          ∧ t.notices.enable = s.notices.enable ∧ t.link.rx = [] ∧ s.sameFrame t ∧ t.sense = s.sense ∧ t.census = s.census
          ∧ t.doors = s.doors ∧ t.heater = s.heater)
    ∧ (s.asks 11 h l [a, b] → 32 ≤ a.toNat → exec (.setNoticeEnable .coachLink) s = .next (s.answered 11 h l .badRange []))
    ∧ (s.asks 11 h l [a, b] → a.toNat < 32 → exec (.setNoticeEnable .coachLink) s =
        .next { s.answered 11 h l .ok (be16 mask.toNat) with notices := { s.notices with enable := mask } })

/-- START CAPTURE empties the FIFO and the lost count where capture was off; STOP CAPTURE ends it and keeps both; READ CAPTURE returns and
removes the oldest 16 entries; SAMPLE starts a conversion, or a SCAN, by mode, and is answered BUSY during one and REFUSED in the
continuous modes (R153, R160, R161). -/
def Obligations.CaptureAndSampleRequests : Prop :=
  ∀ (s : State) (h l : Byte),
    let c := s.sense
    (s.asks 18 h l [] → exec (.startCapture .coachLink) s = .next { s.answered 18 h l .ok [] with
      sense := if c.capture then c else { c with capture := true, fifo := [], lost := 0 } })
    ∧ (s.asks 19 h l [] → exec (.stopCapture .coachLink) s =
        .next { s.answered 19 h l .ok [] with sense := { c with capture := false } })
    ∧ (s.asks 6 h l [] → exec (.readCapture .coachLink) s =
        .next { s.answered 6 h l .ok (byte (min 16 c.fifo.length) :: ((c.fifo.take 16).flatMap fun e =>
            byte e.channel :: (codeBytes e.code.toInt ++ [byte e.idx, byte e.slot])) ++ byte (c.fifo.length - 16) :: be16 c.lost) with
          sense := { c with fifo := c.fifo.drop 16 } })
    ∧ (s.asks 17 h l [] →
        (c.mode = .single → c.conv = none → exec (.sample .coachLink) s =
          .next { s.answered 17 h l .ok [] with sense := { c with conv := some c.selected } })
        ∧ (c.mode = .single → c.conv ≠ none → exec (.sample .coachLink) s = .next (s.answered 17 h l .busy []))
        ∧ (c.mode = .scan → c.scan = none → exec (.sample .coachLink) s = .next { s.answered 17 h l .ok [] with
            sense := { c with scan := some (if 0 < c.stop then 1 else 0), conv := some 0, pacer := some c.interval } })
        ∧ (c.mode = .scan → c.scan ≠ none → exec (.sample .coachLink) s = .next (s.answered 17 h l .busy []))
        ∧ ((c.mode = .singleCont ∨ c.mode = .scanCont) → exec (.sample .coachLink) s = .next (s.answered 17 h l .refused [])))

/-- SET SENSE: one value out of its range is BAD_RANGE and changes nothing; otherwise the settings take force together, the conversion in
flight and a SCAN are abandoned, the pacer starts afresh in the continuous modes, every window is emptied where mode, stop channel or a
gain differs, and a group whose channel loses its supervision is cut to 25 slots (R144, R156, R157). That the BAD_RANGE reply carries no
results is log 18. -/
def Obligations.SetSenseChangesSettings : Prop :=
  ∀ (s : State) (h l m st sel iv : Byte) (gs : List Byte), gs.length = 8 → s.asks 16 h l (m :: st :: sel :: iv :: gs) →
    let c := s.sense
    let good := m.toNat ≤ 3 ∧ st.toNat ≤ 7 ∧ sel.toNat ≤ 7 ∧ 1 ≤ iv.toNat ∧ ∀ g ∈ gs, g = 1 ∨ g = 2 ∨ g = 4 ∨ g = 8
    (¬good → exec (.setSense .coachLink) s = .next (s.answered 16 h l .badRange []))
    ∧ (good → ∃ t, exec (.setSense .coachLink) s = .next t
        ∧ t.sense.mode.code = m.toNat ∧ t.sense.stop = st.toNat ∧ t.sense.selected = sel.toNat ∧ t.sense.interval = iv.toNat
        ∧ t.sense.conv = none ∧ t.sense.scan = none ∧ t.sense.rotation = 0
        ∧ t.sense.pacer = (if t.sense.mode = .singleCont ∨ t.sense.mode = .scanCont then some iv.toNat else none)
        ∧ t.sense.channels.map Channel.gain = gs.map BitVec.toNat
        ∧ (let same := t.sense.mode = c.mode ∧ st.toNat = c.stop ∧ gs.map BitVec.toNat = c.channels.map Channel.gain
           (same → t.sense.channels = c.channels) ∧ (¬same → ∀ x ∈ t.sense.channels, x.window = [] ∧ x.age = none)
           ∧ (¬same → ∀ w ∈ t.sense.onWins, w.window = [] ∧ w.count = 0))
        ∧ (∀ k, (t.heater.group k).n =
            if c.supervised k = true ∧ t.sense.supervised k = false then min (s.heater.group k).n 25 else (s.heater.group k).n)
        ∧ t.sense.fifo = c.fifo ∧ t.sense.capture = c.capture ∧ s.sameFrame t ∧ t.census = s.census ∧ t.doors = s.doors
        ∧ (c.degraded = false → t.sense.degraded = true → hasFlag t.notices.flags .senseDegraded = true)
        ∧ ((c.degraded = true ∨ t.sense.degraded = false) → t.link = (s.answered 16 h l .ok []).link))

/-! ## Configuration requests -/

/-- LOAD TABLE: past the table's last field it is BAD_RANGE; otherwise each field named holds in staging its value as clamped, every other
field of staging and all working tables stand, and the reply carries table, first field, the number of values and the values as staged
(R174, R183 with R21, R103, R119, R136, R158, R163). A pacer interval above 255 is a premise's exception, its stored value being free (log
10); that the BAD_RANGE reply carries no results is log 18. -/
def Obligations.LoadTableClampsIntoStaging : Prop :=
  ∀ (s : State) (h l x f : Byte) (vs : List Nat) (name : TableName), TableName.ofCode x.toNat = some name →
    1 ≤ vs.length → vs.length ≤ 32 → (∀ v ∈ vs, v ≤ 65535) → s.asks 12 h l (x :: f :: vs.flatMap be16) →
    s.mgmt.staging.cls.length = 32 → s.mgmt.staging.sense.gains.length = 8 →
    (name.fields < f.toNat + vs.length → exec (.loadTable .coachLink) s = .next (s.answered 12 h l .badRange []))
    ∧ (f.toNat + vs.length ≤ name.fields → (name = .sense → f.toNat ≤ 3 → ∀ v, vs[3 - f.toNat]? = some v → v ≤ 255) →
        ∃ staged, exec (.loadTable .coachLink) s =
            .next { s.answered 12 h l .ok (x :: f :: byte vs.length :: (staged.getFrom name f.toNat vs.length).flatMap be16) with
              mgmt := { s.mgmt with staging := staged } }
          ∧ (∀ i v, vs[i]? = some v → staged.get name (f.toNat + i) = storedValue name (f.toNat + i) v)
          ∧ (∀ name' n, (name' ≠ name ∨ n < f.toNat ∨ f.toNat + vs.length ≤ n) → staged.get name' n = s.mgmt.staging.get name' n))

/-- APPLY: BUSY while the store is WRITING; REFUSED where a staged door count differs and a side is not LOCKED or ABSENT, or the numbering
differs and a side is RELEASED or WARNING; otherwise staging becomes working, with R, D, budget and array size formed from it and the
running sense settings kept; with staging equal to working nothing changes (R175, R117, R118, R126, R158, R163). A side whose count
becomes 0 is ABSENT, one that gets doors LOCKED or FAULT by its loop (R91); a group whose rating becomes 0 is NOT_FITTED, one that gets a
rating ENABLED (R136). A change of the numbering or the cab end is a topology report: at a node without the lead role TOPOLOGY is set and
SETTLED goes to STALE, and TOPOLOGY_CHANGE of kind 3 or 4 is sent; at a lead the census restarts, or the role is lost with CAB_COUPLED
where the cab end as numbered then is MATED (R15, R34, R36, R51). A drivable mark cleared takes the lead role; one that is set judges an
assertion of CAB that stands and has not been refused (R33, R34; log 24). The reply names the tables in which a field changed. That BUSY
and REFUSED carry no results is log 18, the order of the tables named log 17, the order of the acts log 29, the place of the reply behind
a NOTICE that the APPLY raises log 33, and source position 0 in TOPOLOGY_CHANGE of a SETTLED node, which goes to STALE first, log 7. -/
def Obligations.ApplyJudgedAndSwitched : Prop :=
  ∀ (s : State) (h l : Byte), s.asks 13 h l [] →
    let w := s.mgmt.working
    let n := s.mgmt.staging
    let shut : DoorSide → Prop := fun x => x.st = .locked ∨ x.st = .absent
    let open' : DoorSide → Prop := fun x => x.st = .released ∨ x.st = .warning
    let refused := ((n.door.count1 ≠ w.door.count1 ∨ n.door.count2 ≠ w.door.count2) ∧ ¬(shut s.doors.side1 ∧ shut s.doors.side2))
      ∨ ((n.coach.endSwap ≠ w.coach.endSwap ∨ n.coach.cabEnd ≠ w.coach.cabEnd) ∧ (open' s.doors.side1 ∨ open' s.doors.side2))
    let moved : Nat → Nat → DoorSide → DoorSide → Prop := fun old new x y =>
      (old ≠ 0 → new = 0 → y.st = .absent ∧ y.rel = false ∧ y.warn = false ∧ y.timer = none)
      ∧ (old = 0 → new ≠ 0 → y.st = if x.loop then .locked else .fault)
      ∧ ((old = 0 ↔ new = 0) → shut x → y.st = x.st)
    let renamed := n.coach.endSwap ≠ w.coach.endSwap ∨ n.coach.cabEnd ≠ w.coach.cabEnd
    let after : State := { s with mgmt := { s.mgmt with working := n } }
    let changed : List Byte := (if n.coach = w.coach then [] else [1]) ++ (if n.door = w.door then [] else [2])
      ++ (if n.heat = w.heat then [] else [3]) ++ (if n.cls = w.cls then [] else [4]) ++ (if n.sense = w.sense then [] else [5])
    (s.mgmt.store ≠ .idle → exec (.apply .coachLink) s = .next (s.answered 13 h l .busy []))
    ∧ (s.mgmt.store = .idle → refused → exec (.apply .coachLink) s = .next (s.answered 13 h l .refused []))
    ∧ (s.mgmt.store = .idle → n = w → s.heaterSound = true →
        exec (.apply .coachLink) s = .next (s.answered 13 h l .ok [0]))
    ∧ (s.mgmt.store = .idle → ¬refused →
        ∃ t, exec (.apply .coachLink) s = .next t ∧ t.mgmt = { s.mgmt with working := n }
          ∧ t.alloc.budget = (if n.heat.defaultBudget = w.heat.defaultBudget then s.alloc.budget else n.heat.defaultBudget)
          ∧ t.heater.demandD = (if t.doors.derate then min s.heater.demandT n.heat.derate else s.heater.demandT)
          ∧ t.heater.rating = ratingOf n.heat t.heater.groups
          ∧ (s.events.counters.length = w.coach.arraySize → t.events.counters.length = n.coach.arraySize)
          ∧ t.sense.mode = s.sense.mode ∧ t.sense.stop = s.sense.stop ∧ t.sense.interval = s.sense.interval
          ∧ t.sense.channels = s.sense.channels ∧ t.line.zsp = s.line.zsp ∧ t.nodeId = s.nodeId ∧ t.powered = true
          ∧ moved w.door.count1 n.door.count1 s.doors.side1 t.doors.side1 ∧ moved w.door.count2 n.door.count2 s.doors.side2 t.doors.side2
          ∧ (∀ k, k < 4 → k < s.heater.groups.length →
              (w.heat.rating k = 0 → n.heat.rating k ≠ 0 →
                (t.heater.group k).st = .enabled ∧ (t.heater.group k).strikes = 0 ∧ (t.heater.group k).openFlag = false)
              ∧ (w.heat.rating k ≠ 0 → n.heat.rating k = 0 → (t.heater.group k).st = .notFitted ∧ (t.heater.group k).n = 0
                  ∧ (t.heater.group k).output = false ∧ (t.heater.group k).strikes = 0 ∧ (t.heater.group k).openFlag = false)
              ∧ ((w.heat.rating k = 0 ↔ n.heat.rating k = 0) →
                  (t.heater.group k).st = (s.heater.group k).st ∧ (t.heater.group k).strikes = (s.heater.group k).strikes
                  ∧ (t.heater.group k).openFlag = (s.heater.group k).openFlag ∧ (t.heater.group k).n = (s.heater.group k).n))
          ∧ t.link.txQ.getLast? = some { kind := 0x81, payload := 13 :: h :: l :: 0 :: 0x80 :: byte changed.length :: changed }
          ∧ (¬renamed → n.coach.drivable = false → w.coach.drivable = true →
              (s.census.lead = .off → t.census = s.census)
              ∧ (s.census.lead ≠ .off → t.census.lead = .off ∧ t.census.timer = none ∧ t.census.tag = none
                  ∧ t.census.failure = s.census.failure ∧ t.census.table = s.census.table
                  ∧ t.census.cs = (if s.census.lead = .calling then (if s.census.table.isSome then .stale else .detached)
                      else s.census.cs)
                  ∧ (s.census.lead = .holding → t.summary.recs = [] ∧ t.summary.proven = false ∧ t.alloc.recs = [] ∧ t.alloc.last = none
                      ∧ t.line.beaconOn = false ∧ t.line.sup = .none ∧ t.line.timer = some 350 ∧ t.line.flag = false)))
          ∧ (¬renamed → n.coach.drivable = true → w.coach.drivable = false → s.census.lead = .off →
              ((s.census.cab = false ∨ s.census.cabRefused = true) → t.census = s.census)
              ∧ (s.census.cab = true → s.census.cabRefused = false → s.mated after.cabPort = true →
                  t.census = { s.census with cabRefused := true, failure := .cabCoupled } ∧ hasFlag t.notices.flags .censusFailed = true)
              ∧ (s.census.cab = true → s.census.cabRefused = false → s.mated after.cabPort = false →
                  t.census.attemptNo = (s.census.attemptNo + 1) % 256 ∧ t.census.attemptCtr = 0 ∧ t.census.position = 1
                  ∧ t.census.lead = (if s.mated after.nonCabPort then .calling else .holding)))
          ∧ (n.coach.drivable = w.coach.drivable →
              (¬renamed → t.census = s.census)
              ∧ (renamed → s.census.lead = .off → hasFlag t.notices.flags .topology = true
                  ∧ t.census.cs = (if s.census.cs = .settled then .stale else s.census.cs)
                  ∧ t.census.table = s.census.table ∧ t.census.position = s.census.position ∧ t.census.epoch = s.census.epoch)
              ∧ (∀ p, renamed → s.census.lead = .off → n.door = w.door → hasFlag s.notices.flags .topology = true →
                  hasFlag s.notices.flags .framesDropped = true → 6 < s.events.counters.length → 6 < n.coach.arraySize →
                  (∀ e, s.census.leadEnd = some e → s.mated (after.endPort e) = true → p = after.endPort e) → s.idleEnd p →
                  let out : State := { s with census := { s.census with cs := if s.census.cs = .settled then .stale else s.census.cs } }
                  let change : Byte → Frame := fun kind =>
                    out.ownFrame 3 .toward (if s.census.table.isSome then s.census.epoch else 0) .lead 0 [kind]
                  (t.port p).tx = some (change (if n.coach.endSwap = w.coach.endSwap then 4 else 3))
                  ∧ (t.port p).urgentQ =
                      (if n.coach.endSwap ≠ w.coach.endSwap ∧ n.coach.cabEnd ≠ w.coach.cabEnd then [change 4] else []))
              ∧ (renamed → s.census.lead ≠ .off → s.mated after.cabPort = false → hasFlag t.notices.flags .topology = true
                  ∧ t.census.attemptCtr = 0 ∧ t.census.position = 1
                  ∧ t.census.lead = (if s.mated after.nonCabPort then .calling else .holding))
              ∧ (renamed → s.census.lead ≠ .off → s.mated after.cabPort = true → t.census.lead = .off
                  ∧ t.census.failure = .cabCoupled ∧ hasFlag t.notices.flags .censusFailed = true)))

/-- STORE: the image taken, the stored image invalid and no reply yet, one place kept for it; BUSY while WRITING. The write completes: the
image valid, the store IDLE, the STORE answered OK by its route, a message on the coach link or a frame of class 10 by the port of
arrival; an idle store completes nothing, the model's choice (log 3) (R172, R176, R179). That the BUSY reply carries no results is log
18. -/
def Obligations.StoreWritesImage : Prop :=
  ∀ (s : State),
    (∀ h l, s.asks 14 h l [] → s.mgmt.store = .idle → exec (.store .coachLink) s =
      .next { s with link := { s.link with rx := [], reserved := 1 }
                     mgmt := { s.mgmt with image := none
                                           store := .writing { tables := s.mgmt.working, enable := s.notices.enable } .coachLink
                                             (u16 h l) } })
    ∧ (∀ h l, s.asks 14 h l [] → s.mgmt.store ≠ .idle → exec (.store .coachLink) s = .next (s.answered 14 h l .busy []))
    ∧ (s.powered = true → s.mgmt.store = .idle → exec .storeWriteComplete s = .next s)
    ∧ (∀ image h l, s.powered = true → s.mgmt.store = .writing image .coachLink (u16 h l) → s.link.rx = [] → s.link.sending ≠ none →
        s.link.reserved = 1 → s.link.backlog = [] → exec .storeWriteComplete s =
          .next { s with mgmt := { s.mgmt with image := some image, store := .idle }
                         link := { s.link with reserved := 0
                                               txQ := s.link.txQ ++ [{ kind := 0x81, payload := [14, h, l, 0, 0x80] }] } })
    ∧ (∀ image p i d tag, s.powered = true → s.mgmt.store = .writing image (.line p i d) tag → s.link.rx = [] →
        ∃ t, exec .storeWriteComplete s = .next t ∧ t.mgmt = { s.mgmt with image := some image, store := .idle }
          ∧ t.nodeId = s.nodeId ∧ t.census = s.census ∧ t.doors = s.doors ∧ t.heater = s.heater ∧ t.sense = s.sense)
    ∧ (∀ image p i dir h l, s.powered = true → s.mgmt.store = .writing image (.line p i dir) (u16 h l) → s.link.rx = [] → i ≠ s.nodeId →
        s.idleEnd p → exec .storeWriteComplete s =
          .next (({ s with mgmt := { s.mgmt with image := some image, store := .idle } } : State).begun p
            (s.ownFrame 10 (match dir with
              | .away => .toward
              | .toward => .away) (if s.census.cs = .settled then s.census.epoch else 0) .nodeId i [14, h, l, 0, 0x80])))

/-- SET BUDGET at a node holding the lead role sets the working budget, at most 4095, and is REFUSED elsewhere (R126). CLEAR GROUP FAULT
of one group is REFUSED for NOT_FITTED and BAD_RANGE above 3 and not ALL; otherwise the group is ENABLED with strikes, flag and on-window
cleared, R formed afresh and the other groups kept; each of these replies carries the state of every group after it (R148; no number
before the states: log 35). That the REFUSED of SET BUDGET carries no results is log 18. -/
def Obligations.HeatingRequests : Prop :=
  ∀ (s : State) (h l a b : Byte),
    let states := s.heater.groups.map fun g => byte g.st.code
    (s.asks 15 h l [a, b] → s.census.lead = .off → exec (.setBudget .coachLink) s = .next (s.answered 15 h l .refused []))
    ∧ (s.asks 15 h l [a, b] → s.census.lead ≠ .off →
        let x := min 4095 (a.toNat * 256 + b.toNat)
        exec (.setBudget .coachLink) s = .next { s.answered 15 h l .ok (be16 x) with alloc := { s.alloc with budget := x } })
    ∧ (s.asks 20 h l [a] → 3 < a.toNat → a.toNat ≠ 255 →
        exec (.clearGroupFault .coachLink) s = .next (s.answered 20 h l .badRange states))
    ∧ (s.asks 20 h l [a] → a.toNat ≤ 3 → (s.heater.group a.toNat).st = .notFitted →
        exec (.clearGroupFault .coachLink) s = .next (s.answered 20 h l .refused states))
    ∧ (s.asks 20 h l [a] → (a.toNat = 255 ∨ (a.toNat ≤ 3 ∧ (s.heater.group a.toNat).st ≠ .notFitted)) →
        ∃ t, exec (.clearGroupFault .coachLink) s = .next t
          ∧ (∀ k, k < 4 → (k = a.toNat ∨ a.toNat = 255) → (s.heater.group k).st ≠ .notFitted →
              t.heater.group k = { s.heater.group k with st := .enabled, strikes := 0, openFlag := false }
              ∧ (t.sense.onWin k).window = [] ∧ (t.sense.onWin k).count = 0)
          ∧ (∀ k, k < 4 → ((k ≠ a.toNat ∧ a.toNat ≠ 255) ∨ (s.heater.group k).st = .notFitted) →
              t.heater.group k = s.heater.group k ∧ t.sense.onWin k = s.sense.onWin k)
          ∧ t.heater.rating = ratingOf s.mgmt.working.heat t.heater.groups
          ∧ t.link = (s.answered 20 h l .ok (t.heater.groups.map fun g => byte g.st.code)).link
          ∧ t.events = s.events ∧ t.notices = s.notices ∧ s.sameFrame t ∧ t.census = s.census ∧ t.doors = s.doors)

/-- RESTART: answered OK and pending for 100 ms, BUSY while one is pending (R177). RECENSUS: REFUSED where the lead census state is OFF;
elsewhere over the coach link a census starts at attempt 0, and a lead whose non-cab end is not MATED completes it alone and is HOLDING
(R59, R35). That BUSY and REFUSED carry no results is log 18. -/
def Obligations.RestartAndRecensusRequests : Prop :=
  ∀ (s : State) (h l : Byte),
    let tag : Tag := { lead := s.nodeId, attempt := (s.census.attemptNo + 1) % 256 }
    (s.asks 22 h l [] → s.mgmt.restart = none → exec (.restart .coachLink) s =
      .next { s.answered 22 h l .ok [] with mgmt := { s.mgmt with restart := some 100 } })
    ∧ (s.asks 22 h l [] → s.mgmt.restart ≠ none → exec (.restart .coachLink) s = .next (s.answered 22 h l .busy []))
    ∧ (s.asks 21 h l [] → s.census.lead = .off → exec (.recensus .coachLink) s = .next (s.answered 21 h l .refused []))
    ∧ (s.asks 21 h l [] → s.census.lead ≠ .off → s.mated s.nonCabPort = true →
        ∃ t, exec (.recensus .coachLink) s = .next t ∧ t.census.lead = .calling ∧ t.census.cs = .survey
          ∧ t.census.attemptNo = (s.census.attemptNo + 1) % 256 ∧ t.census.attemptCtr = 0 ∧ t.census.timer = some 600
          ∧ t.census.tag = some tag ∧ t.census.table = s.census.table ∧ t.link.rx = [] ∧ s.sameFrame t)
    ∧ (s.asks 21 h l [] → s.census.lead ≠ .off → s.mated s.nonCabPort = false →
        ∃ t, exec (.recensus .coachLink) s = .next t ∧ t.census.lead = .holding ∧ t.census.cs = .settled
          ∧ t.census.attemptNo = (s.census.attemptNo + 1) % 256 ∧ t.census.attemptCtr = 0 ∧ t.census.timer = none
          ∧ t.census.epoch = (if s.census.lastEpoch = 0 ∨ s.census.lastEpoch = 255 then 1 else s.census.lastEpoch + 1)
          ∧ t.census.table.map List.length = some 1 ∧ t.line.beaconOn = true ∧ t.link = (s.answered 21 h l .ok []).link ∧ s.sameFrame t)

/-- A request over the train line. A write at a node whose remote-configuration bit is clear is answered NOT_PERMITTED, and RECENSUS
always REFUSED, by one frame of class 10 to the asker by the port of arrival and in the opposite direction, with nothing else done; a read
is answered so with its results; and with the bit set each request but APPLY, STORE and RECENSUS does to the node what the same request
does over the coach link, a STORE is taken with the line as its route back, an APPLY that is accepted switches the tables and acts as it
does over the coach link, and one of an unchanged staging changes nothing (R172, R173, R175, R59). That NOT_PERMITTED and REFUSED carry no
results is log 18. -/
def Obligations.LineRequestsServed : Prop :=
  ∀ (s : State) (d : Delivery) (rest : List Delivery) (h l : Byte) (args : List Byte) (c : Instr) (code : Nat),
    s.holds 9 d rest → d.frame.payload = byte code :: h :: l :: args → takeClass 9 rest = none → s.link.rx = [] →
    let answers : Byte → List Byte → Prop := fun status results => exec c s = .next (({ s with delivered := rest } : State).originate
      { cls := 10, dir := (match d.frame.dir with
          | .away => .toward
          | .toward => .away)
        epoch := if s.census.cs = .settled then s.census.epoch else 0, destKind := .nodeId, destVal := d.frame.srcId
        payload := [byte code, h, l, status, 0x80] ++ results } (.one d.port))
    (s.mgmt.working.coach.remoteConfig = false →
      (c, code, args.length) ∈ [(Instr.clearCounters .line, 9, 0), (.clearNotices .line, 10, 2), (.setNoticeEnable .line, 11, 2),
        (.apply .line, 13, 0), (.store .line, 14, 0), (.setBudget .line, 15, 2), (.setSense .line, 16, 12), (.sample .line, 17, 0),
        (.startCapture .line, 18, 0), (.stopCapture .line, 19, 0), (.clearGroupFault .line, 20, 1), (.restart .line, 22, 0)] →
      answers 3 [])
    ∧ (s.mgmt.working.coach.remoteConfig = false → c = .loadTable .line → code = 12 →
        (∃ x f vh vl, args = [x, f, vh, vl] ∧ 1 ≤ x.toNat ∧ x.toNat ≤ 5) → answers 3 [])
    ∧ (c = .recensus .line → code = 21 → args = [] → answers 2 [])
    ∧ (∀ results, results.length ≤ 259 →
        (c, code, results) ∈ [(Instr.identify .line, 1, s.identifyResults), (.readConsist .line, 2, s.consistResults),
          (.readDoor .line, 3, s.doorResults), (.readHeating .line, 4, s.heatingResults), (.readSense .line, 5, s.senseResults),
          (.readNotices .line, 8, s.noticeResults)] →
        args = [] → answers 0 results)
    ∧ (∀ byLink : Instr, (c, byLink, code) ∈ [(Instr.identify .line, Instr.identify .coachLink, 1),
          (.readConsist .line, .readConsist .coachLink, 2), (.readDoor .line, .readDoor .coachLink, 3),
          (.readHeating .line, .readHeating .coachLink, 4), (.readSense .line, .readSense .coachLink, 5),
          (.readCapture .line, .readCapture .coachLink, 6), (.readCounters .line, .readCounters .coachLink, 7),
          (.readNotices .line, .readNotices .coachLink, 8), (.clearCounters .line, .clearCounters .coachLink, 9),
          (.clearNotices .line, .clearNotices .coachLink, 10), (.setNoticeEnable .line, .setNoticeEnable .coachLink, 11),
          (.loadTable .line, .loadTable .coachLink, 12), (.apply .line, .apply .coachLink, 13), (.setBudget .line, .setBudget .coachLink, 15),
          (.setSense .line, .setSense .coachLink, 16), (.sample .line, .sample .coachLink, 17),
          (.startCapture .line, .startCapture .coachLink, 18), (.stopCapture .line, .stopCapture .coachLink, 19),
          (.clearGroupFault .line, .clearGroupFault .coachLink, 20), (.restart .line, .restart .coachLink, 22)] →
        s.mgmt.working.coach.remoteConfig = true → s.mated d.port = true → (s.port d.port).tx = none →
        (s.port d.port).urgentQ = [] → (s.port d.port).normalQ = [] → s.link.sending ≠ none → s.link.txQ = [] → s.link.reserved = 0 →
        s.link.backlog = [] → d.frame.srcId ≠ s.nodeId →
        ∃ t u, exec c s = .next t
          ∧ exec byLink { s with delivered := rest, link := { s.link with rx := [{ kind := 4, payload := d.frame.payload }] } } = .next u
          ∧ t.events = u.events ∧ t.notices = u.notices ∧ t.sense = u.sense ∧ t.heater = u.heater ∧ t.alloc = u.alloc ∧ t.mgmt = u.mgmt
          ∧ t.census = u.census ∧ t.line = u.line ∧ t.doors = u.doors ∧ t.summary = u.summary ∧ t.nodeId = u.nodeId
          ∧ t.powered = true ∧ t.strap = u.strap ∧ t.delivered = rest ∧ t.freeCount = u.freeCount ∧ t.link.rx = []
          ∧ ∃ f ∈ (t.port d.port).tx.toList ++ (t.port d.port).normalQ,
              f.cls = 10 ∧ f.destKind = .nodeId ∧ f.destVal = d.frame.srcId ∧ f.payload.take 3 = [byte code, h, l])
    ∧ (s.mgmt.working.coach.remoteConfig = true → c = .store .line → code = 14 → args = [] → s.mgmt.store = .idle →
        exec c s = .next { s with delivered := rest, mgmt := { s.mgmt with
          image := none
          store := .writing { tables := s.mgmt.working, enable := s.notices.enable } (.line d.port d.frame.srcId d.frame.dir) (u16 h l) } })
    ∧ (s.mgmt.working.coach.remoteConfig = true → c = .apply .line → code = 13 → args = [] → s.mgmt.store = .idle →
        s.mgmt.staging = s.mgmt.working → s.heaterSound = true → answers 0 [0])
end

