-- ==== Sys2Proof/Laws/State.lean ====
section
/-! SUPPORT. One lemma per field per update of State: what each named update leaves as it was. -/

namespace Sys2Proof.Machine

variable {s t : State}

/-! ## Updates of one block -/

@[simp] theorem State.setPort_powered (p : Port) (x : LinePort) (s : State) : (s.setPort p x).powered = s.powered := by cases p <;> rfl
@[simp] theorem State.setPort_nodeId (p : Port) (x : LinePort) (s : State) : (s.setPort p x).nodeId = s.nodeId := by cases p <;> rfl
@[simp] theorem State.setPort_strap (p : Port) (x : LinePort) (s : State) : (s.setPort p x).strap = s.strap := by cases p <;> rfl
@[simp] theorem State.setPort_delivered (p : Port) (x : LinePort) (s : State) : (s.setPort p x).delivered = s.delivered := by cases p <;> rfl
@[simp] theorem State.setPort_census (p : Port) (x : LinePort) (s : State) : (s.setPort p x).census = s.census := by cases p <;> rfl
@[simp] theorem State.setPort_line (p : Port) (x : LinePort) (s : State) : (s.setPort p x).line = s.line := by cases p <;> rfl
@[simp] theorem State.setPort_doors (p : Port) (x : LinePort) (s : State) : (s.setPort p x).doors = s.doors := by cases p <;> rfl
@[simp] theorem State.setPort_summary (p : Port) (x : LinePort) (s : State) : (s.setPort p x).summary = s.summary := by cases p <;> rfl
@[simp] theorem State.setPort_heater (p : Port) (x : LinePort) (s : State) : (s.setPort p x).heater = s.heater := by cases p <;> rfl
@[simp] theorem State.setPort_alloc (p : Port) (x : LinePort) (s : State) : (s.setPort p x).alloc = s.alloc := by cases p <;> rfl
@[simp] theorem State.setPort_sense (p : Port) (x : LinePort) (s : State) : (s.setPort p x).sense = s.sense := by cases p <;> rfl
@[simp] theorem State.setPort_events (p : Port) (x : LinePort) (s : State) : (s.setPort p x).events = s.events := by cases p <;> rfl
@[simp] theorem State.setPort_notices (p : Port) (x : LinePort) (s : State) : (s.setPort p x).notices = s.notices := by cases p <;> rfl
@[simp] theorem State.setPort_mgmt (p : Port) (x : LinePort) (s : State) : (s.setPort p x).mgmt = s.mgmt := by cases p <;> rfl
@[simp] theorem State.setPort_link (p : Port) (x : LinePort) (s : State) : (s.setPort p x).link = s.link := by cases p <;> rfl
@[simp] theorem State.setPort_freeCount (p : Port) (x : LinePort) (s : State) : (s.setPort p x).freeCount = s.freeCount := by cases p <;> rfl
@[simp] theorem State.setPort_pending (p : Port) (x : LinePort) (s : State) : (s.setPort p x).pending = s.pending := by cases p <;> rfl

@[simp] theorem State.port_setPort (p : Port) (x : LinePort) (s : State) : (s.setPort p x).port p = x := by cases p <;> rfl
@[simp] theorem State.port_setPort_other (p : Port) (x : LinePort) (s : State) : (s.setPort p x).port (otherPort p) = s.port (otherPort p) := by
  cases p <;> rfl
theorem State.port_setPort_ne {p q : Port} (x : LinePort) (s : State) (h : q ≠ p) : (s.setPort p x).port q = s.port q := by
  cases p <;> cases q <;> first | rfl | exact absurd rfl h
@[simp] theorem State.setPort_port (p : Port) (s : State) : s.setPort p (s.port p) = s := by cases p <;> rfl
@[simp] theorem State.setPort_setPort (p : Port) (x y : LinePort) (s : State) : (s.setPort p x).setPort p y = s.setPort p y := by
  cases p <;> rfl
@[simp] theorem otherPort_otherPort (p : Port) : otherPort (otherPort p) = p := by cases p <;> rfl
theorem otherPort_ne (p : Port) : otherPort p ≠ p := by cases p <;> decide

@[simp] theorem State.setFlag_powered (f : Flag) (s : State) : (s.setFlag f).powered = s.powered := rfl
@[simp] theorem State.setFlag_nodeId (f : Flag) (s : State) : (s.setFlag f).nodeId = s.nodeId := rfl
@[simp] theorem State.setFlag_strap (f : Flag) (s : State) : (s.setFlag f).strap = s.strap := rfl
@[simp] theorem State.setFlag_portA (f : Flag) (s : State) : (s.setFlag f).portA = s.portA := rfl
@[simp] theorem State.setFlag_portB (f : Flag) (s : State) : (s.setFlag f).portB = s.portB := rfl
@[simp] theorem State.setFlag_delivered (f : Flag) (s : State) : (s.setFlag f).delivered = s.delivered := rfl
@[simp] theorem State.setFlag_census (f : Flag) (s : State) : (s.setFlag f).census = s.census := rfl
@[simp] theorem State.setFlag_line (f : Flag) (s : State) : (s.setFlag f).line = s.line := rfl
@[simp] theorem State.setFlag_doors (f : Flag) (s : State) : (s.setFlag f).doors = s.doors := rfl
@[simp] theorem State.setFlag_summary (f : Flag) (s : State) : (s.setFlag f).summary = s.summary := rfl
@[simp] theorem State.setFlag_heater (f : Flag) (s : State) : (s.setFlag f).heater = s.heater := rfl
@[simp] theorem State.setFlag_alloc (f : Flag) (s : State) : (s.setFlag f).alloc = s.alloc := rfl
@[simp] theorem State.setFlag_sense (f : Flag) (s : State) : (s.setFlag f).sense = s.sense := rfl
@[simp] theorem State.setFlag_events (f : Flag) (s : State) : (s.setFlag f).events = s.events := rfl
@[simp] theorem State.setFlag_mgmt (f : Flag) (s : State) : (s.setFlag f).mgmt = s.mgmt := rfl
@[simp] theorem State.setFlag_link (f : Flag) (s : State) : (s.setFlag f).link = s.link := rfl
@[simp] theorem State.setFlag_freeCount (f : Flag) (s : State) : (s.setFlag f).freeCount = s.freeCount := rfl
@[simp] theorem State.setFlag_pending (f : Flag) (s : State) : (s.setFlag f).pending = s.pending := rfl

@[simp] theorem State.changeSide_powered (sd : Side) (f : DoorSide → DoorSide) (s : State) : (s.changeSide sd f).powered = s.powered := by cases sd <;> rfl
@[simp] theorem State.changeSide_nodeId (sd : Side) (f : DoorSide → DoorSide) (s : State) : (s.changeSide sd f).nodeId = s.nodeId := by cases sd <;> rfl
@[simp] theorem State.changeSide_strap (sd : Side) (f : DoorSide → DoorSide) (s : State) : (s.changeSide sd f).strap = s.strap := by cases sd <;> rfl
@[simp] theorem State.changeSide_portA (sd : Side) (f : DoorSide → DoorSide) (s : State) : (s.changeSide sd f).portA = s.portA := by cases sd <;> rfl
@[simp] theorem State.changeSide_portB (sd : Side) (f : DoorSide → DoorSide) (s : State) : (s.changeSide sd f).portB = s.portB := by cases sd <;> rfl
@[simp] theorem State.changeSide_delivered (sd : Side) (f : DoorSide → DoorSide) (s : State) : (s.changeSide sd f).delivered = s.delivered := by cases sd <;> rfl
@[simp] theorem State.changeSide_census (sd : Side) (f : DoorSide → DoorSide) (s : State) : (s.changeSide sd f).census = s.census := by cases sd <;> rfl
@[simp] theorem State.changeSide_line (sd : Side) (f : DoorSide → DoorSide) (s : State) : (s.changeSide sd f).line = s.line := by cases sd <;> rfl
@[simp] theorem State.changeSide_summary (sd : Side) (f : DoorSide → DoorSide) (s : State) : (s.changeSide sd f).summary = s.summary := by cases sd <;> rfl
@[simp] theorem State.changeSide_heater (sd : Side) (f : DoorSide → DoorSide) (s : State) : (s.changeSide sd f).heater = s.heater := by cases sd <;> rfl
@[simp] theorem State.changeSide_alloc (sd : Side) (f : DoorSide → DoorSide) (s : State) : (s.changeSide sd f).alloc = s.alloc := by cases sd <;> rfl
@[simp] theorem State.changeSide_sense (sd : Side) (f : DoorSide → DoorSide) (s : State) : (s.changeSide sd f).sense = s.sense := by cases sd <;> rfl
@[simp] theorem State.changeSide_events (sd : Side) (f : DoorSide → DoorSide) (s : State) : (s.changeSide sd f).events = s.events := by cases sd <;> rfl
@[simp] theorem State.changeSide_notices (sd : Side) (f : DoorSide → DoorSide) (s : State) : (s.changeSide sd f).notices = s.notices := by cases sd <;> rfl
@[simp] theorem State.changeSide_mgmt (sd : Side) (f : DoorSide → DoorSide) (s : State) : (s.changeSide sd f).mgmt = s.mgmt := by cases sd <;> rfl
@[simp] theorem State.changeSide_link (sd : Side) (f : DoorSide → DoorSide) (s : State) : (s.changeSide sd f).link = s.link := by cases sd <;> rfl
@[simp] theorem State.changeSide_freeCount (sd : Side) (f : DoorSide → DoorSide) (s : State) : (s.changeSide sd f).freeCount = s.freeCount := by cases sd <;> rfl
@[simp] theorem State.changeSide_pending (sd : Side) (f : DoorSide → DoorSide) (s : State) : (s.changeSide sd f).pending = s.pending := by cases sd <;> rfl

@[simp] theorem State.side_changeSide (sd : Side) (f : DoorSide → DoorSide) (s : State) :
    (s.changeSide sd f).doors.side sd = f (s.doors.side sd) := by cases sd <;> rfl
theorem State.side_changeSide_ne {sd sd' : Side} (f : DoorSide → DoorSide) (s : State) (h : sd' ≠ sd) :
    (s.changeSide sd f).doors.side sd' = s.doors.side sd' := by
  cases sd <;> cases sd' <;> first | rfl | exact absurd rfl h
@[simp] theorem State.derate_changeSide (sd : Side) (f : DoorSide → DoorSide) (s : State) :
    (s.changeSide sd f).doors.derate = s.doors.derate := by cases sd <;> rfl

@[simp] theorem State.changeGroup_powered (k : Nat) (f : Group → Group) (s : State) : (s.changeGroup k f).powered = s.powered := rfl
@[simp] theorem State.changeGroup_nodeId (k : Nat) (f : Group → Group) (s : State) : (s.changeGroup k f).nodeId = s.nodeId := rfl
@[simp] theorem State.changeGroup_strap (k : Nat) (f : Group → Group) (s : State) : (s.changeGroup k f).strap = s.strap := rfl
@[simp] theorem State.changeGroup_portA (k : Nat) (f : Group → Group) (s : State) : (s.changeGroup k f).portA = s.portA := rfl
@[simp] theorem State.changeGroup_portB (k : Nat) (f : Group → Group) (s : State) : (s.changeGroup k f).portB = s.portB := rfl
@[simp] theorem State.changeGroup_delivered (k : Nat) (f : Group → Group) (s : State) : (s.changeGroup k f).delivered = s.delivered := rfl
@[simp] theorem State.changeGroup_census (k : Nat) (f : Group → Group) (s : State) : (s.changeGroup k f).census = s.census := rfl
@[simp] theorem State.changeGroup_line (k : Nat) (f : Group → Group) (s : State) : (s.changeGroup k f).line = s.line := rfl
@[simp] theorem State.changeGroup_doors (k : Nat) (f : Group → Group) (s : State) : (s.changeGroup k f).doors = s.doors := rfl
@[simp] theorem State.changeGroup_summary (k : Nat) (f : Group → Group) (s : State) : (s.changeGroup k f).summary = s.summary := rfl
@[simp] theorem State.changeGroup_alloc (k : Nat) (f : Group → Group) (s : State) : (s.changeGroup k f).alloc = s.alloc := rfl
@[simp] theorem State.changeGroup_sense (k : Nat) (f : Group → Group) (s : State) : (s.changeGroup k f).sense = s.sense := rfl
@[simp] theorem State.changeGroup_events (k : Nat) (f : Group → Group) (s : State) : (s.changeGroup k f).events = s.events := rfl
@[simp] theorem State.changeGroup_notices (k : Nat) (f : Group → Group) (s : State) : (s.changeGroup k f).notices = s.notices := rfl
@[simp] theorem State.changeGroup_mgmt (k : Nat) (f : Group → Group) (s : State) : (s.changeGroup k f).mgmt = s.mgmt := rfl
@[simp] theorem State.changeGroup_link (k : Nat) (f : Group → Group) (s : State) : (s.changeGroup k f).link = s.link := rfl
@[simp] theorem State.changeGroup_freeCount (k : Nat) (f : Group → Group) (s : State) : (s.changeGroup k f).freeCount = s.freeCount := rfl
@[simp] theorem State.changeGroup_pending (k : Nat) (f : Group → Group) (s : State) : (s.changeGroup k f).pending = s.pending := rfl

@[simp] theorem State.applyGrant_powered (g : Nat) (src : GrantSource) (n : Nat) (s : State) : (s.applyGrant g src n).powered = s.powered := rfl
@[simp] theorem State.applyGrant_nodeId (g : Nat) (src : GrantSource) (n : Nat) (s : State) : (s.applyGrant g src n).nodeId = s.nodeId := rfl
@[simp] theorem State.applyGrant_strap (g : Nat) (src : GrantSource) (n : Nat) (s : State) : (s.applyGrant g src n).strap = s.strap := rfl
@[simp] theorem State.applyGrant_portA (g : Nat) (src : GrantSource) (n : Nat) (s : State) : (s.applyGrant g src n).portA = s.portA := rfl
@[simp] theorem State.applyGrant_portB (g : Nat) (src : GrantSource) (n : Nat) (s : State) : (s.applyGrant g src n).portB = s.portB := rfl
@[simp] theorem State.applyGrant_delivered (g : Nat) (src : GrantSource) (n : Nat) (s : State) : (s.applyGrant g src n).delivered = s.delivered := rfl
@[simp] theorem State.applyGrant_census (g : Nat) (src : GrantSource) (n : Nat) (s : State) : (s.applyGrant g src n).census = s.census := rfl
@[simp] theorem State.applyGrant_line (g : Nat) (src : GrantSource) (n : Nat) (s : State) : (s.applyGrant g src n).line = s.line := rfl
@[simp] theorem State.applyGrant_doors (g : Nat) (src : GrantSource) (n : Nat) (s : State) : (s.applyGrant g src n).doors = s.doors := rfl
@[simp] theorem State.applyGrant_summary (g : Nat) (src : GrantSource) (n : Nat) (s : State) : (s.applyGrant g src n).summary = s.summary := rfl
@[simp] theorem State.applyGrant_alloc (g : Nat) (src : GrantSource) (n : Nat) (s : State) : (s.applyGrant g src n).alloc = s.alloc := rfl
@[simp] theorem State.applyGrant_sense (g : Nat) (src : GrantSource) (n : Nat) (s : State) : (s.applyGrant g src n).sense = s.sense := rfl
@[simp] theorem State.applyGrant_events (g : Nat) (src : GrantSource) (n : Nat) (s : State) : (s.applyGrant g src n).events = s.events := rfl
@[simp] theorem State.applyGrant_notices (g : Nat) (src : GrantSource) (n : Nat) (s : State) : (s.applyGrant g src n).notices = s.notices := rfl
@[simp] theorem State.applyGrant_mgmt (g : Nat) (src : GrantSource) (n : Nat) (s : State) : (s.applyGrant g src n).mgmt = s.mgmt := rfl
@[simp] theorem State.applyGrant_link (g : Nat) (src : GrantSource) (n : Nat) (s : State) : (s.applyGrant g src n).link = s.link := rfl
@[simp] theorem State.applyGrant_freeCount (g : Nat) (src : GrantSource) (n : Nat) (s : State) : (s.applyGrant g src n).freeCount = s.freeCount := rfl
@[simp] theorem State.applyGrant_pending (g : Nat) (src : GrantSource) (n : Nat) (s : State) : (s.applyGrant g src n).pending = s.pending := rfl

@[simp] theorem State.stageGrant_powered (g : Grant) (s : State) : (s.stageGrant g).powered = s.powered := rfl
@[simp] theorem State.stageGrant_nodeId (g : Grant) (s : State) : (s.stageGrant g).nodeId = s.nodeId := rfl
@[simp] theorem State.stageGrant_strap (g : Grant) (s : State) : (s.stageGrant g).strap = s.strap := rfl
@[simp] theorem State.stageGrant_portA (g : Grant) (s : State) : (s.stageGrant g).portA = s.portA := rfl
@[simp] theorem State.stageGrant_portB (g : Grant) (s : State) : (s.stageGrant g).portB = s.portB := rfl
@[simp] theorem State.stageGrant_delivered (g : Grant) (s : State) : (s.stageGrant g).delivered = s.delivered := rfl
@[simp] theorem State.stageGrant_census (g : Grant) (s : State) : (s.stageGrant g).census = s.census := rfl
@[simp] theorem State.stageGrant_line (g : Grant) (s : State) : (s.stageGrant g).line = s.line := rfl
@[simp] theorem State.stageGrant_doors (g : Grant) (s : State) : (s.stageGrant g).doors = s.doors := rfl
@[simp] theorem State.stageGrant_summary (g : Grant) (s : State) : (s.stageGrant g).summary = s.summary := rfl
@[simp] theorem State.stageGrant_alloc (g : Grant) (s : State) : (s.stageGrant g).alloc = s.alloc := rfl
@[simp] theorem State.stageGrant_sense (g : Grant) (s : State) : (s.stageGrant g).sense = s.sense := rfl
@[simp] theorem State.stageGrant_events (g : Grant) (s : State) : (s.stageGrant g).events = s.events := rfl
@[simp] theorem State.stageGrant_notices (g : Grant) (s : State) : (s.stageGrant g).notices = s.notices := rfl
@[simp] theorem State.stageGrant_mgmt (g : Grant) (s : State) : (s.stageGrant g).mgmt = s.mgmt := rfl
@[simp] theorem State.stageGrant_link (g : Grant) (s : State) : (s.stageGrant g).link = s.link := rfl
@[simp] theorem State.stageGrant_freeCount (g : Grant) (s : State) : (s.stageGrant g).freeCount = s.freeCount := rfl
@[simp] theorem State.stageGrant_pending (g : Grant) (s : State) : (s.stageGrant g).pending = s.pending := rfl

@[simp] theorem State.setOutputs_powered (s : State) : (s.setOutputs).powered = s.powered := rfl
@[simp] theorem State.setOutputs_nodeId (s : State) : (s.setOutputs).nodeId = s.nodeId := rfl
@[simp] theorem State.setOutputs_strap (s : State) : (s.setOutputs).strap = s.strap := rfl
@[simp] theorem State.setOutputs_portA (s : State) : (s.setOutputs).portA = s.portA := rfl
@[simp] theorem State.setOutputs_portB (s : State) : (s.setOutputs).portB = s.portB := rfl
@[simp] theorem State.setOutputs_delivered (s : State) : (s.setOutputs).delivered = s.delivered := rfl
@[simp] theorem State.setOutputs_census (s : State) : (s.setOutputs).census = s.census := rfl
@[simp] theorem State.setOutputs_line (s : State) : (s.setOutputs).line = s.line := rfl
@[simp] theorem State.setOutputs_doors (s : State) : (s.setOutputs).doors = s.doors := rfl
@[simp] theorem State.setOutputs_summary (s : State) : (s.setOutputs).summary = s.summary := rfl
@[simp] theorem State.setOutputs_alloc (s : State) : (s.setOutputs).alloc = s.alloc := rfl
@[simp] theorem State.setOutputs_events (s : State) : (s.setOutputs).events = s.events := rfl
@[simp] theorem State.setOutputs_notices (s : State) : (s.setOutputs).notices = s.notices := rfl
@[simp] theorem State.setOutputs_mgmt (s : State) : (s.setOutputs).mgmt = s.mgmt := rfl
@[simp] theorem State.setOutputs_link (s : State) : (s.setOutputs).link = s.link := rfl
@[simp] theorem State.setOutputs_freeCount (s : State) : (s.setOutputs).freeCount = s.freeCount := rfl
@[simp] theorem State.setOutputs_pending (s : State) : (s.setOutputs).pending = s.pending := rfl

@[simp] theorem State.readSlot_powered (s : State) : (s.readSlot).powered = s.powered := rfl
@[simp] theorem State.readSlot_nodeId (s : State) : (s.readSlot).nodeId = s.nodeId := rfl
@[simp] theorem State.readSlot_strap (s : State) : (s.readSlot).strap = s.strap := rfl
@[simp] theorem State.readSlot_portA (s : State) : (s.readSlot).portA = s.portA := rfl
@[simp] theorem State.readSlot_portB (s : State) : (s.readSlot).portB = s.portB := rfl
@[simp] theorem State.readSlot_delivered (s : State) : (s.readSlot).delivered = s.delivered := rfl
@[simp] theorem State.readSlot_census (s : State) : (s.readSlot).census = s.census := rfl
@[simp] theorem State.readSlot_line (s : State) : (s.readSlot).line = s.line := rfl
@[simp] theorem State.readSlot_doors (s : State) : (s.readSlot).doors = s.doors := rfl
@[simp] theorem State.readSlot_summary (s : State) : (s.readSlot).summary = s.summary := rfl
@[simp] theorem State.readSlot_alloc (s : State) : (s.readSlot).alloc = s.alloc := rfl
@[simp] theorem State.readSlot_events (s : State) : (s.readSlot).events = s.events := rfl
@[simp] theorem State.readSlot_notices (s : State) : (s.readSlot).notices = s.notices := rfl
@[simp] theorem State.readSlot_mgmt (s : State) : (s.readSlot).mgmt = s.mgmt := rfl
@[simp] theorem State.readSlot_link (s : State) : (s.readSlot).link = s.link := rfl
@[simp] theorem State.readSlot_freeCount (s : State) : (s.readSlot).freeCount = s.freeCount := rfl
@[simp] theorem State.readSlot_pending (s : State) : (s.readSlot).pending = s.pending := rfl

@[simp] theorem State.formD_powered (s : State) : (s.formD).powered = s.powered := rfl
@[simp] theorem State.formD_nodeId (s : State) : (s.formD).nodeId = s.nodeId := rfl
@[simp] theorem State.formD_strap (s : State) : (s.formD).strap = s.strap := rfl
@[simp] theorem State.formD_portA (s : State) : (s.formD).portA = s.portA := rfl
@[simp] theorem State.formD_portB (s : State) : (s.formD).portB = s.portB := rfl
@[simp] theorem State.formD_delivered (s : State) : (s.formD).delivered = s.delivered := rfl
@[simp] theorem State.formD_census (s : State) : (s.formD).census = s.census := rfl
@[simp] theorem State.formD_line (s : State) : (s.formD).line = s.line := rfl
@[simp] theorem State.formD_doors (s : State) : (s.formD).doors = s.doors := rfl
@[simp] theorem State.formD_summary (s : State) : (s.formD).summary = s.summary := rfl
@[simp] theorem State.formD_alloc (s : State) : (s.formD).alloc = s.alloc := rfl
@[simp] theorem State.formD_sense (s : State) : (s.formD).sense = s.sense := rfl
@[simp] theorem State.formD_events (s : State) : (s.formD).events = s.events := rfl
@[simp] theorem State.formD_notices (s : State) : (s.formD).notices = s.notices := rfl
@[simp] theorem State.formD_mgmt (s : State) : (s.formD).mgmt = s.mgmt := rfl
@[simp] theorem State.formD_link (s : State) : (s.formD).link = s.link := rfl
@[simp] theorem State.formD_freeCount (s : State) : (s.formD).freeCount = s.freeCount := rfl
@[simp] theorem State.formD_pending (s : State) : (s.formD).pending = s.pending := rfl

@[simp] theorem State.formR_powered (s : State) : (s.formR).powered = s.powered := rfl
@[simp] theorem State.formR_nodeId (s : State) : (s.formR).nodeId = s.nodeId := rfl
@[simp] theorem State.formR_strap (s : State) : (s.formR).strap = s.strap := rfl
@[simp] theorem State.formR_portA (s : State) : (s.formR).portA = s.portA := rfl
@[simp] theorem State.formR_portB (s : State) : (s.formR).portB = s.portB := rfl
@[simp] theorem State.formR_delivered (s : State) : (s.formR).delivered = s.delivered := rfl
@[simp] theorem State.formR_census (s : State) : (s.formR).census = s.census := rfl
@[simp] theorem State.formR_line (s : State) : (s.formR).line = s.line := rfl
@[simp] theorem State.formR_doors (s : State) : (s.formR).doors = s.doors := rfl
@[simp] theorem State.formR_summary (s : State) : (s.formR).summary = s.summary := rfl
@[simp] theorem State.formR_alloc (s : State) : (s.formR).alloc = s.alloc := rfl
@[simp] theorem State.formR_sense (s : State) : (s.formR).sense = s.sense := rfl
@[simp] theorem State.formR_events (s : State) : (s.formR).events = s.events := rfl
@[simp] theorem State.formR_notices (s : State) : (s.formR).notices = s.notices := rfl
@[simp] theorem State.formR_mgmt (s : State) : (s.formR).mgmt = s.mgmt := rfl
@[simp] theorem State.formR_link (s : State) : (s.formR).link = s.link := rfl
@[simp] theorem State.formR_freeCount (s : State) : (s.formR).freeCount = s.freeCount := rfl
@[simp] theorem State.formR_pending (s : State) : (s.formR).pending = s.pending := rfl

@[simp] theorem State.formDuty_powered (s : State) : (s.formDuty).powered = s.powered := rfl
@[simp] theorem State.formDuty_nodeId (s : State) : (s.formDuty).nodeId = s.nodeId := rfl
@[simp] theorem State.formDuty_strap (s : State) : (s.formDuty).strap = s.strap := rfl
@[simp] theorem State.formDuty_portA (s : State) : (s.formDuty).portA = s.portA := rfl
@[simp] theorem State.formDuty_portB (s : State) : (s.formDuty).portB = s.portB := rfl
@[simp] theorem State.formDuty_delivered (s : State) : (s.formDuty).delivered = s.delivered := rfl
@[simp] theorem State.formDuty_census (s : State) : (s.formDuty).census = s.census := rfl
@[simp] theorem State.formDuty_line (s : State) : (s.formDuty).line = s.line := rfl
@[simp] theorem State.formDuty_doors (s : State) : (s.formDuty).doors = s.doors := rfl
@[simp] theorem State.formDuty_summary (s : State) : (s.formDuty).summary = s.summary := rfl
@[simp] theorem State.formDuty_alloc (s : State) : (s.formDuty).alloc = s.alloc := rfl
@[simp] theorem State.formDuty_sense (s : State) : (s.formDuty).sense = s.sense := rfl
@[simp] theorem State.formDuty_events (s : State) : (s.formDuty).events = s.events := rfl
@[simp] theorem State.formDuty_notices (s : State) : (s.formDuty).notices = s.notices := rfl
@[simp] theorem State.formDuty_mgmt (s : State) : (s.formDuty).mgmt = s.mgmt := rfl
@[simp] theorem State.formDuty_link (s : State) : (s.formDuty).link = s.link := rfl
@[simp] theorem State.formDuty_freeCount (s : State) : (s.formDuty).freeCount = s.freeCount := rfl
@[simp] theorem State.formDuty_pending (s : State) : (s.formDuty).pending = s.pending := rfl

@[simp] theorem State.endCycleStart_powered (s : State) : (s.endCycleStart).powered = s.powered := rfl
@[simp] theorem State.endCycleStart_nodeId (s : State) : (s.endCycleStart).nodeId = s.nodeId := rfl
@[simp] theorem State.endCycleStart_strap (s : State) : (s.endCycleStart).strap = s.strap := rfl
@[simp] theorem State.endCycleStart_portA (s : State) : (s.endCycleStart).portA = s.portA := rfl
@[simp] theorem State.endCycleStart_portB (s : State) : (s.endCycleStart).portB = s.portB := rfl
@[simp] theorem State.endCycleStart_delivered (s : State) : (s.endCycleStart).delivered = s.delivered := rfl
@[simp] theorem State.endCycleStart_census (s : State) : (s.endCycleStart).census = s.census := rfl
@[simp] theorem State.endCycleStart_line (s : State) : (s.endCycleStart).line = s.line := rfl
@[simp] theorem State.endCycleStart_doors (s : State) : (s.endCycleStart).doors = s.doors := rfl
@[simp] theorem State.endCycleStart_summary (s : State) : (s.endCycleStart).summary = s.summary := rfl
@[simp] theorem State.endCycleStart_alloc (s : State) : (s.endCycleStart).alloc = s.alloc := rfl
@[simp] theorem State.endCycleStart_events (s : State) : (s.endCycleStart).events = s.events := rfl
@[simp] theorem State.endCycleStart_notices (s : State) : (s.endCycleStart).notices = s.notices := rfl
@[simp] theorem State.endCycleStart_mgmt (s : State) : (s.endCycleStart).mgmt = s.mgmt := rfl
@[simp] theorem State.endCycleStart_link (s : State) : (s.endCycleStart).link = s.link := rfl
@[simp] theorem State.endCycleStart_freeCount (s : State) : (s.endCycleStart).freeCount = s.freeCount := rfl
@[simp] theorem State.endCycleStart_pending (s : State) : (s.endCycleStart).pending = s.pending := rfl

@[simp] theorem State.handCoverage_powered (was : Sense) (s : State) : (s.handCoverage was).powered = s.powered := rfl
@[simp] theorem State.handCoverage_nodeId (was : Sense) (s : State) : (s.handCoverage was).nodeId = s.nodeId := rfl
@[simp] theorem State.handCoverage_strap (was : Sense) (s : State) : (s.handCoverage was).strap = s.strap := rfl
@[simp] theorem State.handCoverage_portA (was : Sense) (s : State) : (s.handCoverage was).portA = s.portA := rfl
@[simp] theorem State.handCoverage_portB (was : Sense) (s : State) : (s.handCoverage was).portB = s.portB := rfl
@[simp] theorem State.handCoverage_delivered (was : Sense) (s : State) : (s.handCoverage was).delivered = s.delivered := rfl
@[simp] theorem State.handCoverage_census (was : Sense) (s : State) : (s.handCoverage was).census = s.census := rfl
@[simp] theorem State.handCoverage_line (was : Sense) (s : State) : (s.handCoverage was).line = s.line := rfl
@[simp] theorem State.handCoverage_doors (was : Sense) (s : State) : (s.handCoverage was).doors = s.doors := rfl
@[simp] theorem State.handCoverage_summary (was : Sense) (s : State) : (s.handCoverage was).summary = s.summary := rfl
@[simp] theorem State.handCoverage_alloc (was : Sense) (s : State) : (s.handCoverage was).alloc = s.alloc := rfl
@[simp] theorem State.handCoverage_events (was : Sense) (s : State) : (s.handCoverage was).events = s.events := rfl
@[simp] theorem State.handCoverage_notices (was : Sense) (s : State) : (s.handCoverage was).notices = s.notices := rfl
@[simp] theorem State.handCoverage_mgmt (was : Sense) (s : State) : (s.handCoverage was).mgmt = s.mgmt := rfl
@[simp] theorem State.handCoverage_link (was : Sense) (s : State) : (s.handCoverage was).link = s.link := rfl
@[simp] theorem State.handCoverage_freeCount (was : Sense) (s : State) : (s.handCoverage was).freeCount = s.freeCount := rfl
@[simp] theorem State.handCoverage_pending (was : Sense) (s : State) : (s.handCoverage was).pending = s.pending := rfl

@[simp] theorem State.judgeProven_powered (s : State) : (s.judgeProven).powered = s.powered := rfl
@[simp] theorem State.judgeProven_nodeId (s : State) : (s.judgeProven).nodeId = s.nodeId := rfl
@[simp] theorem State.judgeProven_strap (s : State) : (s.judgeProven).strap = s.strap := rfl
@[simp] theorem State.judgeProven_portA (s : State) : (s.judgeProven).portA = s.portA := rfl
@[simp] theorem State.judgeProven_portB (s : State) : (s.judgeProven).portB = s.portB := rfl
@[simp] theorem State.judgeProven_delivered (s : State) : (s.judgeProven).delivered = s.delivered := rfl
@[simp] theorem State.judgeProven_census (s : State) : (s.judgeProven).census = s.census := rfl
@[simp] theorem State.judgeProven_line (s : State) : (s.judgeProven).line = s.line := rfl
@[simp] theorem State.judgeProven_doors (s : State) : (s.judgeProven).doors = s.doors := rfl
@[simp] theorem State.judgeProven_heater (s : State) : (s.judgeProven).heater = s.heater := rfl
@[simp] theorem State.judgeProven_alloc (s : State) : (s.judgeProven).alloc = s.alloc := rfl
@[simp] theorem State.judgeProven_sense (s : State) : (s.judgeProven).sense = s.sense := rfl
@[simp] theorem State.judgeProven_events (s : State) : (s.judgeProven).events = s.events := rfl
@[simp] theorem State.judgeProven_notices (s : State) : (s.judgeProven).notices = s.notices := rfl
@[simp] theorem State.judgeProven_mgmt (s : State) : (s.judgeProven).mgmt = s.mgmt := rfl
@[simp] theorem State.judgeProven_link (s : State) : (s.judgeProven).link = s.link := rfl
@[simp] theorem State.judgeProven_freeCount (s : State) : (s.judgeProven).freeCount = s.freeCount := rfl
@[simp] theorem State.judgeProven_pending (s : State) : (s.judgeProven).pending = s.pending := rfl

@[simp] theorem State.recordDoors_powered (pos : Nat) (a : SideReport) (b : SideReport) (p : Bool) (s : State) : (s.recordDoors pos a b p).powered = s.powered := rfl
@[simp] theorem State.recordDoors_nodeId (pos : Nat) (a : SideReport) (b : SideReport) (p : Bool) (s : State) : (s.recordDoors pos a b p).nodeId = s.nodeId := rfl
@[simp] theorem State.recordDoors_strap (pos : Nat) (a : SideReport) (b : SideReport) (p : Bool) (s : State) : (s.recordDoors pos a b p).strap = s.strap := rfl
@[simp] theorem State.recordDoors_portA (pos : Nat) (a : SideReport) (b : SideReport) (p : Bool) (s : State) : (s.recordDoors pos a b p).portA = s.portA := rfl
@[simp] theorem State.recordDoors_portB (pos : Nat) (a : SideReport) (b : SideReport) (p : Bool) (s : State) : (s.recordDoors pos a b p).portB = s.portB := rfl
@[simp] theorem State.recordDoors_delivered (pos : Nat) (a : SideReport) (b : SideReport) (p : Bool) (s : State) : (s.recordDoors pos a b p).delivered = s.delivered := rfl
@[simp] theorem State.recordDoors_census (pos : Nat) (a : SideReport) (b : SideReport) (p : Bool) (s : State) : (s.recordDoors pos a b p).census = s.census := rfl
@[simp] theorem State.recordDoors_line (pos : Nat) (a : SideReport) (b : SideReport) (p : Bool) (s : State) : (s.recordDoors pos a b p).line = s.line := rfl
@[simp] theorem State.recordDoors_doors (pos : Nat) (a : SideReport) (b : SideReport) (p : Bool) (s : State) : (s.recordDoors pos a b p).doors = s.doors := rfl
@[simp] theorem State.recordDoors_heater (pos : Nat) (a : SideReport) (b : SideReport) (p : Bool) (s : State) : (s.recordDoors pos a b p).heater = s.heater := rfl
@[simp] theorem State.recordDoors_alloc (pos : Nat) (a : SideReport) (b : SideReport) (p : Bool) (s : State) : (s.recordDoors pos a b p).alloc = s.alloc := rfl
@[simp] theorem State.recordDoors_sense (pos : Nat) (a : SideReport) (b : SideReport) (p : Bool) (s : State) : (s.recordDoors pos a b p).sense = s.sense := rfl
@[simp] theorem State.recordDoors_events (pos : Nat) (a : SideReport) (b : SideReport) (p : Bool) (s : State) : (s.recordDoors pos a b p).events = s.events := rfl
@[simp] theorem State.recordDoors_notices (pos : Nat) (a : SideReport) (b : SideReport) (p : Bool) (s : State) : (s.recordDoors pos a b p).notices = s.notices := rfl
@[simp] theorem State.recordDoors_mgmt (pos : Nat) (a : SideReport) (b : SideReport) (p : Bool) (s : State) : (s.recordDoors pos a b p).mgmt = s.mgmt := rfl
@[simp] theorem State.recordDoors_link (pos : Nat) (a : SideReport) (b : SideReport) (p : Bool) (s : State) : (s.recordDoors pos a b p).link = s.link := rfl
@[simp] theorem State.recordDoors_freeCount (pos : Nat) (a : SideReport) (b : SideReport) (p : Bool) (s : State) : (s.recordDoors pos a b p).freeCount = s.freeCount := rfl
@[simp] theorem State.recordDoors_pending (pos : Nat) (a : SideReport) (b : SideReport) (p : Bool) (s : State) : (s.recordDoors pos a b p).pending = s.pending := rfl

@[simp] theorem State.ageSummary_powered (s : State) : (s.ageSummary).powered = s.powered := by unfold State.ageSummary; split <;> rfl
@[simp] theorem State.ageSummary_nodeId (s : State) : (s.ageSummary).nodeId = s.nodeId := by unfold State.ageSummary; split <;> rfl
@[simp] theorem State.ageSummary_strap (s : State) : (s.ageSummary).strap = s.strap := by unfold State.ageSummary; split <;> rfl
@[simp] theorem State.ageSummary_portA (s : State) : (s.ageSummary).portA = s.portA := by unfold State.ageSummary; split <;> rfl
@[simp] theorem State.ageSummary_portB (s : State) : (s.ageSummary).portB = s.portB := by unfold State.ageSummary; split <;> rfl
@[simp] theorem State.ageSummary_delivered (s : State) : (s.ageSummary).delivered = s.delivered := by unfold State.ageSummary; split <;> rfl
@[simp] theorem State.ageSummary_census (s : State) : (s.ageSummary).census = s.census := by unfold State.ageSummary; split <;> rfl
@[simp] theorem State.ageSummary_line (s : State) : (s.ageSummary).line = s.line := by unfold State.ageSummary; split <;> rfl
@[simp] theorem State.ageSummary_doors (s : State) : (s.ageSummary).doors = s.doors := by unfold State.ageSummary; split <;> rfl
@[simp] theorem State.ageSummary_heater (s : State) : (s.ageSummary).heater = s.heater := by unfold State.ageSummary; split <;> rfl
@[simp] theorem State.ageSummary_alloc (s : State) : (s.ageSummary).alloc = s.alloc := by unfold State.ageSummary; split <;> rfl
@[simp] theorem State.ageSummary_sense (s : State) : (s.ageSummary).sense = s.sense := by unfold State.ageSummary; split <;> rfl
@[simp] theorem State.ageSummary_events (s : State) : (s.ageSummary).events = s.events := by unfold State.ageSummary; split <;> rfl
@[simp] theorem State.ageSummary_notices (s : State) : (s.ageSummary).notices = s.notices := by unfold State.ageSummary; split <;> rfl
@[simp] theorem State.ageSummary_mgmt (s : State) : (s.ageSummary).mgmt = s.mgmt := by unfold State.ageSummary; split <;> rfl
@[simp] theorem State.ageSummary_link (s : State) : (s.ageSummary).link = s.link := by unfold State.ageSummary; split <;> rfl
@[simp] theorem State.ageSummary_freeCount (s : State) : (s.ageSummary).freeCount = s.freeCount := by unfold State.ageSummary; split <;> rfl
@[simp] theorem State.ageSummary_pending (s : State) : (s.ageSummary).pending = s.pending := by unfold State.ageSummary; split <;> rfl

@[simp] theorem State.recordDemand_powered (pos : Nat) (r : Nat) (d : Nat) (p : Bool) (s : State) : (s.recordDemand pos r d p).powered = s.powered := rfl
@[simp] theorem State.recordDemand_nodeId (pos : Nat) (r : Nat) (d : Nat) (p : Bool) (s : State) : (s.recordDemand pos r d p).nodeId = s.nodeId := rfl
@[simp] theorem State.recordDemand_strap (pos : Nat) (r : Nat) (d : Nat) (p : Bool) (s : State) : (s.recordDemand pos r d p).strap = s.strap := rfl
@[simp] theorem State.recordDemand_portA (pos : Nat) (r : Nat) (d : Nat) (p : Bool) (s : State) : (s.recordDemand pos r d p).portA = s.portA := rfl
@[simp] theorem State.recordDemand_portB (pos : Nat) (r : Nat) (d : Nat) (p : Bool) (s : State) : (s.recordDemand pos r d p).portB = s.portB := rfl
@[simp] theorem State.recordDemand_delivered (pos : Nat) (r : Nat) (d : Nat) (p : Bool) (s : State) : (s.recordDemand pos r d p).delivered = s.delivered := rfl
@[simp] theorem State.recordDemand_census (pos : Nat) (r : Nat) (d : Nat) (p : Bool) (s : State) : (s.recordDemand pos r d p).census = s.census := rfl
@[simp] theorem State.recordDemand_line (pos : Nat) (r : Nat) (d : Nat) (p : Bool) (s : State) : (s.recordDemand pos r d p).line = s.line := rfl
@[simp] theorem State.recordDemand_doors (pos : Nat) (r : Nat) (d : Nat) (p : Bool) (s : State) : (s.recordDemand pos r d p).doors = s.doors := rfl
@[simp] theorem State.recordDemand_summary (pos : Nat) (r : Nat) (d : Nat) (p : Bool) (s : State) : (s.recordDemand pos r d p).summary = s.summary := rfl
@[simp] theorem State.recordDemand_heater (pos : Nat) (r : Nat) (d : Nat) (p : Bool) (s : State) : (s.recordDemand pos r d p).heater = s.heater := rfl
@[simp] theorem State.recordDemand_sense (pos : Nat) (r : Nat) (d : Nat) (p : Bool) (s : State) : (s.recordDemand pos r d p).sense = s.sense := rfl
@[simp] theorem State.recordDemand_events (pos : Nat) (r : Nat) (d : Nat) (p : Bool) (s : State) : (s.recordDemand pos r d p).events = s.events := rfl
@[simp] theorem State.recordDemand_notices (pos : Nat) (r : Nat) (d : Nat) (p : Bool) (s : State) : (s.recordDemand pos r d p).notices = s.notices := rfl
@[simp] theorem State.recordDemand_mgmt (pos : Nat) (r : Nat) (d : Nat) (p : Bool) (s : State) : (s.recordDemand pos r d p).mgmt = s.mgmt := rfl
@[simp] theorem State.recordDemand_link (pos : Nat) (r : Nat) (d : Nat) (p : Bool) (s : State) : (s.recordDemand pos r d p).link = s.link := rfl
@[simp] theorem State.recordDemand_freeCount (pos : Nat) (r : Nat) (d : Nat) (p : Bool) (s : State) : (s.recordDemand pos r d p).freeCount = s.freeCount := rfl
@[simp] theorem State.recordDemand_pending (pos : Nat) (r : Nat) (d : Nat) (p : Bool) (s : State) : (s.recordDemand pos r d p).pending = s.pending := rfl

@[simp] theorem State.install_powered (e : Nat) (es : List Entry) (s : State) : (s.install e es).powered = s.powered := rfl
@[simp] theorem State.install_nodeId (e : Nat) (es : List Entry) (s : State) : (s.install e es).nodeId = s.nodeId := rfl
@[simp] theorem State.install_strap (e : Nat) (es : List Entry) (s : State) : (s.install e es).strap = s.strap := rfl
@[simp] theorem State.install_portA (e : Nat) (es : List Entry) (s : State) : (s.install e es).portA = s.portA := rfl
@[simp] theorem State.install_portB (e : Nat) (es : List Entry) (s : State) : (s.install e es).portB = s.portB := rfl
@[simp] theorem State.install_delivered (e : Nat) (es : List Entry) (s : State) : (s.install e es).delivered = s.delivered := rfl
@[simp] theorem State.install_line (e : Nat) (es : List Entry) (s : State) : (s.install e es).line = s.line := rfl
@[simp] theorem State.install_doors (e : Nat) (es : List Entry) (s : State) : (s.install e es).doors = s.doors := rfl
@[simp] theorem State.install_summary (e : Nat) (es : List Entry) (s : State) : (s.install e es).summary = s.summary := rfl
@[simp] theorem State.install_heater (e : Nat) (es : List Entry) (s : State) : (s.install e es).heater = s.heater := rfl
@[simp] theorem State.install_alloc (e : Nat) (es : List Entry) (s : State) : (s.install e es).alloc = s.alloc := rfl
@[simp] theorem State.install_sense (e : Nat) (es : List Entry) (s : State) : (s.install e es).sense = s.sense := rfl
@[simp] theorem State.install_events (e : Nat) (es : List Entry) (s : State) : (s.install e es).events = s.events := rfl
@[simp] theorem State.install_notices (e : Nat) (es : List Entry) (s : State) : (s.install e es).notices = s.notices := rfl
@[simp] theorem State.install_mgmt (e : Nat) (es : List Entry) (s : State) : (s.install e es).mgmt = s.mgmt := rfl
@[simp] theorem State.install_link (e : Nat) (es : List Entry) (s : State) : (s.install e es).link = s.link := rfl
@[simp] theorem State.install_freeCount (e : Nat) (es : List Entry) (s : State) : (s.install e es).freeCount = s.freeCount := rfl
@[simp] theorem State.install_pending (e : Nat) (es : List Entry) (s : State) : (s.install e es).pending = s.pending := rfl

@[simp] theorem State.dropOldEpoch_powered (s : State) : (s.dropOldEpoch).powered = s.powered := rfl
@[simp] theorem State.dropOldEpoch_nodeId (s : State) : (s.dropOldEpoch).nodeId = s.nodeId := rfl
@[simp] theorem State.dropOldEpoch_strap (s : State) : (s.dropOldEpoch).strap = s.strap := rfl
@[simp] theorem State.dropOldEpoch_portA (s : State) : (s.dropOldEpoch).portA = s.portA := rfl
@[simp] theorem State.dropOldEpoch_portB (s : State) : (s.dropOldEpoch).portB = s.portB := rfl
@[simp] theorem State.dropOldEpoch_delivered (s : State) : (s.dropOldEpoch).delivered = s.delivered := rfl
@[simp] theorem State.dropOldEpoch_census (s : State) : (s.dropOldEpoch).census = s.census := rfl
@[simp] theorem State.dropOldEpoch_line (s : State) : (s.dropOldEpoch).line = s.line := rfl
@[simp] theorem State.dropOldEpoch_summary (s : State) : (s.dropOldEpoch).summary = s.summary := rfl
@[simp] theorem State.dropOldEpoch_alloc (s : State) : (s.dropOldEpoch).alloc = s.alloc := rfl
@[simp] theorem State.dropOldEpoch_sense (s : State) : (s.dropOldEpoch).sense = s.sense := rfl
@[simp] theorem State.dropOldEpoch_events (s : State) : (s.dropOldEpoch).events = s.events := rfl
@[simp] theorem State.dropOldEpoch_notices (s : State) : (s.dropOldEpoch).notices = s.notices := rfl
@[simp] theorem State.dropOldEpoch_mgmt (s : State) : (s.dropOldEpoch).mgmt = s.mgmt := rfl
@[simp] theorem State.dropOldEpoch_link (s : State) : (s.dropOldEpoch).link = s.link := rfl
@[simp] theorem State.dropOldEpoch_freeCount (s : State) : (s.dropOldEpoch).freeCount = s.freeCount := rfl
@[simp] theorem State.dropOldEpoch_pending (s : State) : (s.dropOldEpoch).pending = s.pending := rfl

@[simp] theorem State.deliverFrame_powered (p : Port) (f : Frame) (s : State) : (s.deliverFrame p f).powered = s.powered := rfl
@[simp] theorem State.deliverFrame_nodeId (p : Port) (f : Frame) (s : State) : (s.deliverFrame p f).nodeId = s.nodeId := rfl
@[simp] theorem State.deliverFrame_strap (p : Port) (f : Frame) (s : State) : (s.deliverFrame p f).strap = s.strap := rfl
@[simp] theorem State.deliverFrame_portA (p : Port) (f : Frame) (s : State) : (s.deliverFrame p f).portA = s.portA := rfl
@[simp] theorem State.deliverFrame_portB (p : Port) (f : Frame) (s : State) : (s.deliverFrame p f).portB = s.portB := rfl
@[simp] theorem State.deliverFrame_census (p : Port) (f : Frame) (s : State) : (s.deliverFrame p f).census = s.census := rfl
@[simp] theorem State.deliverFrame_line (p : Port) (f : Frame) (s : State) : (s.deliverFrame p f).line = s.line := rfl
@[simp] theorem State.deliverFrame_doors (p : Port) (f : Frame) (s : State) : (s.deliverFrame p f).doors = s.doors := rfl
@[simp] theorem State.deliverFrame_summary (p : Port) (f : Frame) (s : State) : (s.deliverFrame p f).summary = s.summary := rfl
@[simp] theorem State.deliverFrame_heater (p : Port) (f : Frame) (s : State) : (s.deliverFrame p f).heater = s.heater := rfl
@[simp] theorem State.deliverFrame_alloc (p : Port) (f : Frame) (s : State) : (s.deliverFrame p f).alloc = s.alloc := rfl
@[simp] theorem State.deliverFrame_sense (p : Port) (f : Frame) (s : State) : (s.deliverFrame p f).sense = s.sense := rfl
@[simp] theorem State.deliverFrame_events (p : Port) (f : Frame) (s : State) : (s.deliverFrame p f).events = s.events := rfl
@[simp] theorem State.deliverFrame_notices (p : Port) (f : Frame) (s : State) : (s.deliverFrame p f).notices = s.notices := rfl
@[simp] theorem State.deliverFrame_mgmt (p : Port) (f : Frame) (s : State) : (s.deliverFrame p f).mgmt = s.mgmt := rfl
@[simp] theorem State.deliverFrame_link (p : Port) (f : Frame) (s : State) : (s.deliverFrame p f).link = s.link := rfl
@[simp] theorem State.deliverFrame_freeCount (p : Port) (f : Frame) (s : State) : (s.deliverFrame p f).freeCount = s.freeCount := rfl
@[simp] theorem State.deliverFrame_pending (p : Port) (f : Frame) (s : State) : (s.deliverFrame p f).pending = s.pending := rfl

@[simp] theorem State.dropOldest_powered (s : State) : (s.dropOldest).powered = s.powered := rfl
@[simp] theorem State.dropOldest_nodeId (s : State) : (s.dropOldest).nodeId = s.nodeId := rfl
@[simp] theorem State.dropOldest_strap (s : State) : (s.dropOldest).strap = s.strap := rfl
@[simp] theorem State.dropOldest_portA (s : State) : (s.dropOldest).portA = s.portA := rfl
@[simp] theorem State.dropOldest_portB (s : State) : (s.dropOldest).portB = s.portB := rfl
@[simp] theorem State.dropOldest_delivered (s : State) : (s.dropOldest).delivered = s.delivered := rfl
@[simp] theorem State.dropOldest_census (s : State) : (s.dropOldest).census = s.census := rfl
@[simp] theorem State.dropOldest_line (s : State) : (s.dropOldest).line = s.line := rfl
@[simp] theorem State.dropOldest_doors (s : State) : (s.dropOldest).doors = s.doors := rfl
@[simp] theorem State.dropOldest_summary (s : State) : (s.dropOldest).summary = s.summary := rfl
@[simp] theorem State.dropOldest_heater (s : State) : (s.dropOldest).heater = s.heater := rfl
@[simp] theorem State.dropOldest_alloc (s : State) : (s.dropOldest).alloc = s.alloc := rfl
@[simp] theorem State.dropOldest_sense (s : State) : (s.dropOldest).sense = s.sense := rfl
@[simp] theorem State.dropOldest_events (s : State) : (s.dropOldest).events = s.events := rfl
@[simp] theorem State.dropOldest_notices (s : State) : (s.dropOldest).notices = s.notices := rfl
@[simp] theorem State.dropOldest_mgmt (s : State) : (s.dropOldest).mgmt = s.mgmt := rfl
@[simp] theorem State.dropOldest_freeCount (s : State) : (s.dropOldest).freeCount = s.freeCount := rfl
@[simp] theorem State.dropOldest_pending (s : State) : (s.dropOldest).pending = s.pending := rfl

@[simp] theorem State.clearGroupFault_powered (k : Nat) (s : State) : (State.clearGroupFault k s).powered = s.powered := by
  simp only [State.clearGroupFault]; split <;> rfl
@[simp] theorem State.clearGroupFault_nodeId (k : Nat) (s : State) : (State.clearGroupFault k s).nodeId = s.nodeId := by
  simp only [State.clearGroupFault]; split <;> rfl
@[simp] theorem State.clearGroupFault_strap (k : Nat) (s : State) : (State.clearGroupFault k s).strap = s.strap := by
  simp only [State.clearGroupFault]; split <;> rfl
@[simp] theorem State.clearGroupFault_portA (k : Nat) (s : State) : (State.clearGroupFault k s).portA = s.portA := by
  simp only [State.clearGroupFault]; split <;> rfl
@[simp] theorem State.clearGroupFault_portB (k : Nat) (s : State) : (State.clearGroupFault k s).portB = s.portB := by
  simp only [State.clearGroupFault]; split <;> rfl
@[simp] theorem State.clearGroupFault_delivered (k : Nat) (s : State) : (State.clearGroupFault k s).delivered = s.delivered := by
  simp only [State.clearGroupFault]; split <;> rfl
@[simp] theorem State.clearGroupFault_census (k : Nat) (s : State) : (State.clearGroupFault k s).census = s.census := by
  simp only [State.clearGroupFault]; split <;> rfl
@[simp] theorem State.clearGroupFault_line (k : Nat) (s : State) : (State.clearGroupFault k s).line = s.line := by
  simp only [State.clearGroupFault]; split <;> rfl
@[simp] theorem State.clearGroupFault_doors (k : Nat) (s : State) : (State.clearGroupFault k s).doors = s.doors := by
  simp only [State.clearGroupFault]; split <;> rfl
@[simp] theorem State.clearGroupFault_summary (k : Nat) (s : State) : (State.clearGroupFault k s).summary = s.summary := by
  simp only [State.clearGroupFault]; split <;> rfl
@[simp] theorem State.clearGroupFault_alloc (k : Nat) (s : State) : (State.clearGroupFault k s).alloc = s.alloc := by
  simp only [State.clearGroupFault]; split <;> rfl
@[simp] theorem State.clearGroupFault_events (k : Nat) (s : State) : (State.clearGroupFault k s).events = s.events := by
  simp only [State.clearGroupFault]; split <;> rfl
@[simp] theorem State.clearGroupFault_notices (k : Nat) (s : State) : (State.clearGroupFault k s).notices = s.notices := by
  simp only [State.clearGroupFault]; split <;> rfl
@[simp] theorem State.clearGroupFault_mgmt (k : Nat) (s : State) : (State.clearGroupFault k s).mgmt = s.mgmt := by
  simp only [State.clearGroupFault]; split <;> rfl
@[simp] theorem State.clearGroupFault_link (k : Nat) (s : State) : (State.clearGroupFault k s).link = s.link := by
  simp only [State.clearGroupFault]; split <;> rfl
@[simp] theorem State.clearGroupFault_freeCount (k : Nat) (s : State) : (State.clearGroupFault k s).freeCount = s.freeCount := by
  simp only [State.clearGroupFault]; split <;> rfl
@[simp] theorem State.clearGroupFault_pending (k : Nat) (s : State) : (State.clearGroupFault k s).pending = s.pending := by
  simp only [State.clearGroupFault]; split <;> rfl

/-! ## Standing is read from the census alone -/

theorem State.settled_congr (h : t.census = s.census) : t.settled = s.settled := by simp [State.settled, h]
theorem State.isLead_congr (h : t.census = s.census) : t.isLead = s.isLead := by simp [State.isLead, h]
theorem State.holding_congr (h : t.census = s.census) : t.holding = s.holding := by simp [State.holding, h]

end Sys2Proof.Machine
end

