-- ==== Sys2Proof/Laws/Ops.lean ====
section
/-! SUPPORT. What the operations that every block shares can do: counting, raising a condition, sending a frame or a message change the
transmitters and queues of MATED ports, the counters, the raw flags and the transmit side of the coach link, and nothing else. -/

namespace Sys2Proof.Machine

/-! ## Ports and queues -/

/-- What sending by a port can change: its transmitter and queues, and those only where the end is MATED. -/
structure PortQuiet (x y : LinePort) : Prop where
  pilot : y.pilot = x.pilot
  good : y.good = x.good
  bad : y.bad = x.bad
  edges : y.edges = x.edges
  rx : y.rx = x.rx
  tone : y.tone = x.tone
  parted : x.pilot ≠ .mated → y = x

theorem PortQuiet.refl (x : LinePort) : PortQuiet x x := ⟨rfl, rfl, rfl, rfl, rfl, rfl, fun _ => rfl⟩

theorem PortQuiet.trans {x y z : LinePort} (h : PortQuiet x y) (k : PortQuiet y z) : PortQuiet x z :=
  ⟨k.pilot.trans h.pilot, k.good.trans h.good, k.bad.trans h.bad, k.edges.trans h.edges, k.rx.trans h.rx, k.tone.trans h.tone,
    fun n => (k.parted (by rw [h.pilot]; exact n)).trans (h.parted n)⟩

/-- Taking the next frame: nothing, or the head of a queue into an idle transmitter of a MATED end (R28). -/
theorem LinePort.takeNext_cases (x : LinePort) :
    x.takeNext = x ∨ (x.pilot = .mated ∧ x.tx = none ∧ ∃ f q, x.urgentQ = f :: q ∧ x.takeNext = { x with tx := some f, urgentQ := q }) ∨
      (x.pilot = .mated ∧ x.tx = none ∧ x.urgentQ = [] ∧ ∃ f q, x.normalQ = f :: q ∧ x.takeNext = { x with tx := some f, normalQ := q }) := by
  unfold LinePort.takeNext
  split
  · rename_i h
    split
    · rename_i f q hu; exact .inr (.inl ⟨h.1, h.2, f, q, hu, rfl⟩)
    · rename_i f q hu hn; exact .inr (.inr ⟨h.1, h.2, hu, f, q, hn, rfl⟩)
    · exact .inl rfl
  · exact .inl rfl

theorem LinePort.takeNext_quiet (x : LinePort) : PortQuiet x x.takeNext := by
  rcases x.takeNext_cases with h | ⟨hm, _, f, q, _, h⟩ | ⟨hm, _, _, f, q, _, h⟩ <;> rw [h]
  · exact PortQuiet.refl x
  · exact ⟨rfl, rfl, rfl, rfl, rfl, rfl, fun n => absurd hm n⟩
  · exact ⟨rfl, rfl, rfl, rfl, rfl, rfl, fun n => absurd hm n⟩

/-- A frame that enters a queue changes the transmitter and queues of its port only (R27, R28). -/
theorem LinePort.enqueue_quiet {x y : LinePort} {u : Bool} {f : Frame} (hm : x.pilot = .mated) (h : x.enqueue u f = some y) :
    PortQuiet x y := by
  unfold LinePort.enqueue at h
  split at h <;> split at h <;> simp only [Option.some.injEq, reduceCtorEq] at h <;> subst h
  · exact PortQuiet.trans (y := { x with urgentQ := x.urgentQ ++ [f] }) ⟨rfl, rfl, rfl, rfl, rfl, rfl, fun n => absurd hm n⟩
      (LinePort.takeNext_quiet _)
  · exact PortQuiet.trans (y := { x with normalQ := x.normalQ ++ [f] }) ⟨rfl, rfl, rfl, rfl, rfl, rfl, fun n => absurd hm n⟩
      (LinePort.takeNext_quiet _)

/-! ## Quiet operations -/

/-- What counting, raising and sending leave as it was, and what they may change. -/
structure Quiet (s t : State) : Prop where
  powered : t.powered = s.powered
  nodeId : t.nodeId = s.nodeId
  strap : t.strap = s.strap
  delivered : t.delivered = s.delivered
  census : t.census = s.census
  line : t.line = s.line
  doors : t.doors = s.doors
  summary : t.summary = s.summary
  heater : t.heater = s.heater
  alloc : t.alloc = s.alloc
  sense : t.sense = s.sense
  mgmt : t.mgmt = s.mgmt
  freeCount : t.freeCount = s.freeCount
  pending : t.pending = s.pending
  portA : PortQuiet s.portA t.portA
  portB : PortQuiet s.portB t.portB
  size : t.events.counters.length = s.events.counters.length
  enable : t.notices.enable = s.notices.enable
  flags : ∀ f, hasFlag s.notices.flags f = true → hasFlag t.notices.flags f = true
  asm : t.link.asm = s.link.asm
  rx : t.link.rx = s.link.rx
  reserved : t.link.reserved = s.link.reserved

theorem Quiet.refl (s : State) : Quiet s s :=
  ⟨rfl, rfl, rfl, rfl, rfl, rfl, rfl, rfl, rfl, rfl, rfl, rfl, rfl, rfl, PortQuiet.refl _, PortQuiet.refl _, rfl, rfl, fun _ h => h, rfl, rfl, rfl⟩

theorem Quiet.trans {s t u : State} (h : Quiet s t) (k : Quiet t u) : Quiet s u :=
  ⟨k.powered.trans h.powered, k.nodeId.trans h.nodeId, k.strap.trans h.strap, k.delivered.trans h.delivered, k.census.trans h.census, k.line.trans h.line, k.doors.trans h.doors, k.summary.trans h.summary, k.heater.trans h.heater, k.alloc.trans h.alloc, k.sense.trans h.sense, k.mgmt.trans h.mgmt, k.freeCount.trans h.freeCount, k.pending.trans h.pending,
    h.portA.trans k.portA, h.portB.trans k.portB, k.size.trans h.size, k.enable.trans h.enable, fun f x => k.flags f (h.flags f x),
    k.asm.trans h.asm, k.rx.trans h.rx, k.reserved.trans h.reserved⟩

theorem Quiet.port {s t : State} (h : Quiet s t) (p : Port) : PortQuiet (s.port p) (t.port p) := by
  cases p
  · exact h.portA
  · exact h.portB

theorem Quiet.mated {s t : State} (h : Quiet s t) (p : Port) : t.mated p = s.mated p := by
  simp only [State.mated, (h.port p).pilot]

theorem Quiet.setPort {s : State} {p : Port} {x : LinePort} (h : PortQuiet (s.port p) x) : Quiet s (s.setPort p x) := by
  cases p
  · exact ⟨rfl, rfl, rfl, rfl, rfl, rfl, rfl, rfl, rfl, rfl, rfl, rfl, rfl, rfl, h, PortQuiet.refl _, rfl, rfl, fun _ h => h, rfl, rfl, rfl⟩
  · exact ⟨rfl, rfl, rfl, rfl, rfl, rfl, rfl, rfl, rfl, rfl, rfl, rfl, rfl, rfl, PortQuiet.refl _, h, rfl, rfl, fun _ h => h, rfl, rfl, rfl⟩

variable {count : Nat → State → State}

theorem State.offer_quiet (hc : ∀ c s, Quiet s (count c s)) {p : Port} {u : Bool} {f : Frame} {s : State} (hm : s.mated p = true) :
    Quiet s (s.offer count p u f) := by
  have hm' : (s.port p).pilot = .mated := by simpa [State.mated] using hm
  unfold State.offer
  split
  · rename_i h; exact Quiet.setPort (LinePort.enqueue_quiet hm' h)
  · exact hc _ _

theorem State.sendOne_quiet (hc : ∀ c s, Quiet s (count c s)) (p : Port) (u : Bool) (f : Frame) (s : State) :
    Quiet s (s.sendOne count p u f) := by
  unfold State.sendOne
  split
  · rename_i h; exact State.offer_quiet hc h
  · split
    · exact Quiet.refl s
    · exact hc _ _

theorem State.sendCopy_quiet (hc : ∀ c s, Quiet s (count c s)) (p : Port) (u : Bool) (f : Frame) (s : State) :
    Quiet s (s.sendCopy count p u f) := by
  unfold State.sendCopy
  split
  · rename_i h; exact State.offer_quiet hc h
  · exact Quiet.refl s

theorem State.originateWith_quiet (hc : ∀ c s, Quiet s (count c s)) (m : Sending) (l : Leave) (s : State) :
    Quiet s (s.originateWith count m l) := by
  unfold State.originateWith
  split
  · exact Quiet.refl s
  · dsimp only
    split
    · exact State.sendOne_quiet hc _ _ _ _
    · exact Quiet.trans (State.sendCopy_quiet hc _ _ _ _) (State.sendCopy_quiet hc _ _ _ _)

theorem Link.start_keeps (l : Link) : l.start.asm = l.asm ∧ l.start.rx = l.rx ∧ l.start.reserved = l.reserved := by
  unfold Link.start
  split
  · split <;> exact ⟨rfl, rfl, rfl⟩
  · exact ⟨rfl, rfl, rfl⟩

theorem State.offerMessage_quiet (hc : ∀ c s, Quiet s (count c s)) (m : Message) (s : State) : Quiet s (s.offerMessage count m) := by
  unfold State.offerMessage
  split
  · have h := Link.start_keeps { s.link with txQ := s.link.txQ ++ [m] }
    exact ⟨rfl, rfl, rfl, rfl, rfl, rfl, rfl, rfl, rfl, rfl, rfl, rfl, rfl, rfl, PortQuiet.refl _, PortQuiet.refl _, rfl, rfl, fun _ h => h, h.1, h.2.1, h.2.2⟩
  · exact hc _ _

theorem State.sendNotice_quiet (hc : ∀ c s, Quiet s (count c s)) (f : Flag) (s : State) : Quiet s (s.sendNotice count f) := by
  unfold State.sendNotice
  dsimp only
  split
  · exact State.offerMessage_quiet hc _ _
  · exact Quiet.trans (State.offerMessage_quiet hc _ _) (State.originateWith_quiet hc _ _ _)

theorem State.setFlag_quiet (f : Flag) (s : State) : Quiet s (s.setFlag f) :=
  ⟨rfl, rfl, rfl, rfl, rfl, rfl, rfl, rfl, rfl, rfl, rfl, rfl, rfl, rfl, PortQuiet.refl _, PortQuiet.refl _, rfl, rfl, fun g h => by
      simp only [State.setFlag, hasFlag, BitVec.getLsbD_or, Bool.or_eq_true] at h ⊢; exact .inl h, rfl, rfl, rfl⟩

theorem Events.bump_size (e : Events) (c : Nat) : (e.bump c).counters.length = e.counters.length := by
  unfold Events.bump
  split
  · exact List.length_modify ..
  · rfl

theorem State.countWith_quiet {raise : Flag → State → State} (hr : ∀ f s, Quiet s (raise f s)) (c : Nat) (s : State) :
    Quiet s (State.countWith raise c s) := by
  have h0 : Quiet s { s with events := s.events.bump c } :=
    ⟨rfl, rfl, rfl, rfl, rfl, rfl, rfl, rfl, rfl, rfl, rfl, rfl, rfl, rfl, PortQuiet.refl _, PortQuiet.refl _, Events.bump_size _ _, rfl, fun _ h => h, rfl, rfl, rfl⟩
  unfold State.countWith
  dsimp only
  by_cases h1 : c < s.events.counters.length
  · rw [if_pos h1]
    split
    · exact h0.trans (hr _ _)
    · exact h0
  · rw [if_neg h1]
    split
    · exact (h0.trans (hr _ _)).trans (hr _ _)
    · exact h0.trans (hr _ _)

theorem State.raiseFuel_quiet : ∀ (n : Nat) (f : Flag) (s : State), Quiet s (State.raiseFuel n f s)
  | 0, f, s => State.setFlag_quiet f s
  | n + 1, f, s => by
    unfold State.raiseFuel
    split
    · exact Quiet.refl s
    · split
      · exact (State.setFlag_quiet f s).trans (State.sendNotice_quiet (fun c s => State.countWith_quiet (State.raiseFuel_quiet n) c s) f _)
      · exact State.setFlag_quiet f s

/-- A condition that arises (R168, R169) is quiet. -/
theorem State.raise_quiet (f : Flag) (s : State) : Quiet s (s.raise f) := State.raiseFuel_quiet 3 f s

/-- A counted event (R164) is quiet. -/
theorem State.count_quiet (c : Nat) (s : State) : Quiet s (s.count c) := State.countWith_quiet State.raise_quiet c s

theorem State.countTimes_quiet : ∀ (n c : Nat) (s : State), Quiet s (State.countTimes n c s)
  | 0, _, s => Quiet.refl s
  | n + 1, c, s => (State.count_quiet c s).trans (State.countTimes_quiet n c _)

/-- An originated frame (R26) is quiet. -/
theorem State.originate_quiet (m : Sending) (l : Leave) (s : State) : Quiet s (s.originate m l) :=
  State.originateWith_quiet State.count_quiet m l s

/-- A message offered to the coach link (R180) is quiet. -/
theorem State.pushMessage_quiet (m : Message) (s : State) : Quiet s (s.pushMessage m) := State.offerMessage_quiet State.count_quiet m s

theorem State.seeTopology_quiet (s : State) : Quiet s s.seeTopology := (State.count_quiet 6 s).trans (State.raise_quiet _ _)

theorem State.sendTopologyChange_quiet (k : TopologyKind) (s : State) : Quiet s (s.sendTopologyChange k) := by
  unfold State.sendTopologyChange
  dsimp only
  split
  · split <;> exact State.originate_quiet _ _ _
  · exact State.originate_quiet _ _ _

theorem State.toLead_quiet (m : Sending) (s : State) : Quiet s (s.toLead m) := by
  unfold State.toLead
  split
  · exact State.originate_quiet _ _ _
  · exact Quiet.refl s

theorem State.relayFrame_quiet (p : Port) (u : Bool) (f : Frame) (s : State) : Quiet s (s.relayFrame p u f) :=
  State.sendOne_quiet State.count_quiet _ _ _ _

theorem State.countClass_quiet (cls : Nat) (s : State) : Quiet s (s.countClass cls) := by
  unfold State.countClass
  split
  · exact State.count_quiet _ _
  · exact Quiet.refl s

/-! ## What the quiet operations leave, field by field -/

@[simp] theorem State.raise_powered (f : Flag) (s : State) : (State.raise f s).powered = s.powered := (State.raise_quiet f s).powered
@[simp] theorem State.raise_nodeId (f : Flag) (s : State) : (State.raise f s).nodeId = s.nodeId := (State.raise_quiet f s).nodeId
@[simp] theorem State.raise_strap (f : Flag) (s : State) : (State.raise f s).strap = s.strap := (State.raise_quiet f s).strap
@[simp] theorem State.raise_delivered (f : Flag) (s : State) : (State.raise f s).delivered = s.delivered := (State.raise_quiet f s).delivered
@[simp] theorem State.raise_census (f : Flag) (s : State) : (State.raise f s).census = s.census := (State.raise_quiet f s).census
@[simp] theorem State.raise_line (f : Flag) (s : State) : (State.raise f s).line = s.line := (State.raise_quiet f s).line
@[simp] theorem State.raise_doors (f : Flag) (s : State) : (State.raise f s).doors = s.doors := (State.raise_quiet f s).doors
@[simp] theorem State.raise_summary (f : Flag) (s : State) : (State.raise f s).summary = s.summary := (State.raise_quiet f s).summary
@[simp] theorem State.raise_heater (f : Flag) (s : State) : (State.raise f s).heater = s.heater := (State.raise_quiet f s).heater
@[simp] theorem State.raise_alloc (f : Flag) (s : State) : (State.raise f s).alloc = s.alloc := (State.raise_quiet f s).alloc
@[simp] theorem State.raise_sense (f : Flag) (s : State) : (State.raise f s).sense = s.sense := (State.raise_quiet f s).sense
@[simp] theorem State.raise_mgmt (f : Flag) (s : State) : (State.raise f s).mgmt = s.mgmt := (State.raise_quiet f s).mgmt
@[simp] theorem State.raise_freeCount (f : Flag) (s : State) : (State.raise f s).freeCount = s.freeCount := (State.raise_quiet f s).freeCount
@[simp] theorem State.raise_pending (f : Flag) (s : State) : (State.raise f s).pending = s.pending := (State.raise_quiet f s).pending
@[simp] theorem State.raise_mated (f : Flag) (s : State) (q : Port) : (State.raise f s).mated q = s.mated q := (State.raise_quiet f s).mated q
@[simp] theorem State.raise_rx (f : Flag) (s : State) : (State.raise f s).link.rx = s.link.rx := (State.raise_quiet f s).rx
@[simp] theorem State.raise_reserved (f : Flag) (s : State) : (State.raise f s).link.reserved = s.link.reserved := (State.raise_quiet f s).reserved
@[simp] theorem State.raise_size (f : Flag) (s : State) : (State.raise f s).events.counters.length = s.events.counters.length := (State.raise_quiet f s).size

@[simp] theorem State.count_powered (c : Nat) (s : State) : (State.count c s).powered = s.powered := (State.count_quiet c s).powered
@[simp] theorem State.count_nodeId (c : Nat) (s : State) : (State.count c s).nodeId = s.nodeId := (State.count_quiet c s).nodeId
@[simp] theorem State.count_strap (c : Nat) (s : State) : (State.count c s).strap = s.strap := (State.count_quiet c s).strap
@[simp] theorem State.count_delivered (c : Nat) (s : State) : (State.count c s).delivered = s.delivered := (State.count_quiet c s).delivered
@[simp] theorem State.count_census (c : Nat) (s : State) : (State.count c s).census = s.census := (State.count_quiet c s).census
@[simp] theorem State.count_line (c : Nat) (s : State) : (State.count c s).line = s.line := (State.count_quiet c s).line
@[simp] theorem State.count_doors (c : Nat) (s : State) : (State.count c s).doors = s.doors := (State.count_quiet c s).doors
@[simp] theorem State.count_summary (c : Nat) (s : State) : (State.count c s).summary = s.summary := (State.count_quiet c s).summary
@[simp] theorem State.count_heater (c : Nat) (s : State) : (State.count c s).heater = s.heater := (State.count_quiet c s).heater
@[simp] theorem State.count_alloc (c : Nat) (s : State) : (State.count c s).alloc = s.alloc := (State.count_quiet c s).alloc
@[simp] theorem State.count_sense (c : Nat) (s : State) : (State.count c s).sense = s.sense := (State.count_quiet c s).sense
@[simp] theorem State.count_mgmt (c : Nat) (s : State) : (State.count c s).mgmt = s.mgmt := (State.count_quiet c s).mgmt
@[simp] theorem State.count_freeCount (c : Nat) (s : State) : (State.count c s).freeCount = s.freeCount := (State.count_quiet c s).freeCount
@[simp] theorem State.count_pending (c : Nat) (s : State) : (State.count c s).pending = s.pending := (State.count_quiet c s).pending
@[simp] theorem State.count_mated (c : Nat) (s : State) (q : Port) : (State.count c s).mated q = s.mated q := (State.count_quiet c s).mated q
@[simp] theorem State.count_rx (c : Nat) (s : State) : (State.count c s).link.rx = s.link.rx := (State.count_quiet c s).rx
@[simp] theorem State.count_reserved (c : Nat) (s : State) : (State.count c s).link.reserved = s.link.reserved := (State.count_quiet c s).reserved
@[simp] theorem State.count_size (c : Nat) (s : State) : (State.count c s).events.counters.length = s.events.counters.length := (State.count_quiet c s).size

@[simp] theorem State.countTimes_powered (n c : Nat) (s : State) : (State.countTimes n c s).powered = s.powered := (State.countTimes_quiet n c s).powered
@[simp] theorem State.countTimes_nodeId (n c : Nat) (s : State) : (State.countTimes n c s).nodeId = s.nodeId := (State.countTimes_quiet n c s).nodeId
@[simp] theorem State.countTimes_strap (n c : Nat) (s : State) : (State.countTimes n c s).strap = s.strap := (State.countTimes_quiet n c s).strap
@[simp] theorem State.countTimes_delivered (n c : Nat) (s : State) : (State.countTimes n c s).delivered = s.delivered := (State.countTimes_quiet n c s).delivered
@[simp] theorem State.countTimes_census (n c : Nat) (s : State) : (State.countTimes n c s).census = s.census := (State.countTimes_quiet n c s).census
@[simp] theorem State.countTimes_line (n c : Nat) (s : State) : (State.countTimes n c s).line = s.line := (State.countTimes_quiet n c s).line
@[simp] theorem State.countTimes_doors (n c : Nat) (s : State) : (State.countTimes n c s).doors = s.doors := (State.countTimes_quiet n c s).doors
@[simp] theorem State.countTimes_summary (n c : Nat) (s : State) : (State.countTimes n c s).summary = s.summary := (State.countTimes_quiet n c s).summary
@[simp] theorem State.countTimes_heater (n c : Nat) (s : State) : (State.countTimes n c s).heater = s.heater := (State.countTimes_quiet n c s).heater
@[simp] theorem State.countTimes_alloc (n c : Nat) (s : State) : (State.countTimes n c s).alloc = s.alloc := (State.countTimes_quiet n c s).alloc
@[simp] theorem State.countTimes_sense (n c : Nat) (s : State) : (State.countTimes n c s).sense = s.sense := (State.countTimes_quiet n c s).sense
@[simp] theorem State.countTimes_mgmt (n c : Nat) (s : State) : (State.countTimes n c s).mgmt = s.mgmt := (State.countTimes_quiet n c s).mgmt
@[simp] theorem State.countTimes_freeCount (n c : Nat) (s : State) : (State.countTimes n c s).freeCount = s.freeCount := (State.countTimes_quiet n c s).freeCount
@[simp] theorem State.countTimes_pending (n c : Nat) (s : State) : (State.countTimes n c s).pending = s.pending := (State.countTimes_quiet n c s).pending
@[simp] theorem State.countTimes_mated (n c : Nat) (s : State) (q : Port) : (State.countTimes n c s).mated q = s.mated q := (State.countTimes_quiet n c s).mated q
@[simp] theorem State.countTimes_rx (n c : Nat) (s : State) : (State.countTimes n c s).link.rx = s.link.rx := (State.countTimes_quiet n c s).rx
@[simp] theorem State.countTimes_reserved (n c : Nat) (s : State) : (State.countTimes n c s).link.reserved = s.link.reserved := (State.countTimes_quiet n c s).reserved
@[simp] theorem State.countTimes_size (n c : Nat) (s : State) : (State.countTimes n c s).events.counters.length = s.events.counters.length := (State.countTimes_quiet n c s).size

@[simp] theorem State.originate_powered (m : Sending) (l : Leave) (s : State) : (State.originate m l s).powered = s.powered := (State.originate_quiet m l s).powered
@[simp] theorem State.originate_nodeId (m : Sending) (l : Leave) (s : State) : (State.originate m l s).nodeId = s.nodeId := (State.originate_quiet m l s).nodeId
@[simp] theorem State.originate_strap (m : Sending) (l : Leave) (s : State) : (State.originate m l s).strap = s.strap := (State.originate_quiet m l s).strap
@[simp] theorem State.originate_delivered (m : Sending) (l : Leave) (s : State) : (State.originate m l s).delivered = s.delivered := (State.originate_quiet m l s).delivered
@[simp] theorem State.originate_census (m : Sending) (l : Leave) (s : State) : (State.originate m l s).census = s.census := (State.originate_quiet m l s).census
@[simp] theorem State.originate_line (m : Sending) (l : Leave) (s : State) : (State.originate m l s).line = s.line := (State.originate_quiet m l s).line
@[simp] theorem State.originate_doors (m : Sending) (l : Leave) (s : State) : (State.originate m l s).doors = s.doors := (State.originate_quiet m l s).doors
@[simp] theorem State.originate_summary (m : Sending) (l : Leave) (s : State) : (State.originate m l s).summary = s.summary := (State.originate_quiet m l s).summary
@[simp] theorem State.originate_heater (m : Sending) (l : Leave) (s : State) : (State.originate m l s).heater = s.heater := (State.originate_quiet m l s).heater
@[simp] theorem State.originate_alloc (m : Sending) (l : Leave) (s : State) : (State.originate m l s).alloc = s.alloc := (State.originate_quiet m l s).alloc
@[simp] theorem State.originate_sense (m : Sending) (l : Leave) (s : State) : (State.originate m l s).sense = s.sense := (State.originate_quiet m l s).sense
@[simp] theorem State.originate_mgmt (m : Sending) (l : Leave) (s : State) : (State.originate m l s).mgmt = s.mgmt := (State.originate_quiet m l s).mgmt
@[simp] theorem State.originate_freeCount (m : Sending) (l : Leave) (s : State) : (State.originate m l s).freeCount = s.freeCount := (State.originate_quiet m l s).freeCount
@[simp] theorem State.originate_pending (m : Sending) (l : Leave) (s : State) : (State.originate m l s).pending = s.pending := (State.originate_quiet m l s).pending
@[simp] theorem State.originate_mated (m : Sending) (l : Leave) (s : State) (q : Port) : (State.originate m l s).mated q = s.mated q := (State.originate_quiet m l s).mated q
@[simp] theorem State.originate_rx (m : Sending) (l : Leave) (s : State) : (State.originate m l s).link.rx = s.link.rx := (State.originate_quiet m l s).rx
@[simp] theorem State.originate_reserved (m : Sending) (l : Leave) (s : State) : (State.originate m l s).link.reserved = s.link.reserved := (State.originate_quiet m l s).reserved
@[simp] theorem State.originate_size (m : Sending) (l : Leave) (s : State) : (State.originate m l s).events.counters.length = s.events.counters.length := (State.originate_quiet m l s).size

@[simp] theorem State.pushMessage_powered (m : Message) (s : State) : (State.pushMessage m s).powered = s.powered := (State.pushMessage_quiet m s).powered
@[simp] theorem State.pushMessage_nodeId (m : Message) (s : State) : (State.pushMessage m s).nodeId = s.nodeId := (State.pushMessage_quiet m s).nodeId
@[simp] theorem State.pushMessage_strap (m : Message) (s : State) : (State.pushMessage m s).strap = s.strap := (State.pushMessage_quiet m s).strap
@[simp] theorem State.pushMessage_delivered (m : Message) (s : State) : (State.pushMessage m s).delivered = s.delivered := (State.pushMessage_quiet m s).delivered
@[simp] theorem State.pushMessage_census (m : Message) (s : State) : (State.pushMessage m s).census = s.census := (State.pushMessage_quiet m s).census
@[simp] theorem State.pushMessage_line (m : Message) (s : State) : (State.pushMessage m s).line = s.line := (State.pushMessage_quiet m s).line
@[simp] theorem State.pushMessage_doors (m : Message) (s : State) : (State.pushMessage m s).doors = s.doors := (State.pushMessage_quiet m s).doors
@[simp] theorem State.pushMessage_summary (m : Message) (s : State) : (State.pushMessage m s).summary = s.summary := (State.pushMessage_quiet m s).summary
@[simp] theorem State.pushMessage_heater (m : Message) (s : State) : (State.pushMessage m s).heater = s.heater := (State.pushMessage_quiet m s).heater
@[simp] theorem State.pushMessage_alloc (m : Message) (s : State) : (State.pushMessage m s).alloc = s.alloc := (State.pushMessage_quiet m s).alloc
@[simp] theorem State.pushMessage_sense (m : Message) (s : State) : (State.pushMessage m s).sense = s.sense := (State.pushMessage_quiet m s).sense
@[simp] theorem State.pushMessage_mgmt (m : Message) (s : State) : (State.pushMessage m s).mgmt = s.mgmt := (State.pushMessage_quiet m s).mgmt
@[simp] theorem State.pushMessage_freeCount (m : Message) (s : State) : (State.pushMessage m s).freeCount = s.freeCount := (State.pushMessage_quiet m s).freeCount
@[simp] theorem State.pushMessage_pending (m : Message) (s : State) : (State.pushMessage m s).pending = s.pending := (State.pushMessage_quiet m s).pending
@[simp] theorem State.pushMessage_mated (m : Message) (s : State) (q : Port) : (State.pushMessage m s).mated q = s.mated q := (State.pushMessage_quiet m s).mated q
@[simp] theorem State.pushMessage_rx (m : Message) (s : State) : (State.pushMessage m s).link.rx = s.link.rx := (State.pushMessage_quiet m s).rx
@[simp] theorem State.pushMessage_reserved (m : Message) (s : State) : (State.pushMessage m s).link.reserved = s.link.reserved := (State.pushMessage_quiet m s).reserved
@[simp] theorem State.pushMessage_size (m : Message) (s : State) : (State.pushMessage m s).events.counters.length = s.events.counters.length := (State.pushMessage_quiet m s).size

@[simp] theorem State.seeTopology_powered (s : State) : (State.seeTopology s).powered = s.powered := (State.seeTopology_quiet s).powered
@[simp] theorem State.seeTopology_nodeId (s : State) : (State.seeTopology s).nodeId = s.nodeId := (State.seeTopology_quiet s).nodeId
@[simp] theorem State.seeTopology_strap (s : State) : (State.seeTopology s).strap = s.strap := (State.seeTopology_quiet s).strap
@[simp] theorem State.seeTopology_delivered (s : State) : (State.seeTopology s).delivered = s.delivered := (State.seeTopology_quiet s).delivered
@[simp] theorem State.seeTopology_census (s : State) : (State.seeTopology s).census = s.census := (State.seeTopology_quiet s).census
@[simp] theorem State.seeTopology_line (s : State) : (State.seeTopology s).line = s.line := (State.seeTopology_quiet s).line
@[simp] theorem State.seeTopology_doors (s : State) : (State.seeTopology s).doors = s.doors := (State.seeTopology_quiet s).doors
@[simp] theorem State.seeTopology_summary (s : State) : (State.seeTopology s).summary = s.summary := (State.seeTopology_quiet s).summary
@[simp] theorem State.seeTopology_heater (s : State) : (State.seeTopology s).heater = s.heater := (State.seeTopology_quiet s).heater
@[simp] theorem State.seeTopology_alloc (s : State) : (State.seeTopology s).alloc = s.alloc := (State.seeTopology_quiet s).alloc
@[simp] theorem State.seeTopology_sense (s : State) : (State.seeTopology s).sense = s.sense := (State.seeTopology_quiet s).sense
@[simp] theorem State.seeTopology_mgmt (s : State) : (State.seeTopology s).mgmt = s.mgmt := (State.seeTopology_quiet s).mgmt
@[simp] theorem State.seeTopology_freeCount (s : State) : (State.seeTopology s).freeCount = s.freeCount := (State.seeTopology_quiet s).freeCount
@[simp] theorem State.seeTopology_pending (s : State) : (State.seeTopology s).pending = s.pending := (State.seeTopology_quiet s).pending
@[simp] theorem State.seeTopology_mated (s : State) (q : Port) : (State.seeTopology s).mated q = s.mated q := (State.seeTopology_quiet s).mated q
@[simp] theorem State.seeTopology_rx (s : State) : (State.seeTopology s).link.rx = s.link.rx := (State.seeTopology_quiet s).rx
@[simp] theorem State.seeTopology_reserved (s : State) : (State.seeTopology s).link.reserved = s.link.reserved := (State.seeTopology_quiet s).reserved
@[simp] theorem State.seeTopology_size (s : State) : (State.seeTopology s).events.counters.length = s.events.counters.length := (State.seeTopology_quiet s).size

@[simp] theorem State.sendTopologyChange_powered (k : TopologyKind) (s : State) : (State.sendTopologyChange k s).powered = s.powered := (State.sendTopologyChange_quiet k s).powered
@[simp] theorem State.sendTopologyChange_nodeId (k : TopologyKind) (s : State) : (State.sendTopologyChange k s).nodeId = s.nodeId := (State.sendTopologyChange_quiet k s).nodeId
@[simp] theorem State.sendTopologyChange_strap (k : TopologyKind) (s : State) : (State.sendTopologyChange k s).strap = s.strap := (State.sendTopologyChange_quiet k s).strap
@[simp] theorem State.sendTopologyChange_delivered (k : TopologyKind) (s : State) : (State.sendTopologyChange k s).delivered = s.delivered := (State.sendTopologyChange_quiet k s).delivered
@[simp] theorem State.sendTopologyChange_census (k : TopologyKind) (s : State) : (State.sendTopologyChange k s).census = s.census := (State.sendTopologyChange_quiet k s).census
@[simp] theorem State.sendTopologyChange_line (k : TopologyKind) (s : State) : (State.sendTopologyChange k s).line = s.line := (State.sendTopologyChange_quiet k s).line
@[simp] theorem State.sendTopologyChange_doors (k : TopologyKind) (s : State) : (State.sendTopologyChange k s).doors = s.doors := (State.sendTopologyChange_quiet k s).doors
@[simp] theorem State.sendTopologyChange_summary (k : TopologyKind) (s : State) : (State.sendTopologyChange k s).summary = s.summary := (State.sendTopologyChange_quiet k s).summary
@[simp] theorem State.sendTopologyChange_heater (k : TopologyKind) (s : State) : (State.sendTopologyChange k s).heater = s.heater := (State.sendTopologyChange_quiet k s).heater
@[simp] theorem State.sendTopologyChange_alloc (k : TopologyKind) (s : State) : (State.sendTopologyChange k s).alloc = s.alloc := (State.sendTopologyChange_quiet k s).alloc
@[simp] theorem State.sendTopologyChange_sense (k : TopologyKind) (s : State) : (State.sendTopologyChange k s).sense = s.sense := (State.sendTopologyChange_quiet k s).sense
@[simp] theorem State.sendTopologyChange_mgmt (k : TopologyKind) (s : State) : (State.sendTopologyChange k s).mgmt = s.mgmt := (State.sendTopologyChange_quiet k s).mgmt
@[simp] theorem State.sendTopologyChange_freeCount (k : TopologyKind) (s : State) : (State.sendTopologyChange k s).freeCount = s.freeCount := (State.sendTopologyChange_quiet k s).freeCount
@[simp] theorem State.sendTopologyChange_pending (k : TopologyKind) (s : State) : (State.sendTopologyChange k s).pending = s.pending := (State.sendTopologyChange_quiet k s).pending
@[simp] theorem State.sendTopologyChange_mated (k : TopologyKind) (s : State) (q : Port) : (State.sendTopologyChange k s).mated q = s.mated q := (State.sendTopologyChange_quiet k s).mated q
@[simp] theorem State.sendTopologyChange_rx (k : TopologyKind) (s : State) : (State.sendTopologyChange k s).link.rx = s.link.rx := (State.sendTopologyChange_quiet k s).rx
@[simp] theorem State.sendTopologyChange_reserved (k : TopologyKind) (s : State) : (State.sendTopologyChange k s).link.reserved = s.link.reserved := (State.sendTopologyChange_quiet k s).reserved
@[simp] theorem State.sendTopologyChange_size (k : TopologyKind) (s : State) : (State.sendTopologyChange k s).events.counters.length = s.events.counters.length := (State.sendTopologyChange_quiet k s).size

@[simp] theorem State.toLead_powered (m : Sending) (s : State) : (State.toLead m s).powered = s.powered := (State.toLead_quiet m s).powered
@[simp] theorem State.toLead_nodeId (m : Sending) (s : State) : (State.toLead m s).nodeId = s.nodeId := (State.toLead_quiet m s).nodeId
@[simp] theorem State.toLead_strap (m : Sending) (s : State) : (State.toLead m s).strap = s.strap := (State.toLead_quiet m s).strap
@[simp] theorem State.toLead_delivered (m : Sending) (s : State) : (State.toLead m s).delivered = s.delivered := (State.toLead_quiet m s).delivered
@[simp] theorem State.toLead_census (m : Sending) (s : State) : (State.toLead m s).census = s.census := (State.toLead_quiet m s).census
@[simp] theorem State.toLead_line (m : Sending) (s : State) : (State.toLead m s).line = s.line := (State.toLead_quiet m s).line
@[simp] theorem State.toLead_doors (m : Sending) (s : State) : (State.toLead m s).doors = s.doors := (State.toLead_quiet m s).doors
@[simp] theorem State.toLead_summary (m : Sending) (s : State) : (State.toLead m s).summary = s.summary := (State.toLead_quiet m s).summary
@[simp] theorem State.toLead_heater (m : Sending) (s : State) : (State.toLead m s).heater = s.heater := (State.toLead_quiet m s).heater
@[simp] theorem State.toLead_alloc (m : Sending) (s : State) : (State.toLead m s).alloc = s.alloc := (State.toLead_quiet m s).alloc
@[simp] theorem State.toLead_sense (m : Sending) (s : State) : (State.toLead m s).sense = s.sense := (State.toLead_quiet m s).sense
@[simp] theorem State.toLead_mgmt (m : Sending) (s : State) : (State.toLead m s).mgmt = s.mgmt := (State.toLead_quiet m s).mgmt
@[simp] theorem State.toLead_freeCount (m : Sending) (s : State) : (State.toLead m s).freeCount = s.freeCount := (State.toLead_quiet m s).freeCount
@[simp] theorem State.toLead_pending (m : Sending) (s : State) : (State.toLead m s).pending = s.pending := (State.toLead_quiet m s).pending
@[simp] theorem State.toLead_mated (m : Sending) (s : State) (q : Port) : (State.toLead m s).mated q = s.mated q := (State.toLead_quiet m s).mated q
@[simp] theorem State.toLead_rx (m : Sending) (s : State) : (State.toLead m s).link.rx = s.link.rx := (State.toLead_quiet m s).rx
@[simp] theorem State.toLead_reserved (m : Sending) (s : State) : (State.toLead m s).link.reserved = s.link.reserved := (State.toLead_quiet m s).reserved
@[simp] theorem State.toLead_size (m : Sending) (s : State) : (State.toLead m s).events.counters.length = s.events.counters.length := (State.toLead_quiet m s).size

@[simp] theorem State.relayFrame_powered (p : Port) (u : Bool) (f : Frame) (s : State) : (State.relayFrame p u f s).powered = s.powered := (State.relayFrame_quiet p u f s).powered
@[simp] theorem State.relayFrame_nodeId (p : Port) (u : Bool) (f : Frame) (s : State) : (State.relayFrame p u f s).nodeId = s.nodeId := (State.relayFrame_quiet p u f s).nodeId
@[simp] theorem State.relayFrame_strap (p : Port) (u : Bool) (f : Frame) (s : State) : (State.relayFrame p u f s).strap = s.strap := (State.relayFrame_quiet p u f s).strap
@[simp] theorem State.relayFrame_delivered (p : Port) (u : Bool) (f : Frame) (s : State) : (State.relayFrame p u f s).delivered = s.delivered := (State.relayFrame_quiet p u f s).delivered
@[simp] theorem State.relayFrame_census (p : Port) (u : Bool) (f : Frame) (s : State) : (State.relayFrame p u f s).census = s.census := (State.relayFrame_quiet p u f s).census
@[simp] theorem State.relayFrame_line (p : Port) (u : Bool) (f : Frame) (s : State) : (State.relayFrame p u f s).line = s.line := (State.relayFrame_quiet p u f s).line
@[simp] theorem State.relayFrame_doors (p : Port) (u : Bool) (f : Frame) (s : State) : (State.relayFrame p u f s).doors = s.doors := (State.relayFrame_quiet p u f s).doors
@[simp] theorem State.relayFrame_summary (p : Port) (u : Bool) (f : Frame) (s : State) : (State.relayFrame p u f s).summary = s.summary := (State.relayFrame_quiet p u f s).summary
@[simp] theorem State.relayFrame_heater (p : Port) (u : Bool) (f : Frame) (s : State) : (State.relayFrame p u f s).heater = s.heater := (State.relayFrame_quiet p u f s).heater
@[simp] theorem State.relayFrame_alloc (p : Port) (u : Bool) (f : Frame) (s : State) : (State.relayFrame p u f s).alloc = s.alloc := (State.relayFrame_quiet p u f s).alloc
@[simp] theorem State.relayFrame_sense (p : Port) (u : Bool) (f : Frame) (s : State) : (State.relayFrame p u f s).sense = s.sense := (State.relayFrame_quiet p u f s).sense
@[simp] theorem State.relayFrame_mgmt (p : Port) (u : Bool) (f : Frame) (s : State) : (State.relayFrame p u f s).mgmt = s.mgmt := (State.relayFrame_quiet p u f s).mgmt
@[simp] theorem State.relayFrame_freeCount (p : Port) (u : Bool) (f : Frame) (s : State) : (State.relayFrame p u f s).freeCount = s.freeCount := (State.relayFrame_quiet p u f s).freeCount
@[simp] theorem State.relayFrame_pending (p : Port) (u : Bool) (f : Frame) (s : State) : (State.relayFrame p u f s).pending = s.pending := (State.relayFrame_quiet p u f s).pending
@[simp] theorem State.relayFrame_mated (p : Port) (u : Bool) (f : Frame) (s : State) (q : Port) : (State.relayFrame p u f s).mated q = s.mated q := (State.relayFrame_quiet p u f s).mated q
@[simp] theorem State.relayFrame_rx (p : Port) (u : Bool) (f : Frame) (s : State) : (State.relayFrame p u f s).link.rx = s.link.rx := (State.relayFrame_quiet p u f s).rx
@[simp] theorem State.relayFrame_reserved (p : Port) (u : Bool) (f : Frame) (s : State) : (State.relayFrame p u f s).link.reserved = s.link.reserved := (State.relayFrame_quiet p u f s).reserved
@[simp] theorem State.relayFrame_size (p : Port) (u : Bool) (f : Frame) (s : State) : (State.relayFrame p u f s).events.counters.length = s.events.counters.length := (State.relayFrame_quiet p u f s).size

@[simp] theorem State.countClass_powered (c : Nat) (s : State) : (State.countClass c s).powered = s.powered := (State.countClass_quiet c s).powered
@[simp] theorem State.countClass_nodeId (c : Nat) (s : State) : (State.countClass c s).nodeId = s.nodeId := (State.countClass_quiet c s).nodeId
@[simp] theorem State.countClass_strap (c : Nat) (s : State) : (State.countClass c s).strap = s.strap := (State.countClass_quiet c s).strap
@[simp] theorem State.countClass_delivered (c : Nat) (s : State) : (State.countClass c s).delivered = s.delivered := (State.countClass_quiet c s).delivered
@[simp] theorem State.countClass_census (c : Nat) (s : State) : (State.countClass c s).census = s.census := (State.countClass_quiet c s).census
@[simp] theorem State.countClass_line (c : Nat) (s : State) : (State.countClass c s).line = s.line := (State.countClass_quiet c s).line
@[simp] theorem State.countClass_doors (c : Nat) (s : State) : (State.countClass c s).doors = s.doors := (State.countClass_quiet c s).doors
@[simp] theorem State.countClass_summary (c : Nat) (s : State) : (State.countClass c s).summary = s.summary := (State.countClass_quiet c s).summary
@[simp] theorem State.countClass_heater (c : Nat) (s : State) : (State.countClass c s).heater = s.heater := (State.countClass_quiet c s).heater
@[simp] theorem State.countClass_alloc (c : Nat) (s : State) : (State.countClass c s).alloc = s.alloc := (State.countClass_quiet c s).alloc
@[simp] theorem State.countClass_sense (c : Nat) (s : State) : (State.countClass c s).sense = s.sense := (State.countClass_quiet c s).sense
@[simp] theorem State.countClass_mgmt (c : Nat) (s : State) : (State.countClass c s).mgmt = s.mgmt := (State.countClass_quiet c s).mgmt
@[simp] theorem State.countClass_freeCount (c : Nat) (s : State) : (State.countClass c s).freeCount = s.freeCount := (State.countClass_quiet c s).freeCount
@[simp] theorem State.countClass_pending (c : Nat) (s : State) : (State.countClass c s).pending = s.pending := (State.countClass_quiet c s).pending
@[simp] theorem State.countClass_mated (c : Nat) (s : State) (q : Port) : (State.countClass c s).mated q = s.mated q := (State.countClass_quiet c s).mated q
@[simp] theorem State.countClass_rx (c : Nat) (s : State) : (State.countClass c s).link.rx = s.link.rx := (State.countClass_quiet c s).rx
@[simp] theorem State.countClass_reserved (c : Nat) (s : State) : (State.countClass c s).link.reserved = s.link.reserved := (State.countClass_quiet c s).reserved
@[simp] theorem State.countClass_size (c : Nat) (s : State) : (State.countClass c s).events.counters.length = s.events.counters.length := (State.countClass_quiet c s).size

/-! ## Flags -/

theorem hasFlag_mask_self (f : Flag) : hasFlag f.mask f = true := by cases f <;> decide

theorem hasFlag_setFlag (f : Flag) (s : State) : hasFlag (s.setFlag f).notices.flags f = true := by
  have h := hasFlag_mask_self f
  simp only [hasFlag, State.setFlag, BitVec.getLsbD_or, Bool.or_eq_true] at h ⊢
  exact .inr h

/-- After a condition its flag is set (R168). -/
theorem State.raise_sets (f : Flag) (s : State) : hasFlag (s.raise f).notices.flags f = true := by
  unfold State.raise State.raiseFuel
  split
  · assumption
  · split
    · exact (State.sendNotice_quiet (fun c s => State.countWith_quiet (State.raiseFuel_quiet 2) c s) f _).flags f (hasFlag_setFlag f s)
    · exact hasFlag_setFlag f s

/-- A condition whose flag is set changes nothing (R168). -/
theorem State.raise_set {f : Flag} {s : State} (h : hasFlag s.notices.flags f = true) : s.raise f = s := by
  unfold State.raise State.raiseFuel
  rw [if_pos (show s.flagSet f = true from h)]

/-- A count at a code of the array, other than a drop of a frame, changes the counter array alone (R164). -/
theorem State.count_small {c : Nat} {s : State} (h : c < s.events.counters.length) (h2 : ¬(c = 2 ∨ c = 3 ∨ c = 4)) :
    s.count c = { s with events := s.events.bump c } := by
  unfold State.count State.countWith
  dsimp only
  rw [if_pos h, if_neg h2]

/-! ## Frames that wait for their block -/

/-- What the first delivery of a class is: a delivery of that class, with the others kept in order. -/
theorem takeClass_some {cls : Nat} {l : List Delivery} {d : Delivery} {rest : List Delivery} (h : takeClass cls l = some (d, rest)) :
    d.frame.cls = cls ∧ ∃ a b, l = a ++ d :: b ∧ rest = a ++ b ∧ ∀ x ∈ a, x.frame.cls ≠ cls := by
  induction l generalizing rest with
  | nil => simp [takeClass] at h
  | cons x xs ih =>
    unfold takeClass at h
    split at h
    · rename_i hx
      simp only [Option.some.injEq, Prod.mk.injEq] at h
      obtain ⟨rfl, rfl⟩ := h
      exact ⟨hx, [], xs, rfl, rfl, by simp⟩
    · rename_i hx
      split at h
      · rename_i y r hr
        simp only [Option.some.injEq, Prod.mk.injEq] at h
        obtain ⟨rfl, rfl⟩ := h
        obtain ⟨hc, a, b, hl, hrest, ha⟩ := ih hr
        refine ⟨hc, x :: a, b, by simp [hl], by simp [hrest], ?_⟩
        intro z hz
        rcases List.mem_cons.mp hz with rfl | hz
        · exact hx
        · exact ha z hz
      · simp at h

/-- A block that takes a frame acts on the state without it. -/
theorem State.takeDelivered_some {cls : Nat} {act : Delivery → State → State} {s : State} {d : Delivery} {rest : List Delivery}
    (h : takeClass cls s.delivered = some (d, rest)) : s.takeDelivered cls act = act d { s with delivered := rest } := by
  unfold State.takeDelivered; rw [h]

/-- Nothing happens when no frame of the class waits. -/
theorem State.takeDelivered_none {cls : Nat} {act : Delivery → State → State} {s : State} (h : takeClass cls s.delivered = none) :
    s.takeDelivered cls act = s := by
  unfold State.takeDelivered; rw [h]

theorem State.run_powered {s : State} (f : State → State) (h : s.powered = true) : s.run f = .next (f s) := by
  unfold State.run; rw [if_pos h]

theorem State.run_unpowered {s : State} (f : State → State) (h : s.powered = false) : s.run f = .next s := by
  unfold State.run; rw [if_neg (by simp [h])]

end Sys2Proof.Machine
end

