-- ==== Sys2Proof/Laws/Requests.lean ====
section
/-! SUPPORT. What serving a request over the coach link does, said once: a request judged to an answer on every state of the link leaves
the judged state with that answer's parts in the transmit queue. And what counting below the array size does. -/

namespace Sys2Proof.Machine

/-- A number below 256 is read back from its byte. -/
theorem byte_toNat_of_lt (n : Nat) (h : n < 256) : (byte n).toNat = n := by simp [byte]; omega

/-- A byte is the byte of its number. -/
@[simp] theorem byte_of_toNat (b : Byte) : byte b.toNat = b := by simp [byte]

/-- Two bytes are read back from the number they hold. -/
@[simp] theorem be16_u16 (h l : Byte) : be16 (u16 h l) = [h, l] := by
  have := h.isLt
  have := l.isLt
  simp only [be16, u16, byte, List.cons.injEq, and_true]
  refine ⟨?_, ?_⟩ <;> (apply BitVec.eq_of_toNat_eq; simp; omega)

/-- A reply has as many parts as its results have pieces. -/
@[simp] theorem replyParts_length (kind tag : Nat) (st : Status) (n : Nat) (ps : List (List Byte)) :
    (replyParts kind tag st n ps).length = ps.length := by
  induction ps generalizing n <;> simp_all [replyParts]

/-- An event of a code below the array size that drops no frame is counted in its counter and does nothing else (R164). -/
theorem count_counted (s : State) (code : Nat) (h : code < s.events.counters.length) (h2 : code ≠ 2) (h3 : code ≠ 3) (h4 : code ≠ 4) :
    s.count code = { s with events := s.events.bump code } := by
  simp [State.count, State.countWith, h, h2, h3, h4]

/-- A request that is judged to an answer whatever the link holds is served by that judgement, with the answer in the transmit queue. -/
theorem serve_asks (v : Service) (s t : State) (h l : Byte) (args : List Byte) (st : Status) (results : List Byte)
    (hv : v.code < 256) (hs : s.asks v.code h l args)
    (hj : ∀ k : Link, ({ s with link := k } : State).judge v .coachLink { kind := v.code, tag := u16 h l, args := args }
      = (.now st results, { t with link := k })) :
    s.serve .coachLink v = { t with link := (s.answered v.code h l st results).link } := by
  obtain ⟨hp, hr, hq, hb, hres, hsend⟩ := hs
  have h0 := hj s.link
  have e0 : ({ s with link := s.link } : State) = s := rfl
  rw [e0] at h0
  have hread : readRequest (byte v.code :: h :: l :: args) = some { kind := v.code, tag := u16 h l, args := args } := by
    simp [readRequest, byte_toNat_of_lt _ hv]
  have hfree : s.link.free = 8 := by simp [Link.free, hq, hres, Config.txPlaces]
  have hpl : (Answer.now st results).places ≤ 8 := by simp [Answer.places, Config.txPlaces]
  have e1 : ∀ n, ({ s.dropOldest with link := { s.dropOldest.link with reserved := n } } : State)
      = { s with link := { s.link with rx := [], reserved := n } } := by
    intro n
    simp [State.dropOldest, hr]
  simp only [State.serve, State.serveLink, hr, hread, h0, hfree, State.answer, if_true]
  rw [if_neg (by omega)]
  simp only [e1, hj, State.sendAnswer, State.sendReply, State.drainLink, Link.enterReply, Link.start]
  have e2 : ((replyPayloads v.code (u16 h l) st results linkPartBytes).map fun p => ({ kind := 0x81, payload := p } : Message)).take
      (Answer.now st results).places
      = ((replyPayloads v.code (u16 h l) st results linkPartBytes).map fun p => ({ kind := 0x81, payload := p } : Message)).take 8 := by
    rw [List.take_eq_take_iff]
    simp [replyPayloads, Answer.places, Config.txPlaces]
  have e3 : ((replyPayloads v.code (u16 h l) st results linkPartBytes).map fun p => ({ kind := 0x81, payload := p } : Message)).drop
      (Answer.now st results).places
      = ((replyPayloads v.code (u16 h l) st results linkPartBytes).map fun p => ({ kind := 0x81, payload := p } : Message)).drop 8 := by
    rw [List.drop_eq_drop_iff]
    simp [replyPayloads, Answer.places, Config.txPlaces]
  cases hsd : s.link.sending with
  | none => exact absurd hsd hsend
  | some m =>
    rw [e2, e3]
    simp [hq, hres, hb, State.answered, hsd, State.drainLinkFuel, State.dropOldest]

/-- The command of such a request answers that state. -/
theorem run_asks (v : Service) (s t : State) (h l : Byte) (args : List Byte) (st : Status) (results : List Byte)
    (hv : v.code < 256) (hs : s.asks v.code h l args)
    (hj : ∀ k : Link, ({ s with link := k } : State).judge v .coachLink { kind := v.code, tag := u16 h l, args := args }
      = (.now st results, { t with link := k })) :
    s.run (fun x => x.serve .coachLink v) = .next { t with link := (s.answered v.code h l st results).link } := by
  simp [State.run, hs.1, serve_asks v s t h l args st results hv hs hj]

end Sys2Proof.Machine
end

