-- ==== Sys2Proof/WellFormed.lean ====
section
/-! DEFINITION. When a command is well formed. The operands are typed, so that most ranges hold by construction (a port, a side, a
route, a level, a 12-bit code, bytes); one check is left: a coach link message completes when its last CRC byte has come in
(R179), so that COACH_LINK_MESSAGE_COMPLETE brings at least that byte. The meanings are total: they do not rest on this check. -/

namespace Sys2Proof

/-- Well-formed commands (R179: the completing byte is among the bytes brought). -/
def Instr.wellFormed : Instr → Bool
  | .coachLinkMessageComplete bytes => !bytes.isEmpty
  | .powerOn _ | .powerLoss | .pilotWindowClose _ _ | .lineFrameClosed _ _ _ | .lineTxComplete _
  | .censusCallTaken | .censusReturnTaken | .consistAnnounceTaken | .topologyChangeTaken | .beaconTaken
  | .doorOrderTaken | .doorStateTaken | .heatDemandTaken | .heatGrantTaken
  | .cabAssertionTaken | .cabReleaseTaken | .censusTimerExpiry | .surveyHoldExpiry
  | .cycleTick | .slotBoundary | .zspChangeTaken _ | .supervisionTimerExpiry
  | .doorCommand | .loopChangeTaken _ _ | .maximumReleaseTimeExpiry _ | .warningLeadTimeExpiry _
  | .closeTimeoutExpiry _ | .warningPhaseChange _ | .doorReport | .demand | .demandHoldExpiry
  | .pacerTick | .conversionComplete _ | .coachLinkByteTimeout _ | .coachLinkTxComplete
  | .identify _ | .readConsist _ | .readDoor _ | .readHeating _ | .readSense _ | .readCapture _
  | .readCounters _ | .readNotices _ | .clearCounters _ | .clearNotices _ | .setNoticeEnable _
  | .loadTable _ | .apply _ | .store _ | .storeWriteComplete | .setBudget _ | .setSense _ | .sample _
  | .startCapture _ | .stopCapture _ | .clearGroupFault _ | .recensus _ | .restart _
  | .restartTakesEffect _ | .coachLinkByteError _ => true

end Sys2Proof
end

