-- ==== Sys2Proof/Tests/Slice0.lean ====
section
/-! SUPPORT. Tests against the spec's own examples and check values, the smoke test of WellFormed, and for each statement with hypotheses
a state and operands that meet them, clause by clause, at boundary values. -/

namespace Sys2Proof.Tests

open Sys2Proof Sys2Proof.Machine

/-! ## States the tests start from -/

/-- Tables of a drivable coach with two doors a side and two heater groups. -/
def tables : Tables :=
  { Tables.default with
    coach := { CoachTable.default with drivable := true }
    door := { DoorTable.default with count1 := 2, count2 := 2 }
    heat := { HeatTable.default with g0 := 300, g1 := 300 } }

/-- A coach with those tables after power-on from a stored image, its loops made. -/
def coach : State :=
  State.powerOn { endswap := false, loop1 := true, loop2 := true }
    { State.reset with mgmt := { State.reset.mgmt with image := some { tables := tables, enable := 0 } } }

/-- The coach with a message in transmission on its coach link. -/
def base : State := { coach with link := { coach.link with sending := some firstNotice } }

/-- A census entry. -/
def entry (i : Nat) (o : Orientation) : Entry :=
  { id := BitVec.ofNat 32 i, orient := o, drivable := true, heating := true, preferred := false, doors1 := 2, doors2 := 2, rating := 600 }

/-- A MATED end. -/
def matedPort : LinePort := { LinePort.reset with pilot := .mated }

/-- A SETTLED member at position 2, its end 1 MATED. -/
def member : State :=
  { base with
    census := { base.census with cs := .settled, table := some (recordsFrom 1 [entry 9 .normal, entry 0 .normal]), epoch := 7
                                 lastEpoch := 7, position := 2, leadEnd := some .one }
    line := { base.line with timer := some 350, zsp := true, permit := true }
    portA := matedPort }

/-- A lead in HOLDING of the same train, its end 2 MATED. -/
def lead : State :=
  { base with
    census := { base.census with cs := .settled, lead := .holding, epoch := 7, lastEpoch := 7, position := 1, leadEnd := some .one
                                 table := some (recordsFrom 1 [entry 0 .normal, entry 9 .reversed]), cab := true }
    line := { base.line with sup := .live, zsp := true, flag := true, permit := true, beaconOn := true }
    summary := { recs := (recordsFrom 1 [entry 0 .normal, entry 9 .reversed]).map createdRecord, proven := false }
    alloc := { base.alloc with recs := demandRecords (recordsFrom 1 [entry 0 .normal, entry 9 .reversed]) }
    portB := matedPort }

/-- A lead in CALLING, its end 2 MATED. -/
def calling : State :=
  { base with
    census := { base.census with cs := .survey, lead := .calling, position := 1, leadEnd := some .one, timer := some 600, attemptNo := 1
                                 tag := some { lead := 0, attempt := 1 }, cab := true }
    portB := matedPort }

/-- A member in SURVEY at position 2. -/
def survey : State :=
  { base with
    census := { base.census with cs := .survey, position := 2, leadEnd := some .one, hold := some 3000
                                 tag := some { lead := 9, attempt := 1 } }
    portA := matedPort }

/-- A state with one side replaced. -/
def withSide (x : DoorSide) (s : State) : State := { s with doors := { s.doors with side1 := x } }

/-- A RELEASED side. -/
def releasedSide : DoorSide := { DoorSide.reset .released false with rel := true, timer := some { length := 10, left := 10 } }

/-- A WARNING side. -/
def warningSide (made : Bool) : DoorSide :=
  { DoorSide.reset .warning made with rel := true, warn := true, phase := true, cause := .closeOrder, timer := some { length := 3, left := 3 } }

/-- A CLOSING side. -/
def closingSide : DoorSide := { DoorSide.reset .closing false with warn := true, timer := some { length := 10, left := 10 } }

/-- A frame of a class. -/
def frame (cls : Nat) (payload : List Byte) : Frame :=
  { cls := cls, urgent := true, dir := .away, hop := 39, epoch := 7, srcPos := 32, destKind := .broadcast, destVal := 0, srcId := 9
    payload := payload }

/-- A frame of a class waiting at a node. -/
def deliver (cls : Nat) (payload : List Byte) (s : State) : State :=
  { s with delivered := [{ port := .a, endNo := .one, frame := frame cls payload }] }

/-- A request alone in the receive buffers. -/
def ask (code : Nat) (args : List Byte) (s : State) : State :=
  { s with link := { s.link with rx := [{ kind := 4, payload := byte code :: 1 :: 2 :: args }] } }

/-- A message alone in the receive buffers. -/
def bring (kind : Nat) (payload : List Byte) (s : State) : State :=
  { s with link := { s.link with rx := [{ kind := kind, payload := payload }] } }

/-- The state that commands leave behind. -/
def ran (cs : List Instr) (s : State) : State :=
  cs.foldl (fun x c => match exec c x with
    | .next t => t
    | .fault _ => x
    | .refused _ => x) s

/-! ## WellFormed, decoding, start-up -/

/-- The one ill-formed command: a message completed by no byte (R179). -/
theorem test_wellFormed_refuses_completion_without_bytes : (Instr.coachLinkMessageComplete []).wellFormed = false := by decide

/-- No row has bits. -/
theorem test_no_word_spells_a_command : decodeTableWord 16 5 = none := by decide

/-- The first power-on of a part without a stored image reaches State.reset (R178). -/
theorem test_powerOn_of_blank_part :
    exec (.powerOn { endswap := false, loop1 := false, loop2 := false }) { State.reset with powered := false } = .next State.reset := by
  rfl

/-! ## Examples and check values of the spec -/

/-- R181: the CRC over the characters 1 to 9. -/
theorem test_crc_check_value : crc16 [0x31, 0x32, 0x33, 0x34, 0x35, 0x36, 0x37, 0x38, 0x39] = 0x29B1 := by decide +kernel

/-- Chapter 7, Example 1. -/
theorem test_allocation_short_budget :
    allocate [(true, 400), (false, 480), (false, 240), (false, 450), (false, 0)] 1000 = (.class0Scaled, 1, [400, 247, 123, 230, 0]) := by
  decide

/-- Chapter 7, Example 2. -/
theorem test_allocation_sagging_line :
    allocate [(true, 400), (false, 480), (false, 240), (false, 450), (false, 0)] (effectiveBudget .undervoltage 1000)
      = (.class0Scaled, 1, [400, 42, 20, 38, 0]) := by decide

/-- Chapter 7, Example 3. -/
theorem test_allocation_preferred_over_budget :
    allocate [(true, 700), (true, 500), (true, 301), (false, 250)] 1000 = (.class1Scaled, 1, [467, 333, 200, 0]) := by decide

/-- Chapter 8, Example 1: 247 hu over 600 hu is a duty of 411 and 41 slots. -/
theorem test_duty_of_grant : dutyOf 247 600 = 411 ∧ (dutyOf 247 600 + 5) / 10 = 41 := by decide

/-- Chapter 8, Example 1: the window of group 3 is slots 75 to 99 and 0 to 15. -/
theorem test_window_wraps : inWindow 3 41 99 = true ∧ inWindow 3 41 15 = true ∧ inWindow 3 41 16 = false ∧ inWindow 3 41 74 = false := by
  decide

/-- Chapter 9, Example 1: the average of eight codes at gain 4 is 1004 and 125 hu. -/
theorem test_average_of_window :
    average [1000, 1010, 990, 1020, 1005, 995, 1000, 1012] = some 1004 ∧ quantity 2 4 1004 = 125 := by decide

/-- R155: truncation toward zero takes an average of -3.5 to -3. -/
theorem test_average_truncates : average [BitVec.ofInt 12 (-3), BitVec.ofInt 12 (-4)] = some (-3) := by decide

/-- Chapter 10, Example 1: the recent part wraps into the wide part. -/
theorem test_counter_wraps : ({ recent := 65535, wide := 2 } : Counter).up = { recent := 0, wide := 3 } := by decide

/-- Chapter 11, Example 1, row 1: LOAD TABLE DOOR from field 0 with 4 and 12 is answered with 4 and 8, headed by their number (R183). -/
theorem test_load_table_clamps :
    (ran [.loadTable .coachLink] (ask 12 [2, 0, 0, 4, 0, 12] base)).link.txQ
      = [{ kind := 0x81, payload := [12, 1, 2, 0, 0x80, 2, 0, 2, 0, 4, 0, 8] }] := by decide +kernel

/-- R148: CLEAR GROUP FAULT of a NOT_FITTED group is REFUSED with the state of every group. -/
theorem test_clear_group_fault_refused :
    (ran [.clearGroupFault .coachLink] (ask 20 [3] base)).link.txQ
      = [{ kind := 0x81, payload := [20, 1, 2, 2, 0x80, 1, 1, 0, 0] }] := by decide +kernel

/-- Chapter 8, Example 2: a SETTLED member without a usable grant holds the last one, and counts code 13. -/
theorem test_missed_grant_is_held :
    (ran [.cycleTick] { member with line := { member.line with idx := 19, cyc := 50 }, heater := { member.heater with applied := 247, missed := 0 } }).heater.source
      = .held := by decide +kernel

/-- R5: twenty good windows bring an end to MATED, and the node reports it. -/
theorem test_twenty_good_windows : (ran (List.replicate 20 (.pilotWindowClose .a 16)) base).portA.pilot = .mated := by decide +kernel

/-- A request taken from the wire: IDENTIFY over the coach link is answered. -/
theorem test_identify_answered :
    (ran [.coachLinkMessageComplete ({ kind := 4, payload := [1, 1, 2] } : Message).encode, .identify .coachLink] base).link.txQ
      = [{ kind := 0x81, payload := [1, 1, 2, 0, 0x80, 0, 0, 0, 0, 0, 0, 0, 0, 0] }] := by decide +kernel

/-- A DOOR_ORDER from the wire to a SETTLED member with its permit true releases its doors. -/
theorem test_door_order_from_the_line :
    (ran [.lineFrameClosed .a (frame 5 [0, 0, 1, 2, 7]).encode false, .doorOrderTaken] member).doors.side1.st = .released := by decide +kernel

/-! ## Witnesses: states that meet the hypotheses of each statement, clause by clause -/

theorem witness_IdleStepIsOneMillisecond : lead.powered = true ∧ lead.pending = [] := by decide

theorem witness_StepKeepsDoorsSafe : coach.doorsSound = true ∧ coach.releaseSafe = true ∧ ∃ t, step coach = .next t :=
  ⟨by decide, by decide, _, rfl⟩

/-- The lead with its index about to reach 16. -/
def busyLead : State := { lead with line := { lead.line with idx := 15 }, pending := [.cycleTick] }

theorem witness_StepKeepsCensusSound :
    busyLead.censusSound = true ∧ busyLead.supervisionSound = true ∧ ∃ t, step busyLead = .next t := ⟨by decide, by decide, _, rfl⟩

theorem witness_StepKeepsPermitAndProven :
    (∃ t, step busyLead = .next t)
      ∧ (busyLead.line.permit = match busyLead.line.sup with
        | .live => busyLead.line.zsp && busyLead.line.flag
        | .none => busyLead.line.zsp
        | .lost => busyLead.line.zsp) ∧ busyLead.provenSound = true ∧ busyLead.summarySound = true := ⟨⟨_, rfl⟩, by decide⟩

theorem witness_StepKeepsHeaterSound : busyLead.heaterSound = true ∧ ∃ t, step busyLead = .next t := ⟨by decide +kernel, _, rfl⟩

theorem witness_StepKeepsPortsAndFrames : busyLead.portsSound = true ∧ busyLead.framesFit = true ∧ ∃ t, step busyLead = .next t :=
  ⟨by decide, by decide, _, rfl⟩

theorem witness_StepKeepsLinkSound : busyLead.messagesFit = true ∧ busyLead.linkSound = true ∧ ∃ t, step busyLead = .next t :=
  ⟨by decide, by decide, _, rfl⟩

theorem witness_StepKeepsTablesSenseCounters :
    (∃ t, step busyLead = .next t) ∧ busyLead.tablesSound = true ∧ busyLead.senseSound = true ∧ busyLead.eventsSound = true :=
  ⟨⟨_, rfl⟩, by decide +kernel⟩

theorem witness_FramesAndEntriesReadAsSent :
    ((frame 31 (List.replicate 264 0)).wellFormed = true ∧ (frame 31 []).hop ≤ 39
      ∧ ({ frame 0 [] with hop := 40 } : Frame).wellFormed = true)
      ∧ ∀ e ∈ [{ entry 9 .reversed with doors1 := 8, doors2 := 8, rating := 2047 }, entry 0 .normal],
        e.doors1 ≤ 8 ∧ e.doors2 ≤ 8 ∧ e.rating ≤ 2047 := by decide +kernel

theorem witness_MessageReceived :
    let m : Message := { kind := 3, payload := List.replicate 72 0 }
    let long : List Byte := List.replicate 76 0
    (base.powered = true ∧ base.link.asm = none ∧ 1 ≤ m.kind ∧ m.kind ≤ 3 ∧ m.payload.length ≤ 72
      ∧ (∀ x ∈ base.link.rx, 1 ≤ x.kind ∧ x.kind ≤ 3) ∧ base.link.rx.length < 2
      ∧ (∀ x ∈ [m, m], 1 ≤ x.kind ∧ x.kind ≤ 3) ∧ [m, m].length = 2 ∧ 15 < base.events.counters.length)
      ∧ (long.length = (73 : Byte).toNat + 3 ∧ 72 < (73 : Byte).toNat)
      ∧ ([(1 : Byte), 0, 0].length = (0 : Byte).toNat + 3
        ∧ crcBytes ((0 : Byte) :: [(1 : Byte), 0, 0].take ((0 : Byte).toNat + 1)) ≠ [(1 : Byte), 0, 0].drop ((0 : Byte).toNat + 1))
      ∧ ([(6 : Byte), 0, 0].length = (0 : Byte).toNat + 3 ∧ 5 < ([(6 : Byte), 0, 0].getD 0 0).toNat)
      ∧ ([1, 0] : List Byte).length < 3 ∧ base.link.rx = [] ∧ (List.replicate 69 (0 : Byte)).length ≤ 69
      ∧ (1 ≤ (22 : Byte).toNat ∧ (22 : Byte).toNat ≤ 22) ∧ 22 < (23 : Byte).toNat
      ∧ base.link.txQ = [] ∧ base.link.backlog = [] ∧ base.link.reserved = 0 ∧ base.link.sending ≠ none := by decide +kernel

theorem witness_PowerOnStartsEveryBlock :
    (coach.mgmt.store = .idle ∧ coach.mgmt.image = some { tables := tables, enable := 0 }) ∧ State.reset.mgmt.image = none := by decide

/-- The coach with a restart pending and group 0 FAILED. -/
def restarting : State :=
  { (base.changeGroup 0 fun g => { g with st := .failed, strikes := 3 }) with mgmt := { base.mgmt with restart := some 0 } }

theorem witness_RestartKeepsCountersAndFailures :
    let wider : State := { restarting with mgmt := { restarting.mgmt with
      image := some { tables := { tables with coach := { tables.coach with arraySize := 64 } }, enable := 0 } } }
    (base.powered = true ∧ base.mgmt.restart = none)
      ∧ (restarting.powered = true ∧ restarting.mgmt.restart ≠ none ∧ restarting.mgmt.store = .idle
        ∧ restarting.mgmt.image = some { tables := tables, enable := 0 }
        ∧ tables.coach.arraySize = restarting.mgmt.working.coach.arraySize)
      ∧ (wider.mgmt.restart ≠ none ∧ wider.events.counters.length = wider.mgmt.working.coach.arraySize
        ∧ 64 ≠ wider.mgmt.working.coach.arraySize) := by decide

/-- The coach with its end A in a pilot state. -/
def ended (p : Pilot) (good bad : Nat) : State := { base with portA := { LinePort.reset with pilot := p, good := good, bad := bad } }

theorem witness_PilotWindowMoves :
    ((ended .parted 0 0).powered = true ∧ ((ended .parted 0 0).port .a).edges = 0 ∧ ((ended .parted 0 0).port .a).pilot = .parted)
      ∧ (16 ≤ 16 ∧ 16 ≤ 24) ∧ ¬(16 ≤ 15 ∧ 15 ≤ 24)
      ∧ (((ended .mating 18 0).port .a).pilot = .mating ∧ ((ended .mating 18 0).port .a).good < 19)
      ∧ (((ended .mated 0 3).port .a).pilot = .mated ∧ ((ended .mated 0 3).port .a).bad < 4) := by decide

theorem witness_PilotEntersAndLeavesMated :
    let cab : LinePort → State := fun x => { lead with portA := x }
    let other : LinePort → State := fun x => { lead with portB := x }
    let mating : LinePort := { LinePort.reset with pilot := .mating, good := 19 }
    let mated : LinePort := { matedPort with bad := 4 }
    ((ended .mating 19 0).powered = true ∧ ((ended .mating 19 0).port .a).edges = 0 ∧ (ended .mating 19 0).census.lead = .off
      ∧ ((ended .mating 19 0).port .a).pilot = .mating ∧ ((ended .mating 19 0).port .a).good = 19)
      ∧ (((ended .mated 0 4).port .a).edges = 0 ∧ (ended .mated 0 4).census.lead = .off
        ∧ ((ended .mated 0 4).port .a).pilot = .mated ∧ ((ended .mated 0 4).port .a).bad = 4)
      ∧ (lead.powered = true ∧ lead.census.lead ≠ .off)
      ∧ ((cab mating).cabPort = .a ∧ ((cab mating).port .a).pilot = .mating ∧ ((cab mating).port .a).good = 19)
      ∧ ((cab mated).cabPort = .a ∧ ((cab mated).port .a).pilot = .mated ∧ ((cab mated).port .a).bad = 4 ∧ ((cab mated).port .a).tx = none)
      ∧ ((other mating).nonCabPort = .b ∧ ((other mating).port .b).pilot = .mating ∧ ((other mating).port .b).good = 19)
      ∧ ((other mated).nonCabPort = .b ∧ ((other mated).port .b).pilot = .mated ∧ ((other mated).port .b).bad = 4) := by decide

theorem witness_UnsoundFramesDiscarded :
    let far : List Byte := ({ frame 5 [] with hop := 255 } : Frame).encode
    let odd : List Byte := ({ frame 32 [] with hop := 41 } : Frame).encode
    (base.powered = true ∧ (base.port .a).pilot ≠ .mated)
      ∧ ((member.port .a).pilot = .mated ∧ (member.port .a).rx = none ∧ takeClass 9 member.delivered = none ∧ 1 < member.events.counters.length)
      ∧ (List.replicate 17 (0 : Byte)).length < 18 ∧ 282 < (List.replicate 283 (0 : Byte)).length
      ∧ (List.replicate 18 (0 : Byte)).length = 18 + u16 0 0
      ∧ crcBytes ((List.replicate 18 (0 : Byte)).take 16) ≠ (List.replicate 18 (0 : Byte)).drop 16
      ∧ (List.replicate 19 (0 : Byte)).length ≠ 18 + u16 0 0
      ∧ ({ frame 5 [] with hop := 40 } : Frame).wellFormed = true
      ∧ (far.length = 18 ∧ crcBytes (far.take 16) = far.drop 16 ∧ (far.getD 0 0).toNat ≤ 31 ∧ (far.getD 1 0).toNat % 4 = 1
        ∧ (far.getD 4 0).toNat ≤ 32 ∧ (far.getD 5 0).toNat = 1 ∧ 40 ≤ (far.getD 2 0).toNat)
      ∧ (odd.length = 18 ∧ crcBytes (odd.take 16) = odd.drop 16 ∧ 31 < (odd.getD 0 0).toNat) := by decide +kernel

/-- A member with both ends MATED; `tx`, `urgent` and `normal` are what its end B holds. -/
def through (tx : Option Frame) (urgent normal : List Frame) : State :=
  { member with portB := { matedPort with tx := tx, urgentQ := urgent, normalQ := normal } }

/-- The member with no place free in the transmit queue of its coach link, one of them reserved. -/
def crowded : State := { member with link := { member.link with txQ := List.replicate 7 firstNotice, reserved := 1 } }

theorem witness_BroadcastDeliveredAndRelayed :
    let f := frame 5 []
    let full : Nat → EndNo → BitVec 13 → BitVec 13 → State := fun n e flags enable =>
      { through (some f) (List.replicate 8 f) (List.replicate n f) with
        census := { member.census with leadEnd := some e }, notices := { flags := flags, enable := enable } }
    (member.powered = true ∧ (member.port .a).pilot = .mated ∧ (member.port .a).rx = none ∧ member.delivered = [] ∧ f.wellFormed = true
      ∧ f.hop ≤ 39 ∧ f.destKind = .broadcast ∧ (member.classEntry f.cls).countCode = none
      ∧ (frame 1 []).wellFormed = true ∧ 1 ≤ (frame 1 []).cls ∧ (frame 8 []).wellFormed = true ∧ (frame 8 []).cls ≤ 8)
      ∧ (let n := frame 11 [13, 0xFF, 0xFF, 255]
         (frame 9 [1, 0, 0]).wellFormed = true ∧ (frame 10 []).wellFormed = true ∧ n.wellFormed = true ∧ n.cls ≤ 11 ∧ n.payload.length = 4
          ∧ (frame 11 [1, 0, 1]).payload.length ≠ 4 ∧ (member.classEntry 11).countCode = none ∧ (member.classEntry 9).countCode = none
          ∧ member.link.sending ≠ none ∧ 15 < member.events.counters.length ∧ member.link.txQ.length + member.link.reserved < 8)
      ∧ (crowded.link.sending ≠ none ∧ ¬(crowded.link.txQ.length + crowded.link.reserved < 8) ∧ 15 < crowded.events.counters.length)
      ∧ (member.port .b).pilot ≠ .mated
      ∧ (((through none [] []).port .b).pilot = .mated ∧ ((through none [] []).port .b).tx = none)
      ∧ (((through (some f) (List.replicate 7 f) []).port .b).tx ≠ none
        ∧ ((through (some f) (List.replicate 7 f) []).port .b).urgentQ.length < 8)
      ∧ (((through (some f) [] (List.replicate 15 f)).port .b).normalQ.length < 16 ∧ (frame 8 []).cls = 8)
      ∧ ((full 16 .one 0 0).powered = true ∧ ((full 16 .one 0 0).port .a).rx = none ∧ (full 16 .one 0 0).delivered = []
        ∧ ((full 16 .one 0 0).port .b).pilot = .mated ∧ ((full 16 .one 0 0).port .b).tx ≠ none
        ∧ 8 ≤ ((full 16 .one 0 0).port .b).urgentQ.length ∧ 16 ≤ ((full 16 .one 0 0).port .b).normalQ.length
        ∧ 3 < (full 16 .one 0 0).events.counters.length ∧ (full 16 .one 0 0).census.lead = .off)
      ∧ (hasFlag (full 16 .one 0x1FFF 0).notices.flags .framesDropped = true
        ∧ hasFlag (full 16 .one 0 0).notices.flags .framesDropped = false ∧ hasFlag (full 16 .one 0 0).notices.enable .framesDropped = false
        ∧ hasFlag (full 16 .one 0 0x1FFF).notices.enable .framesDropped = true ∧ (full 16 .one 0 0x1FFF).link.sending ≠ none
        ∧ (full 16 .one 0 0x1FFF).link.txQ.length + (full 16 .one 0 0x1FFF).link.reserved < 8)
      ∧ ((full 16 .one 0 0x1FFF).endPort .one = .a ∧ (full 16 .one 0 0x1FFF).idleEnd .a ∧ (full 15 .two 0 0x1FFF).endPort .two = .b
        ∧ ((full 15 .two 0 0x1FFF).port .b).normalQ.length < 16 ∧ 16 ≤ ((full 16 .two 0 0x1FFF).port .b).normalQ.length)
      ∧ ({ lead with portA := matedPort } : State).census.lead ≠ .off := by
  decide +kernel

/-- What the statements about a frame that arrives on end A ask of state and frame. -/
abbrev arrives (s : State) (f : Frame) : Prop :=
  s.powered = true ∧ (s.port .a).pilot = .mated ∧ (s.port .a).rx = none ∧ s.delivered = [] ∧ f.wellFormed = true ∧ f.hop ≤ 39
    ∧ (s.classEntry f.cls).countCode = none

/-- A frame of a class TOWARD the lead end, for a destination. -/
def toward (k : DestKind) (v : BitVec 32) (c : Nat) (p : List Byte) : Frame := { frame c p with destKind := k, destVal := v, dir := .toward }

/-- The lead with both ends MATED. -/
def midLead : State := { lead with portA := matedPort }

theorem witness_LeadAndDataFramesHandled :
    let s := midLead
    let b : State := { s with link := { s.link with txQ := List.replicate 7 firstNotice, reserved := 1 } }
    let blocked : State := { s with census := { s.census with lead := .blocked } }
    (arrives s (toward .lead 0 6 []) ∧ s.census.lead = .holding) ∧ (arrives blocked (toward .lead 0 3 [1]) ∧ blocked.census.lead = .blocked)
      ∧ (arrives member (toward .position 2 1 []) ∧ member.census.cs = .settled ∧ (2 : BitVec 32).toNat = member.census.position)
      ∧ (arrives member (toward .nodeId 0 8 []) ∧ (0 : BitVec 32) = member.nodeId) ∧ arrives member (toward .nodeId 9 0 [])
      ∧ (arrives member (toward .nodeId 0 9 [1, 0, 0]) ∧ arrives member (toward .position 2 9 [22, 0, 0]) ∧ 1 ≤ (1 : Byte).toNat ∧ (22 : Byte).toNat ≤ 22)
      ∧ arrives s (toward .lead 0 9 [22, 0, 0])
      ∧ arrives member (toward .nodeId 0 10 []) ∧ (arrives s (toward .lead 0 11 [1, 0, 1]) ∧ [(1 : Byte), 0, 1].length ≠ 4)
      ∧ (arrives s (toward .lead 0 11 [13, 0x1F, 0xFF, 0]) ∧ s.link.sending ≠ none ∧ s.link.txQ.length + s.link.reserved < 8)
      ∧ (arrives b (toward .lead 0 11 [1, 0, 1, 0]) ∧ 8 ≤ b.link.txQ.length + b.link.reserved ∧ 15 < b.events.counters.length) := by
  and_intros <;> decide +kernel

theorem witness_LeadAndDataFramesHandled_elsewhere :
    let g : Frame := { frame 31 [] with dir := .toward }
    let n := through none [] []
    let w := through (some g) (List.replicate 7 g) (List.replicate 15 g)
    (arrives n (toward .lead 0 11 []) ∧ n.census.lead = .off ∧ n.idleEnd .b)
      ∧ (arrives n (toward .position 1 1 []) ∧ (1 : BitVec 32).toNat ≠ member.census.position)
      ∧ (arrives w (toward .nodeId 9 6 []) ∧ (w.port .b).tx ≠ none ∧ (w.port .b).urgentQ.length < 8)
      ∧ (arrives w (toward .nodeId 9 7 []) ∧ (w.port .b).normalQ.length < 16)
      ∧ (arrives member (toward .lead 0 3 [1]) ∧ member.census.lead = .off ∧ (member.port (otherPort .a)).pilot ≠ .mated
        ∧ 4 < member.events.counters.length
        ∧ hasFlag ({ member with notices := { member.notices with flags := 0x200 } } : State).notices.flags .framesDropped = true) := by
  and_intros <;> decide +kernel

/-- The member with both ends MATED and one class entry for every class. -/
def classed (e : ClassEntry) : State :=
  { through none [] [] with mgmt := { member.mgmt with working := { tables with cls := List.replicate 32 e } } }

/-- The coach data entry with action BOTH that lets every state and direction pass. -/
def openEntry : ClassEntry := { ClassEntry.defaultData with needsSettled := false }

theorem witness_LeadAndDataFramesHandled_barred :
    let g : Frame := { frame 31 [] with dir := .toward }
    (g.wellFormed = true ∧ 12 ≤ g.cls ∧ ((ended .mated 0 0).classEntry g.cls).needsSettled = true ∧ (ended .mated 0 0).census.cs ≠ .settled)
      ∧ (((classed { openEntry with restrict := .awayOnly }).classEntry g.cls).restrict = .awayOnly ∧ g.dir = .toward)
      ∧ ((classed { openEntry with restrict := .towardOnly }).classEntry 12).restrict = .towardOnly ∧ (frame 12 []).dir = .away
      ∧ ((classed { openEntry with action := .drop }).classEntry g.cls).action = .drop
      ∧ ((classed { openEntry with action := .deliver }).classEntry 12).action = .deliver ∧ (toward .nodeId 9 12 []).destVal ≠ member.nodeId
      ∧ ((classed { openEntry with action := .relay }).classEntry 12).action = .relay ∧ (toward .nodeId 0 12 []).destVal = member.nodeId := by
  decide +kernel

theorem witness_CoachDataReceived :
    let e : ClassEntry := ClassEntry.defaultData
    let s := classed e
    let own : Frame := { frame 12 (List.replicate 64 0) with destKind := .nodeId }
    let all : Frame := frame 31 (List.replicate 64 0)
    (s.powered = true ∧ (s.port .a).pilot = .mated ∧ (s.port .a).rx = none ∧ takeClass 9 s.delivered = none ∧ own.wellFormed = true
      ∧ own.hop ≤ 39 ∧ 12 ≤ own.cls)
      ∧ ((s.classEntry own.cls).countCode = none ∧ s.census.cs = .settled ∧ (s.classEntry own.cls).restrict = .any
        ∧ (s.classEntry own.cls).action = .both ∧ own.destVal = s.nodeId ∧ own.payload.length ≤ 64
        ∧ s.link.sending ≠ none ∧ s.link.txQ.length + s.link.reserved < 8 ∧ 15 < s.events.counters.length)
      ∧ (64 < (List.replicate 65 (0 : Byte)).length ∧ (frame 12 (List.replicate 65 0)).wellFormed = true)
      ∧ (all.destKind = .broadcast ∧ all.wellFormed = true ∧ s.idleEnd .b ∧ ({ s with portB := LinePort.reset } : State).portB.pilot ≠ .mated)
      ∧ (((classed { e with action := .drop, countCode := some 63 }).classEntry 31).countCode = some 63 ∧ 16 ≤ 63
        ∧ ((classed { e with action := .drop, countCode := some 16 }).classEntry 31).action = .drop
        ∧ 16 < (classed { e with action := .drop, countCode := some 16 }).events.counters.length) := by decide +kernel

theorem witness_CoachDataReceived_destinations :
    let s := classed ClassEntry.defaultData
    let led : State := { s with census := lead.census }
    let relays := classed { openEntry with action := .relay }
    (arrives s (toward .position 2 12 []) ∧ s.census.cs = .settled ∧ (2 : BitVec 32).toNat = s.census.position)
      ∧ (arrives led (toward .lead 0 31 []) ∧ led.census.lead = .holding)
      ∧ (arrives s (toward .position 32 12 []) ∧ (32 : BitVec 32).toNat ≠ s.census.position ∧ s.idleEnd .b)
      ∧ (arrives s (toward .lead 0 12 []) ∧ s.census.lead = .off)
      ∧ (arrives relays (toward .nodeId 9 12 []) ∧ (9 : BitVec 32) ≠ relays.nodeId ∧ (relays.classEntry 12).action = .relay)
      ∧ (arrives relays (toward .nodeId 0 12 []) ∧ (0 : BitVec 32) = relays.nodeId)
      ∧ (arrives (classed { openEntry with restrict := .awayOnly }) (frame 12 []) ∧ (frame 12 []).dir = .away)
      ∧ (arrives (classed { openEntry with restrict := .towardOnly }) (toward .nodeId 9 31 []) ∧ (toward .nodeId 9 31 []).dir = .toward) := by
  and_intros <;> decide +kernel

theorem witness_CoachDataReceived_copies :
    let f : Frame := frame 31 []
    let busy : Bool → Nat → Nat → State := fun urgent u n => { classed { openEntry with action := .relay, urgent := urgent } with
      portB := { matedPort with tx := some f, urgentQ := List.replicate u f, normalQ := List.replicate n f }
      notices := { flags := 0x200, enable := 0 } }
    (((busy true 7 0).port .b).tx ≠ none ∧ ((busy true 7 0).classEntry 31).urgent = true ∧ ((busy true 7 0).port .b).urgentQ.length < 8)
      ∧ (((busy false 0 15).classEntry 31).urgent = false ∧ ((busy false 0 15).port .b).normalQ.length < 16)
      ∧ (hasFlag (busy true 8 0).notices.flags .framesDropped = true ∧ 4 < (busy true 8 0).events.counters.length
        ∧ 8 ≤ ((busy true 8 0).port .b).urgentQ.length ∧ 16 ≤ ((busy false 0 16).port .b).normalQ.length)
      ∧ (({ busy true 0 0 with portB := LinePort.reset } : State).port (otherPort .a)).pilot ≠ .mated := by decide +kernel

theorem witness_CoachDataSent :
    let s := classed ClassEntry.defaultData
    let alone : State := { base with portA := matedPort, portB := matedPort
                                     mgmt := { base.mgmt with working := { tables with
                                       cls := List.replicate 32 { ClassEntry.defaultData with needsSettled := false } } } }
    let kind : Byte → Byte → List Byte := fun k v => [31, k, 0, 0, 0, v] ++ List.replicate 66 0
    (s.powered = true ∧ s.link.asm = none ∧ s.link.rx = [] ∧ (kind 1 0).length ≤ 72 ∧ 15 < s.events.counters.length
      ∧ [(31 : Byte), 1, 0, 0, 0].length < 6)
      ∧ ((11 : Byte).toNat < 12 ∧ 31 < (32 : Byte).toNat ∧ 4 < (5 : Byte).toNat ∧ (u32 0 0 0 0).toNat < 1 ∧ 32 < (u32 0 0 0 33).toNat)
      ∧ (s.census.cs = .settled ∧ s.census.lead = .off ∧ s.census.leadEnd = some .one ∧ (s.classEntry (31 : Byte).toNat).action ≠ .drop
        ∧ (s.classEntry (31 : Byte).toNat).restrict = .any ∧ s.endPort .one = .a ∧ s.endPort .two = .b ∧ s.idleEnd .a ∧ s.idleEnd .b
        ∧ (u32 0 0 0 1).toNat < s.census.position ∧ s.census.position < (u32 0 0 0 32).toNat ∧ (u32 0 0 0 2).toNat = s.census.position)
      ∧ (((classed { ClassEntry.defaultData with restrict := .awayOnly }).classEntry (31 : Byte).toNat).restrict = .awayOnly)
      ∧ (alone.census.cs ≠ .settled ∧ (alone.classEntry (31 : Byte).toNat).needsSettled = false ∧ alone.census.leadEnd = none
        ∧ alone.idleEnd (alone.endPort .one) ∧ alone.idleEnd (alone.endPort .two)) := by decide +kernel

theorem witness_TransmitterTakesNext :
    let f := frame 5 []
    (base.powered = true ∧ (base.port .a).tx = none)
      ∧ ((through (some f) [f] [f]).powered = true ∧ ((through (some f) [f] [f]).port .b).pilot = .mated
        ∧ ((through (some f) [f] [f]).port .b).tx ≠ none ∧ ((through (some f) [f] [f]).port .b).urgentQ = f :: [])
      ∧ (((through (some f) [] [f]).port .b).urgentQ = [] ∧ ((through (some f) [] [f]).port .b).normalQ = f :: [])
      ∧ (((through (some f) [] []).port .b).urgentQ = [] ∧ ((through (some f) [] []).port .b).normalQ = []) := by decide +kernel

/-- The delivery that `deliver` puts first. -/
def first (cls : Nat) (payload : List Byte) : Delivery := { port := .a, endNo := .one, frame := frame cls payload }

theorem holds_deliver (cls : Nat) (payload : List Byte) (s : State) (h : s.powered = true) :
    (deliver cls payload s).holds cls (first cls payload) [] := ⟨h, by simp [deliver, takeClass, frame, first]⟩

/-- A census call of a lead with no entry and with 31 entries. -/
def call31 : List Byte := callPayload { lead := 9, attempt := 1 } ((List.range 31).map fun i => entry (i + 50) .normal)

theorem witness_CensusCallRecorded :
    (deliver 0 call31 base).holds 0 (first 0 call31) [] ∧ (deliver 0 call31 lead).holds 0 (first 0 call31) []
      ∧ (∃ c, readCall (first 0 call31).frame.payload = some c ∧ c.entries.length < 32 ∧ (∀ e ∈ c.entries, e.id ≠ base.nodeId)
        ∧ base.census.lead = .off ∧ base.census.cs ≠ .survey ∧ lead.census.lead ≠ .off
        ∧ survey.census.hold ≠ none ∧ ∀ u, survey.census.tag = some u → u.lead = c.tag.lead)
      ∧ (let s : State := { survey with census := { survey.census with tag := some { lead := 8, attempt := 1 } } }
         (deliver 0 call31 s).holds 0 (first 0 call31) [] ∧ s.census.cs = .survey
          ∧ ∃ c u, readCall (first 0 call31).frame.payload = some c ∧ s.census.tag = some u ∧ u.lead ≠ c.tag.lead) :=
  ⟨holds_deliver _ _ _ rfl, holds_deliver _ _ _ rfl, ⟨_, rfl, by decide +kernel, by decide +kernel, rfl, by decide, by decide, by decide,
    by intro u hu; cases hu; decide⟩, holds_deliver _ _ _ rfl, rfl, _, _, rfl, rfl, by decide +kernel⟩

/-- An OK return with the lead's own entry alone, and a failed one. -/
def return1 (status : Byte) : List Byte :=
  ({ lead := 0, attempt := 1 } : Tag).bytes ++ [status, 1] ++ (calling.ownEntry .normal).bytes

theorem witness_ReturnInstallsOrBlocks :
    ((deliver 1 (return1 0) calling).holds 1 (first 1 (return1 0)) []
      ∧ ∃ r, readReturn (first 1 (return1 0)).frame.payload = some r ∧ calling.census.lead = .calling ∧ calling.census.tag = some r.tag
        ∧ r.status = 0 ∧ (deliver 1 (return1 0) calling).listSound (return1 0) r.entries 0)
      ∧ (deliver 1 (return1 3) calling).holds 1 (first 1 (return1 3)) []
      ∧ (∃ r, readReturn (first 1 (return1 3)).frame.payload = some r ∧ calling.census.lead = .calling ∧ calling.census.tag = some r.tag
        ∧ (r.status, Failure.twoLeads) ∈ [(1, Failure.tooLong), (2, Failure.duplicateId), (3, Failure.twoLeads)])
      ∧ ((deliver 1 (return1 0 ++ [0]) calling).holds 1 (first 1 (return1 0 ++ [0])) []
        ∧ ∃ r, readReturn (return1 0 ++ [0]) = some r ∧ r.status = 0 ∧ ¬(deliver 1 (return1 0) calling).listSound (return1 0 ++ [0]) r.entries 0)
      ∧ (deliver 1 (return1 3) base).holds 1 (first 1 (return1 3)) [] ∧ base.census.lead ≠ .calling :=
  ⟨⟨holds_deliver _ _ _ rfl, _, rfl, rfl, by decide +kernel, by decide, by and_intros <;> decide +kernel⟩,
    holds_deliver _ _ _ rfl, ⟨_, rfl, rfl, by decide +kernel, by decide⟩,
    ⟨holds_deliver _ _ _ rfl, _, rfl, by decide, fun h => absurd h.2.1 (by decide +kernel)⟩, holds_deliver _ _ _ rfl, by decide⟩

/-- An announce of epoch `e` in which the surveyed node stands second. -/
def announce2 (e : Nat) : List Byte := announcePayload e { lead := 9, attempt := 1 } [entry 9 .normal, survey.ownEntry .normal]

theorem witness_AnnounceInstallsOrMismatches :
    (deliver 2 (announce2 255) member).holds 2 (first 2 (announce2 255)) [] ∧ member.census.cs ≠ .survey
      ∧ (deliver 2 (announce2 255) survey).holds 2 (first 2 (announce2 255)) [] ∧ survey.census.cs = .survey ∧ survey.census.lead = .off
      ∧ (∃ a, readAnnounce (first 2 (announce2 255)).frame.payload = some a ∧ (deliver 2 (announce2 255) survey).announceSound (announce2 255) a)
      ∧ (∃ a, readAnnounce (first 2 (announce2 0)).frame.payload = some a ∧ ¬(deliver 2 (announce2 0) survey).announceSound (announce2 0) a) :=
  ⟨holds_deliver _ _ _ rfl, by decide, holds_deliver _ _ _ rfl, rfl, rfl,
    ⟨_, rfl, by and_intros <;> decide +kernel⟩,
    ⟨_, rfl, fun h => absurd h.2.1 (by decide +kernel)⟩⟩

theorem witness_TopologyChangeRestartsCensus :
    (deliver 3 [1] member).holds 3 (first 3 [1]) [] ∧ member.census.lead = .off ∧ (deliver 3 [1] lead).holds 3 (first 3 [1]) []
      ∧ lead.census.lead = .holding ∧ (first 3 [1]).frame.payload.length = 1 ∧ (deliver 3 [1] lead).mated (deliver 3 [1] lead).nonCabPort = true :=
  ⟨holds_deliver _ _ _ rfl, rfl, holds_deliver _ _ _ rfl, rfl, rfl, by decide⟩

theorem witness_CabAssertionJudged :
    let blind : State := { base with mgmt := { base.mgmt with working := Tables.default } }
    let other : State := { base with portB := matedPort }
    (blind.powered = true ∧ blind.census.cab = false ∧ blind.census.lead = .off ∧ blind.mgmt.working.coach.drivable = false)
      ∧ ((ended .mated 0 0).mgmt.working.coach.drivable = true ∧ (ended .mated 0 0).mated (ended .mated 0 0).cabPort = true)
      ∧ (other.census.cab = false ∧ other.mated other.cabPort = false ∧ other.mated other.nonCabPort = true)
      ∧ (base.mated base.cabPort = false ∧ base.mated base.nonCabPort = false ∧ base.mgmt.working.coach.drivable = true) := by decide

theorem witness_CabReleaseTakesRole :
    let c : LeadState → State := fun l => { base with census := { base.census with cab := true, lead := l } }
    (base.powered = true ∧ (c .off).census.cab = true ∧ (c .off).census.lead = .off) ∧ (c .blocked).census.lead = .blocked
      ∧ (lead.census.cab = true ∧ lead.census.lead = .holding)
      ∧ (calling.census.cab = true ∧ calling.census.lead = .calling ∧ calling.census.cs = .survey) := by decide

theorem witness_CensusTimersExpire :
    let c : Nat → State := fun n => { calling with census := { calling.census with attemptCtr := n } }
    ((c 2).powered = true ∧ (c 2).census.lead = .calling ∧ (c 2).census.timer ≠ none ∧ (c 2).census.attemptCtr ≤ 2
      ∧ (c 2).mated (c 2).nonCabPort = true) ∧ 3 ≤ (c 3).census.attemptCtr
      ∧ (survey.census.cs = .survey ∧ survey.census.hold ≠ none ∧ survey.census.table = none)
      ∧ ({ survey with census := { survey.census with table := some [] } } : State).census.table = some [] := by decide

/-- A beacon of index 19. -/
def beacon19 : List Byte := [19, 255, 1, 0, 0, 0, 9]

/-- A census call of lead 9 with 32 entries, one with this node's own entry, and one with no entry. -/
def callOf (es : List Entry) : List Byte := callPayload { lead := 9, attempt := 1 } es

theorem witness_CensusFramesSent :
    let none' : List Byte := callOf []
    let full : List Byte := callOf ((List.range 32).map fun i => entry (i + 50) .normal)
    let own : List Byte := callOf [entry 0 .normal]
    let both : State := { base with portA := matedPort, portB := matedPort }
    let flagged : State → State := fun s => { s with notices := { s.notices with flags := 0x1FFF } }
    ((deliver 0 none' both).holds 0 (first 0 none') [] ∧ both.census.lead = .off ∧ both.census.cs ≠ .survey
      ∧ both.endPort .one = .a ∧ both.endPort .two = .b ∧ both.idleEnd .a ∧ both.idleEnd .b
      ∧ (∃ c, readCall none' = some c ∧ c.tag.lead ≠ both.nodeId ∧ c.entries = []))
      ∧ ((ended .mated 0 0).mated .b = false ∧ (ended .mated 0 0).idleEnd .a)
      ∧ (lead.census.lead ≠ .off)
      ∧ (∃ c, readCall full = some c ∧ 32 ≤ c.entries.length)
      ∧ (∃ c, readCall own = some c ∧ c.entries.length < 32 ∧ ∃ e ∈ c.entries, e.id = both.nodeId)
      ∧ (let s : State := { base with portB := matedPort }
         s.powered = true ∧ s.census.cab = false ∧ s.census.lead = .off ∧ s.mgmt.working.coach.drivable = true
          ∧ s.mated s.cabPort = false ∧ s.idleEnd s.nonCabPort)
      ∧ ((deliver 1 (return1 0) calling).holds 1 (first 1 (return1 0)) [] ∧ calling.idleEnd calling.nonCabPort)
      ∧ (let s := flagged survey
         s.powered = true ∧ s.census.lead = .off ∧ hasFlag s.notices.flags .topology = true ∧ hasFlag s.notices.flags .framesDropped = true
          ∧ 6 < s.events.counters.length ∧ (∀ e, s.census.leadEnd = some e → s.mated (s.endPort e) = true → Port.a = s.endPort e)
          ∧ s.idleEnd .a ∧ s.census.cs = .survey)
      ∧ ((deliver 2 (announce2 0) (flagged survey)).holds 2 (first 2 (announce2 0)) []
        ∧ ∃ a, readAnnounce (announce2 0) = some a ∧ ¬(deliver 2 (announce2 0) (flagged survey)).announceSound (announce2 0) a)
      ∧ (let s : State := flagged { member with portB := { LinePort.reset with pilot := .mating, good := 19 } }
         (s.port .b).pilot = .mating ∧ (s.port .b).good = 19 ∧ (s.port .b).edges = 0 ∧ s.census.leadEnd = some .one ∧ s.endPort .one = .a
          ∧ s.idleEnd .a ∧ s.census.cs = .settled)
      ∧ (let s : State := flagged { base with portB := { LinePort.reset with pilot := .mating, good := 19 } }
         s.census.leadEnd = none ∧ (s.port .b).urgentQ = [] ∧ (s.port .b).normalQ = [])
      ∧ (let s : State := flagged { member with portB := { matedPort with bad := 4 } }
         (s.port .b).pilot = .mated ∧ (s.port .b).bad = 4 ∧ (s.port .b).edges = 0 ∧ s.idleEnd (otherPort .b))
      ∧ ((deliver 4 beacon19 (flagged member)).holds 4 (first 4 beacon19) []
        ∧ (∃ b, readBeacon beacon19 = some b ∧ b.idx ∉ [0, 5, 10]) ∧ (flagged member).idleEnd .a
        ∧ (first 4 beacon19).frame.epoch ≠ ({ member.census with epoch := 8 } : Census).epoch ∧ (flagged both).census.cs = .detached
        ∧ (flagged both).census.staleArmed = true ∧ (flagged both).census.leadEnd = none) :=
  ⟨⟨holds_deliver _ _ _ rfl, rfl, by decide, by decide, by decide, by decide, by decide, _, rfl, by decide +kernel, by decide +kernel⟩,
    by decide, by decide, ⟨_, rfl, by decide +kernel⟩, ⟨_, rfl, by decide +kernel, entry 0 .normal, by decide +kernel, by decide⟩,
    by decide, ⟨holds_deliver _ _ _ rfl, by decide⟩,
    ⟨rfl, rfl, by decide, by decide, by decide, fun e he _ => by cases he; decide, by decide, rfl⟩,
    ⟨holds_deliver _ _ _ rfl, _, rfl, fun h => absurd h.2.1 (by decide +kernel)⟩, by decide, by decide, by decide,
    ⟨holds_deliver _ _ _ rfl, ⟨_, rfl, by decide⟩, by decide, by decide, by decide, by decide, by decide⟩⟩

theorem witness_CyclicFramesSent :
    let at' : Nat → State → State := fun i s => { s with line := { s.line with idx := i } }
    (lead.powered = true ∧ lead.census.lead = .holding ∧ lead.line.beaconOn = true ∧ lead.idleEnd lead.nonCabPort ∧ lead.census.cs = .settled
      ∧ (at' 15 lead).line.idx = 15 ∧ (at' 19 lead).line.idx ≤ 19)
      ∧ (member.powered = true ∧ member.census.lead = .off ∧ member.census.cs = .settled ∧ member.line.beaconOn = false
        ∧ member.census.leadEnd = some .one ∧ member.idleEnd (member.endPort .one) ∧ (at' 9 member).line.idx = 9)
      ∧ (((withSide (warningSide false) member).doors.side .one).st = .warning
        ∧ ((withSide (warningSide false) member).doors.side .one).timer ≠ none)
      ∧ (((withSide releasedSide member).doors.side .one).st = .released
        ∧ ((withSide releasedSide member).doors.side .one).timer ≠ none) := by decide

theorem witness_CycleTickAdvancesClock :
    let s : State := { member with line := { member.line with idx := 19, cyc := 255 } }
    s.powered = true ∧ s.line.idx ≤ 19 ∧ ((s.line.idx + 1) % 20 = 0 ∧ s.line.lastStart ≠ some ((s.line.cyc + 1) % 256))
      ∧ member.line.idx ≤ 19 ∧ ¬((member.line.idx + 1) % 20 = 0 ∧ member.line.lastStart ≠ some member.line.cyc) := by decide

theorem witness_CycleStartAppliesGrant :
    let s : State := { member with line := { member.line with idx := 19, cyc := 255 } }
    let part : State := { s with sense := { s.sense with stop := 0 } }
    (s.powered = true ∧ s.line.idx = 19 ∧ s.line.lastStart ≠ some ((s.line.cyc + 1) % 256) ∧ s.census.cs = .settled)
      ∧ (s.sense.mode = .scanCont ∧ 1 ≤ s.sense.stop ∧ part.sense.mode ≠ .singleCont ∧ ¬(1 ≤ part.sense.stop))
      ∧ (((ran [.cycleTick] part).heater.groups[1]?.map Group.st) = some .enabled)
      ∧ (((ran [.cycleTick] part).heater.groups[3]?.map Group.st) = some .notFitted) := by decide +kernel

theorem witness_CycleStartTestsGroups :
    let s : Nat → Code → State := fun strikes c =>
      let b : State := { member with line := { member.line with idx := 19, cyc := 255 } }
      { b.changeGroup 0 fun g => { g with strikes := strikes } with
        sense := { b.sense with onWins := b.sense.onWins.modify 0 fun w => { w with window := [c, c], count := 4 } } }
    ((s 2 2047).powered = true ∧ (s 2 2047).line.idx = 19 ∧ (s 2 2047).line.lastStart ≠ some (((s 2 2047).line.cyc + 1) % 256))
      ∧ ((s 0 148).powered = true ∧ (s 0 148).line.idx = 19 ∧ (s 0 148).line.lastStart ≠ some (((s 0 148).line.cyc + 1) % 256))
      ∧ (((s 2 2047).heater.group 0).st = .enabled ∧ 4 ≤ ((s 2 2047).sense.onWin 0).count ∧ ((s 2 2047).sense.onWin 0).window ≠ []
        ∧ (∃ c ∈ ((s 2 2047).sense.onWin 0).window, c.toInt = 2047) ∧ 2 ≤ ((s 2 2047).heater.group 0).strikes
        ∧ 0 < (s 2 2047).heater.groups.length ∧ 12 < (s 2 2047).events.counters.length)
      ∧ ((s 0 148).heater.group 0).openFlag = false
      ∧ (Int.tdiv (((s 0 148).sense.onWin 0).window.map BitVec.toInt).sum ((s 0 148).sense.onWin 0).window.length).toNat
          / (2 * ((s 0 148).sense.channel 0).gain) < (s 0 148).mgmt.working.heat.rating 0 / 4
      ∧ ((s 2 2047).heater.group 1).st = .enabled ∧ ((s 2 2047).sense.onWin 1).count < 4 := by
  exact ⟨by decide, by decide, by decide, by decide, by decide, by decide⟩

theorem witness_SlotBoundarySetsOutputs :
    let s : State := { base with line := { base.line with idx := 19, tick := 80 }, heater := { base.heater with slot := 98 } }
    s.powered = true ∧ 3 < 4 ∧ s.heater.slot = 5 * s.line.idx + 3 ∧ s.line.tick ≤ 20 * (3 + 1) ∧ 3 < s.heater.groups.length
      ∧ (s.heater.group 3).n ≤ 100 := by decide

theorem witness_BeaconRealignsAndSupervises :
    (deliver 4 beacon19 lead).holds 4 (first 4 beacon19) [] ∧ lead.census.lead = .holding
      ∧ (deliver 4 beacon19 member).holds 4 (first 4 beacon19) []
      ∧ (∃ b, readBeacon (first 4 beacon19).frame.payload = some b ∧ b.idx ≤ 19 ∧ member.census.lead = .off ∧ member.census.cs = .settled
        ∧ (first 4 beacon19).frame.epoch = member.census.epoch)
      ∧ (let s : State := { member with census := { member.census with epoch := 8 } }
         (deliver 4 beacon19 s).holds 4 (first 4 beacon19) [] ∧ (first 4 beacon19).frame.epoch ≠ s.census.epoch)
      ∧ (deliver 4 beacon19 base).holds 4 (first 4 beacon19) [] ∧ (base.census.lead = .off ∧ base.census.cs = .detached ∧ base.census.staleArmed = true)
      ∧ (deliver 4 beacon19 survey).holds 4 (first 4 beacon19) [] ∧ (survey.census.lead = .off ∧ survey.census.cs = .survey) :=
  ⟨holds_deliver _ _ _ rfl, rfl, holds_deliver _ _ _ rfl, ⟨_, rfl, by decide, rfl, rfl, by decide⟩,
    ⟨holds_deliver _ _ _ rfl, by decide⟩, holds_deliver _ _ _ rfl, by decide, holds_deliver _ _ _ rfl, by decide⟩

theorem witness_ZeroSpeedLossClosesDoors :
    let s := withSide releasedSide member
    (s.powered = true ∧ s.line.zsp = true ∧ s.line.zsp ≠ false ∧ s.line.permit = true ∧ (s.doors.side .one).st = .released)
      ∧ (s.doors.side .two).st = .locked ∧ (base.line.zsp ≠ true ∧ base.line.permit = false)
      ∧ (((withSide (warningSide false) member).doors.side .one).st = .warning
        ∧ ((withSide (warningSide false) member).doors.side .one).loop = false
        ∧ ((withSide (warningSide true) member).doors.side .one).loop = true) := by decide

theorem witness_SupervisionExpiryLosesLine :
    let s := withSide releasedSide member
    (base.powered = true ∧ base.line.timer = none)
      ∧ (s.powered = true ∧ s.line.timer ≠ none ∧ s.census.cs = .settled ∧ s.line.zsp = true ∧ (s.doors.side .one).st = .released) := by
  decide

theorem witness_DoorOrderObeyedOrRefused :
    let order : List Byte := [0, 0, 2, 2, 7]
    let close : List Byte := [0, 1, 1, 32, 7]
    (deliver 5 order member).holds 5 (first 5 order) []
      ∧ readDoorOrder order = some { side := some .left, action := some .release, first := 2, last := 2, epoch := 7 }
      ∧ (1 ≤ 2 ∧ 2 ≤ member.census.position ∧ member.census.position ≤ 2 ∧ 2 ≤ 32)
      ∧ (member.census.cs = .settled ∧ member.census.epoch = 7 ∧ member.mgmt.working.door.count1 ≠ 0 ∧ member.line.permit = true
        ∧ (member.doors.side .one).st ≠ .absent ∧ (member.doors.side .one).st ≠ .released)
      ∧ (let s : State := { member with line := { member.line with permit := false } }
         (deliver 5 order s).holds 5 (first 5 order) [] ∧ s.line.permit = false)
      ∧ (let s := withSide releasedSide member
         (deliver 5 close s).holds 5 (first 5 close) [] ∧ (s.doors.side .one).st = .released
          ∧ readDoorOrder close = some { side := some .left, action := some .close, first := 1, last := 32, epoch := 7 })
      ∧ ((deliver 5 order (withSide releasedSide member)).holds 5 (first 5 order) [] ∧ (deliver 5 close member).holds 5 (first 5 close) []
        ∧ (member.doors.side .one).st ≠ .released)
      ∧ (let short : List Byte := [0, 0, 3, 2, 7]
         let odd : List Byte := [2, 0, 1, 2, 7]
         (deliver 5 short member).holds 5 (first 5 short) [] ∧ (deliver 5 odd member).holds 5 (first 5 odd) []
          ∧ (∃ o, readDoorOrder short = some o ∧ o.last < o.first) ∧ ∃ o, readDoorOrder odd = some o ∧ o.side = none) :=
  ⟨holds_deliver _ _ _ rfl, rfl, by decide, by decide, ⟨holds_deliver _ _ _ rfl, rfl⟩, ⟨holds_deliver _ _ _ rfl, rfl, rfl⟩,
    ⟨holds_deliver _ _ _ rfl, holds_deliver _ _ _ rfl, by decide⟩, holds_deliver _ _ _ rfl, holds_deliver _ _ _ rfl, ⟨_, rfl, by decide⟩,
    _, rfl, rfl⟩

theorem witness_LoopAndPhaseMoveSide :
    (base.powered = true ∧ (base.doors.side .one).loop = true)
      ∧ (((withSide closingSide base).doors.side .one).loop = false ∧ ((withSide closingSide base).doors.side .one).st = .closing)
      ∧ (base.doors.side .one).st = .locked
      ∧ (((withSide releasedSide base).doors.side .one).loop ≠ true ∧ ((withSide releasedSide base).doors.side .one).st = .released)
      ∧ (base.doors.side .one).st ≠ .warning
      ∧ (((withSide (warningSide true) base).doors.side .one).st = .warning ∧ ((withSide (warningSide true) base).doors.side .one).mode = .steady)
      ∧ ((withSide { warningSide true with mode := .pulsed } base).doors.side .one).mode = .pulsed := by decide

theorem witness_SideTimersExpire :
    (base.powered = true ∧ (base.doors.side .one).st = .locked)
      ∧ (((withSide releasedSide base).doors.side .one).st = .released ∧ ((withSide releasedSide base).doors.side .one).timer ≠ none)
      ∧ (((withSide (warningSide true) base).doors.side .one).timer ≠ none ∧ ((withSide (warningSide true) base).doors.side .one).loop = true)
      ∧ ((withSide (warningSide false) base).doors.side .one).loop = false
      ∧ (((withSide closingSide base).doors.side .one).st = .closing ∧ ((withSide closingSide base).doors.side .one).timer ≠ none) := by decide

theorem witness_DoorReportsTaken :
    let ok : List Byte := [8, 0, 1, 2, 3, 0, 1, 2, 3, 0]
    let state : List Byte := [2, 7, 1, 0, 0, 0, 0, 5, 5, 4, 8, 8, 1]
    ((bring 2 ok base).brings 2 (byte 8 :: ([0, 1, 2, 3, 0, 1, 2, 3] ++ byte 0 :: [])) ∧ [0, 1, 2, 3, 0, 1, 2, 3].length ≤ 8)
      ∧ ((bring 2 [9, 0, 0, 0, 0, 0, 0, 0, 0, 0, 0] base).brings 2 (byte 9 :: (List.replicate 9 0 ++ byte 0 :: []))
        ∧ 8 < (List.replicate 9 (0 : Byte)).length ∧ 15 < base.events.counters.length)
      ∧ (deliver 6 state lead).holds 6 (first 6 state) []
      ∧ (∃ r a b, readDoorState state = some r ∧ r.side1 = some a ∧ r.side2 = some b ∧ lead.census.lead = .holding ∧ r.epoch = lead.census.epoch
        ∧ 2 ≤ r.pos ∧ r.pos ≤ lead.summary.recs.length ∧ ∃ x ∈ lead.summary.recs, x.pos = r.pos ∧ x.id = (first 6 state).frame.srcId)
      ∧ (deliver 6 state member).holds 6 (first 6 state) [] ∧ member.census.lead ≠ .holding :=
  ⟨⟨⟨rfl, rfl⟩, by decide⟩, ⟨⟨rfl, rfl⟩, by decide, by decide⟩, holds_deliver _ _ _ rfl,
    ⟨_, _, _, rfl, rfl, rfl, rfl, by decide, by decide, by decide, createdRecord { pos := 2, entry := entry 9 .reversed }, by decide, by decide, by decide⟩,
    holds_deliver _ _ _ rfl, by decide⟩

theorem witness_DoorReportsTaken_range :
    let state : List Byte := [2, 7, 6, 0, 0, 0, 0, 5, 5, 4, 8, 8, 1]
    (deliver 6 state lead).holds 6 (first 6 state) [] ∧ ∃ r, readDoorState state = some r ∧ (r.side1 = none ∨ r.side2 = none) :=
  ⟨holds_deliver _ _ _ rfl, _, rfl, by decide⟩

theorem witness_DoorCommandAnswered :
    let c : List Byte := [0, 0, 1, 255]
    let alone : State := { lead with portB := LinePort.reset }
    let shut : State := { lead with line := { lead.line with permit := false }, notices := { lead.notices with flags := 0x1FFF } }
    ((bring 3 c base).brings 3 [0, 0, 1, 255] ∧ (bring 3 c base).link.txQ = [] ∧ (bring 3 c base).link.reserved = 0
      ∧ (bring 3 c base).link.sending ≠ none ∧ base.census.lead = .off)
      ∧ ((bring 3 [2, 0, 1, 1] base).brings 3 [2, 0, 1, 1] ∧ 1 < ([(2 : Byte), 0, 1, 1].getD 0 0).toNat ∧ [(0 : Byte)].length ≠ 4)
      ∧ ((bring 3 c calling).brings 3 [0, 0, 1, 255] ∧ calling.census.lead = .calling)
      ∧ ((bring 3 [0, 0, 2, 1] lead).brings 3 [0, 0, 2, 1] ∧ lead.census.lead = .holding
        ∧ max 1 (min lead.tableSize 1) < max 1 (min lead.tableSize 2))
      ∧ ((bring 3 [0, 0, 2, 2] alone).brings 3 [0, 0, 2, 2] ∧ 1 < max 1 (min alone.tableSize 2) ∧ alone.census.position = 1
        ∧ alone.mated alone.nonCabPort = false)
      ∧ ((bring 3 c lead).brings 3 [0, 0, 1, 255] ∧ max 1 (min lead.tableSize 1) = 1 ∧ lead.census.position = 1 ∧ lead.census.cs = .settled
        ∧ lead.line.permit = true ∧ lead.mgmt.working.door.count1 ≠ 0 ∧ (lead.doors.side .one).st = .locked
        ∧ lead.idleEnd lead.nonCabPort)
      ∧ ((bring 3 [0, 1, 1, 1] (withSide releasedSide lead)).brings 3 [0, 1, 1, 1]
        ∧ ((withSide releasedSide lead).doors.side .one).st = .released)
      ∧ ((bring 3 c shut).brings 3 [0, 0, 1, 255] ∧ shut.line.permit = false ∧ hasFlag shut.notices.flags .doorRefused = true
        ∧ 8 < shut.events.counters.length) :=
  ⟨⟨⟨rfl, rfl⟩, rfl, rfl, by decide, rfl⟩, ⟨⟨rfl, rfl⟩, by decide, by decide⟩, ⟨⟨rfl, rfl⟩, rfl⟩, ⟨⟨rfl, rfl⟩, rfl, by decide⟩,
    ⟨⟨rfl, rfl⟩, by decide, rfl, by decide⟩, ⟨⟨rfl, rfl⟩, by decide, rfl, rfl, rfl, by decide, rfl, by decide⟩, ⟨⟨rfl, rfl⟩, rfl⟩,
    ⟨rfl, rfl⟩, rfl, by decide, by decide⟩

theorem witness_DemandsAndGrantsTaken :
    let demand : List Byte := [2, 7, 0, 7, 255, 100, 1]
    let grant : List Byte := [7, 0, 32, 0, 1, 7, 255]
    ((bring 1 [255] base).brings 1 [255] ∧ (bring 1 [] base).brings 1 [] ∧ ([] : List Byte).length ≠ 1 ∧ 15 < base.events.counters.length)
      ∧ (base.powered = true ∧ base.heater.hold = none)
      ∧ ({ base with heater := { base.heater with hold := some 0 } } : State).heater.hold ≠ none
      ∧ (deliver 7 demand lead).holds 7 (first 7 demand) []
      ∧ (∃ r, readHeatDemand demand = some r ∧ lead.census.lead = .holding ∧ r.epoch = lead.census.epoch ∧ 2 ≤ r.pos
        ∧ r.pos ≤ lead.alloc.recs.length ∧ (∃ x ∈ lead.alloc.recs, x.pos = r.pos ∧ x.id = (first 7 demand).frame.srcId)
        ∧ r.rating ≤ 2047 ∧ r.demand ≤ 100 ∧ r.priority ≤ 1)
      ∧ (deliver 8 grant member).holds 8 (first 8 grant) []
      ∧ (∃ g x, readHeatGrant grant = some g ∧ member.census.cs = .settled ∧ member.census.lead ≠ .holding ∧ g.epoch = member.census.epoch
        ∧ 1 ≤ g.n ∧ g.n ≤ 32 ∧ 1 ≤ member.census.position ∧ member.census.position ≤ g.n
        ∧ g.grants[member.census.position - 1]? = some x ∧ x ≤ 2047) :=
  ⟨⟨⟨rfl, rfl⟩, ⟨rfl, rfl⟩, by decide, by decide⟩, ⟨rfl, rfl⟩, by decide, holds_deliver _ _ _ rfl,
    ⟨_, rfl, rfl, by decide, by decide, by decide,
      ⟨{ pos := 2, id := 9, rating := 600, demand := 0, preferred := false, age := 0 }, by decide, by decide, by decide⟩,
      by decide, by decide, by decide⟩,
    holds_deliver _ _ _ rfl, _, _, rfl, rfl, by decide, by decide, by decide, by decide, by decide, by decide, rfl, by decide⟩

theorem witness_ComputationGrantsWithinBudget :
    let si4 : List Code → Nat → State := fun w age =>
      { busyLead with
        mgmt := { busyLead.mgmt with working := { tables with heat := { tables.heat with undervolt := 1000 } } }
        sense := { busyLead.sense with channels := busyLead.sense.channels.set 4 { gain := 1, window := w, age := some age } } }
    let volts : State → Nat := fun s =>
      (Int.tdiv ((s.sense.channel 4).window.map BitVec.toInt).sum (s.sense.channel 4).window.length).toNat * 2 / (s.sense.channel 4).gain
    (busyLead.powered = true ∧ busyLead.line.idx = 15 ∧ busyLead.census.lead = .holding)
      ∧ (busyLead.sense.mode = .scanCont ∧ 4 ≤ busyLead.sense.stop
        ∧ ({ busyLead with sense := { busyLead.sense with mode := .singleCont, selected := 3 } } : State).sense.selected ≠ 4)
      ∧ ((busyLead.sense.channel 4).window = [] ∧ ((si4 [500] 500).sense.channel 4).age = some 500)
      ∧ (((si4 [499] 499).sense.channel 4).age = some 499 ∧ volts (si4 [499] 499) < 1000 ∧ 1000 ≤ volts (si4 [500] 499)) := by
  decide +kernel

theorem witness_ConversionsStartAndComplete :
    let c : SenseMode → Option Nat → Option Nat → State := fun m scan conv =>
      { base with sense := { base.sense with mode := m, scan := scan, conv := conv, pacer := some 0 } }
    (base.powered = true ∧ (c .single none (some 7)).sense.conv ≠ none)
      ∧ ((c .singleCont none none).sense.pacer ≠ none ∧ (c .singleCont none none).sense.conv = none
        ∧ (c .singleCont none none).sense.mode = .singleCont) ∧ (c .scanCont none none).sense.mode = .scanCont
      ∧ ((c .scan (some 7) none).sense.mode = .scan ∧ (c .scan (some 7) none).sense.scan = some 7)
      ∧ ((c .single none (some 7)).sense.conv = some 7 ∧ 7 < (c .single none (some 7)).sense.channels.length) := by decide

theorem witness_MessagesCutAndSent :
    let cut : State := { base with link := { base.link with asm := some [3] } }
    let m := firstNotice
    let queued : List Message → State := fun b => { base with link := { base.link with txQ := [m], backlog := b } }
    (base.powered = true ∧ base.link.asm = none ∧ (∀ b ∈ [(0 : Byte), 0xA4], b ≠ 0xA5)
      ∧ ([] : List Byte).length < (0 : Byte).toNat + 3 ∧ (List.replicate 257 (0 : Byte)).length < (255 : Byte).toNat + 3
      ∧ (List.replicate 75 (0 : Byte)).length < (73 : Byte).toNat + 3 ∧ 15 < base.events.counters.length)
      ∧ cut.link.asm ≠ none ∧ coach.link.sending = none
      ∧ (base.link.sending ≠ none ∧ base.link.rx = [] ∧ base.link.txQ = [])
      ∧ ((queued []).link.txQ = m :: [] ∧ (queued []).link.backlog = []) ∧ (queued [m]).link.backlog = m :: [] :=
  ⟨⟨by decide, by decide, by decide, by decide, by rw [List.length_replicate]; decide, by rw [List.length_replicate]; decide, by decide⟩,
    by decide, by decide, by decide, by decide, by decide⟩

theorem witness_NoticeSentOnceWhenSet :
    let s : State := { lead with notices := { flags := 0, enable := 0x1FFF } }
    let full : State := { s with link := { s.link with txQ := List.replicate 7 firstNotice, reserved := 1 } }
    let quiet : State := { base with notices := { flags := 0, enable := 0x1FFF } }
    let half : State := { s with sense := { s.sense with
      conv := some 7, capture := true, fifo := List.replicate 15 { channel := 0, code := 0, idx := 0, slot := 0 } } }
    (hasFlag (0x1000 : BitVec 13) .captureHalf = true ∧ hasFlag s.notices.flags .topology = false ∧ hasFlag s.notices.enable .captureHalf = true
      ∧ hasFlag (0 : BitVec 13) .captureHalf = false ∧ s.link.sending ≠ none ∧ s.link.txQ.length + s.link.reserved < 8 ∧ s.census.lead ≠ .off)
      ∧ (8 ≤ full.link.txQ.length + full.link.reserved ∧ 15 < full.events.counters.length)
      ∧ (member.census.lead = .off ∧ member.census.leadEnd = some .one ∧ member.idleEnd (member.endPort .one))
      ∧ (quiet.census.leadEnd = none ∧ quiet.mated .a = false ∧ quiet.mated .b = false
        ∧ ({ quiet with portA := matedPort, portB := matedPort } : State).idleEnd .a)
      ∧ (half.powered = true ∧ half.sense.conv = some 7 ∧ half.sense.capture = true ∧ half.sense.fifo.length = 15) := by decide

theorem asks_ask (code : Nat) (args : List Byte) (s : State) (hp : s.powered = true) (hq : s.link.txQ = []) (hb : s.link.backlog = [])
    (hr : s.link.reserved = 0) (hs : s.link.sending ≠ none) : (ask code args s).asks code 1 2 args := ⟨hp, rfl, hq, hb, hr, hs⟩

theorem asks_base (code : Nat) (args : List Byte) : (ask code args base).asks code 1 2 args :=
  asks_ask code args base rfl rfl rfl rfl (by decide)

theorem witness_ReadsAnsweredAndChangeNothing :
    (∀ code args, (ask code args base).asks code 1 2 args) ∧ [(0 : Byte)] ≠ []
      ∧ ((ask 2 [] base).asks 2 1 2 [] ∧ base.census.table = none) ∧ ((ask 3 [] base).asks 3 1 2 [] ∧ base.census.lead = .off)
      ∧ ((ask 3 [] lead).asks 3 1 2 [] ∧ (ask 4 [] lead).asks 4 1 2 [] ∧ lead.census.lead = .holding ∧ lead.alloc.last = none)
      ∧ ((ask 4 [] calling).asks 4 1 2 [] ∧ calling.census.lead = .calling)
      ∧ ((ask 5 [] base).asks 5 1 2 [] ∧ base.sense.mode = .scanCont ∧ 4 ≤ base.sense.stop) :=
  ⟨fun _ _ => asks_base _ _, by decide, ⟨asks_base _ _, rfl⟩, ⟨asks_base _ _, rfl⟩,
    ⟨asks_ask _ _ _ rfl rfl rfl rfl (by decide), asks_ask _ _ _ rfl rfl rfl rfl (by decide), rfl, rfl⟩,
    ⟨asks_ask _ _ _ rfl rfl rfl rfl (by decide), rfl⟩, asks_base _ _, rfl, by decide⟩

theorem witness_CounterAndNoticeRequests :
    ((ask 7 [0, 32] base).asks 7 1 2 [0, 32] ∧ (1 ≤ (32 : Byte).toNat ∧ (32 : Byte).toNat ≤ 32
      ∧ (0 : Byte).toNat + (32 : Byte).toNat ≤ (ask 7 [0, 32] base).events.counters.length))
      ∧ ((ask 7 [1, 32] base).asks 7 1 2 [1, 32] ∧ ¬((1 : Byte).toNat + (32 : Byte).toNat ≤ (ask 7 [1, 32] base).events.counters.length))
      ∧ (ask 9 [] base).asks 9 1 2 [] ∧ ((ask 10 [32, 0] base).asks 10 1 2 [32, 0] ∧ 32 ≤ (32 : Byte).toNat)
      ∧ ((ask 10 [31, 255] base).asks 10 1 2 [31, 255] ∧ (31 : Byte).toNat < 32 ∧ (ask 10 [31, 255] base).sense.degraded = false)
      ∧ (let s : State := { base with sense := { base.sense with stop := 3 } }
         (ask 10 [31, 255] s).asks 10 1 2 [31, 255] ∧ hasFlag (BitVec.ofNat 13 ((31 : Byte).toNat * 256 + (255 : Byte).toNat)) .senseDegraded = true
          ∧ (ask 10 [31, 255] s).sense.degraded = true)
      ∧ (ask 11 [31, 255] base).asks 11 1 2 [31, 255] :=
  ⟨⟨asks_base _ _, by decide⟩, ⟨asks_base _ _, by decide⟩, asks_base _ _, ⟨asks_base _ _, by decide⟩, ⟨asks_base _ _, by decide, by decide⟩,
    ⟨asks_ask _ _ _ rfl rfl rfl rfl (by decide), by decide, by decide⟩, asks_base _ _⟩

theorem witness_CaptureAndSampleRequests :
    let c : SenseMode → Option Nat → Option Nat → State := fun m scan conv =>
      { base with sense := { base.sense with mode := m, scan := scan, conv := conv } }
    (∀ code, (ask code [] base).asks code 1 2 []) ∧ (∀ m scan conv, (ask 17 [] (c m scan conv)).asks 17 1 2 [])
      ∧ (c .single none none).sense.conv = none ∧ (c .single none (some 0)).sense.conv ≠ none ∧ (c .scan none none).sense.scan = none
      ∧ (c .scan (some 1) none).sense.scan ≠ none ∧ (c .scanCont none none).sense.mode = .scanCont :=
  ⟨fun _ => asks_base _ _, fun _ _ _ => asks_ask _ _ _ rfl rfl rfl rfl (by intro h; cases h), rfl, by decide, rfl, by decide, rfl⟩

theorem witness_SetSenseChangesSettings :
    (∀ gs, (ask 16 (3 :: 7 :: 7 :: 255 :: gs) base).asks 16 1 2 (3 :: 7 :: 7 :: 255 :: gs))
      ∧ (let gs : List Byte := [1, 2, 4, 8, 1, 1, 1, 1]
         gs.length = 8 ∧ ((3 : Byte).toNat ≤ 3 ∧ (7 : Byte).toNat ≤ 7 ∧ 1 ≤ (255 : Byte).toNat ∧ ∀ g ∈ gs, g = 1 ∨ g = 2 ∨ g = 4 ∨ g = 8))
      ∧ (let gs : List Byte := [1, 2, 3, 8, 1, 1, 1, 1]
         gs.length = 8 ∧ ¬(∀ g ∈ gs, g = 1 ∨ g = 2 ∨ g = 4 ∨ g = 8)) :=
  ⟨fun _ => asks_base _ _, by decide, by decide⟩

theorem witness_LoadTableClampsIntoStaging :
    TableName.ofCode (5 : Byte).toNat = some .sense
      ∧ (let vs := [65535, 65535, 65535, 255] ++ List.replicate 8 65535
         1 ≤ vs.length ∧ vs.length ≤ 32 ∧ (∀ v ∈ vs, v ≤ 65535) ∧ vs[3 - (0 : Byte).toNat]? = some 255
          ∧ (ask 12 (5 :: 0 :: vs.flatMap be16) base).asks 12 1 2 (5 :: 0 :: vs.flatMap be16)
          ∧ (0 : Byte).toNat + vs.length ≤ TableName.sense.fields ∧ TableName.sense.fields < (1 : Byte).toNat + vs.length)
      ∧ base.mgmt.staging.cls.length = 32 ∧ base.mgmt.staging.sense.gains.length = 8 :=
  ⟨rfl, ⟨by decide, by decide, by decide, by decide, asks_base _ _, by decide, by decide⟩, by decide, by decide⟩

theorem witness_ApplyJudgedAndSwitched :
    let staged : Tables → State := fun t => { base with mgmt := { base.mgmt with staging := t } }
    let more : Tables := { tables with door := { tables.door with count1 := 3 } }
    let writing : State := { base with mgmt := { base.mgmt with store := .writing { tables := tables, enable := 0 } (.line .a 0 .away) 0 } }
    ((ask 13 [] writing).asks 13 1 2 [] ∧ writing.mgmt.store ≠ .idle)
      ∧ ((ask 13 [] (withSide releasedSide (staged more))).asks 13 1 2 []
        ∧ (withSide releasedSide (staged more)).mgmt.staging.door.count1 ≠ (withSide releasedSide (staged more)).mgmt.working.door.count1
        ∧ ¬((withSide releasedSide (staged more)).doors.side1.st = .locked ∨ (withSide releasedSide (staged more)).doors.side1.st = .absent))
      ∧ ((ask 13 [] base).asks 13 1 2 [] ∧ base.mgmt.store = .idle ∧ base.mgmt.staging = base.mgmt.working
        ∧ (ask 13 [] base).heaterSound = true)
      ∧ ((ask 13 [] (staged more)).asks 13 1 2 [] ∧ (staged more).doors.side1.st = .locked ∧ (staged more).doors.side2.st = .locked)
      ∧ (let swap : Tables := { tables with coach := { tables.coach with endSwap := true }, door := { tables.door with count1 := 0 }
                                            heat := { tables.heat with g0 := 0, g3 := 1 } }
         let on : State → State := fun s => { s with mgmt := { s.mgmt with staging := swap } }
         (ask 13 [] (on lead)).asks 13 1 2 [] ∧ (on lead).census.lead ≠ .off ∧ (on lead).doors.side1.st = .locked
          ∧ (on lead).mgmt.staging.coach.endSwap ≠ (on lead).mgmt.working.coach.endSwap
          ∧ ({ on lead with mgmt := { (on lead).mgmt with working := swap } } : State).cabPort = .b ∧ (on lead).mated .b = true
          ∧ ({ on lead with portB := LinePort.reset } : State).mated .b = false ∧ (on base).census.lead = .off)
      ∧ (let off : Tables := { tables with coach := { tables.coach with drivable := false } }
         let both : Tables := { tables with coach := { tables.coach with endSwap := true, cabEnd := .two } }
         let from' : Tables → Tables → State → State := fun a b s => { s with mgmt := { s.mgmt with working := a, staging := b } }
         let up : Bool → State → State := fun r s => { s with census := { s.census with cab := true, cabRefused := r } }
         ((ask 13 [] (from' tables off lead)).asks 13 1 2 [] ∧ lead.census.lead = .holding ∧ off.coach.drivable = false)
          ∧ ((ask 13 [] (from' off tables (up false base))).asks 13 1 2 [] ∧ (up true base).census.cabRefused = true
            ∧ base.mated base.cabPort = false ∧ (ended .mated 0 0).mated (ended .mated 0 0).cabPort = true)
          ∧ (let s : State := { from' tables both member with notices := { flags := 0x1FFF, enable := 0 } }
             (ask 13 [] s).asks 13 1 2 [] ∧ s.census.lead = .off ∧ both.door = tables.door ∧ 6 < both.coach.arraySize ∧ s.idleEnd .a
              ∧ ({ s with mgmt := { s.mgmt with working := both } } : State).mated
                (({ s with mgmt := { s.mgmt with working := both } } : State).endPort .one) = false ∧ s.census.leadEnd = some .one)) :=
  ⟨⟨asks_ask _ _ _ rfl rfl rfl rfl (by decide), by decide⟩,
    ⟨asks_ask _ _ _ rfl rfl rfl rfl (by decide), by decide, by decide⟩,
    ⟨asks_base _ _, rfl, rfl, by decide +kernel⟩, ⟨asks_ask _ _ _ rfl rfl rfl rfl (by decide), rfl, rfl⟩,
    ⟨asks_ask _ _ _ rfl rfl rfl rfl (by decide), by decide, by decide, by decide, by decide, by decide, by decide, rfl⟩,
    ⟨asks_ask _ _ _ rfl rfl rfl rfl (by decide), rfl, rfl⟩, ⟨asks_ask _ _ _ rfl rfl rfl rfl (by decide), rfl, by decide, by decide⟩,
    asks_ask _ _ _ rfl rfl rfl rfl (by decide), rfl, rfl, by decide, by decide, by decide, rfl⟩

theorem witness_StoreWritesImage :
    let writing : Origin → State := fun o =>
      { base with mgmt := { base.mgmt with store := .writing { tables := tables, enable := 0 } o (u16 1 2) }
                  link := { base.link with reserved := 1 } }
    let line : State := { base with mgmt := { base.mgmt with store := .writing { tables := tables, enable := 0 } (.line .a 0 .away) 0 } }
    ((ask 14 [] base).asks 14 1 2 [] ∧ base.mgmt.store = .idle) ∧ ((ask 14 [] line).asks 14 1 2 [] ∧ line.mgmt.store ≠ .idle)
      ∧ ((writing .coachLink).powered = true ∧ (writing .coachLink).mgmt.store = .writing { tables := tables, enable := 0 } .coachLink (u16 1 2)
        ∧ (writing .coachLink).link.rx = [] ∧ (writing .coachLink).link.sending ≠ none ∧ (writing .coachLink).link.reserved = 1
        ∧ (writing .coachLink).link.backlog = [])
      ∧ (line.mgmt.store = .writing { tables := tables, enable := 0 } (.line .a 0 .away) 0 ∧ line.link.rx = [])
      ∧ (let s : State := { writing (.line .a 9 .away) with portA := matedPort }
         s.powered = true ∧ s.mgmt.store = .writing { tables := tables, enable := 0 } (.line .a 9 .away) (u16 1 2) ∧ s.link.rx = []
          ∧ 9 ≠ s.nodeId ∧ s.idleEnd .a) :=
  ⟨⟨asks_base _ _, rfl⟩, ⟨asks_ask _ _ _ rfl rfl rfl rfl (by decide), by decide⟩, ⟨rfl, rfl, rfl, by decide, rfl, rfl⟩, ⟨rfl, rfl⟩,
    rfl, rfl, rfl, by decide, by decide⟩

theorem witness_HeatingRequests :
    ((ask 15 [15, 255] base).asks 15 1 2 [15, 255] ∧ base.census.lead = .off)
      ∧ ((ask 15 [255, 255] lead).asks 15 1 2 [255, 255] ∧ lead.census.lead ≠ .off)
      ∧ ((ask 20 [4] base).asks 20 1 2 [4] ∧ 3 < (4 : Byte).toNat ∧ (4 : Byte).toNat ≠ 255)
      ∧ ((ask 20 [3] base).asks 20 1 2 [3] ∧ (3 : Byte).toNat ≤ 3 ∧ (base.heater.group (3 : Byte).toNat).st = .notFitted)
      ∧ ((ask 20 [1] base).asks 20 1 2 [1] ∧ (base.heater.group (1 : Byte).toNat).st ≠ .notFitted)
      ∧ ((ask 20 [255] base).asks 20 1 2 [255] ∧ (255 : Byte).toNat = 255) :=
  ⟨⟨asks_base _ _, rfl⟩, ⟨asks_ask _ _ _ rfl rfl rfl rfl (by decide), by decide⟩, ⟨asks_base _ _, by decide, by decide⟩,
    ⟨asks_base _ _, by decide, by decide⟩, ⟨asks_base _ _, by decide⟩, asks_base _ _, by decide⟩

theorem witness_RestartAndRecensusRequests :
    ((ask 22 [] base).asks 22 1 2 [] ∧ base.mgmt.restart = none) ∧ ((ask 22 [] restarting).asks 22 1 2 [] ∧ restarting.mgmt.restart ≠ none)
      ∧ ((ask 21 [] base).asks 21 1 2 [] ∧ base.census.lead = .off)
      ∧ ((ask 21 [] lead).asks 21 1 2 [] ∧ lead.census.lead ≠ .off ∧ (ask 21 [] lead).mated (ask 21 [] lead).nonCabPort = true)
      ∧ (let alone : State := { lead with portB := LinePort.reset }
         (ask 21 [] alone).asks 21 1 2 [] ∧ alone.census.lead ≠ .off ∧ alone.mated alone.nonCabPort = false) :=
  ⟨⟨asks_base _ _, rfl⟩, ⟨asks_ask _ _ _ rfl rfl rfl rfl (by decide), by decide⟩, ⟨asks_base _ _, rfl⟩,
    ⟨asks_ask _ _ _ rfl rfl rfl rfl (by decide), by decide, by decide⟩, asks_ask _ _ _ rfl rfl rfl rfl (by decide), by decide, by decide⟩

/-- The member with its remote-configuration bit set. -/
def remote : State :=
  { member with
    mgmt := { member.mgmt with
      working := { tables with coach := { tables.coach with remoteConfig := true } }
      staging := { tables with coach := { tables.coach with remoteConfig := true } } } }

theorem witness_LineRequestsServed :
    (deliver 9 [9, 1, 2] member).holds 9 (first 9 [9, 1, 2]) [] ∧ (first 9 [9, 1, 2]).frame.payload = byte 9 :: 1 :: 2 :: []
      ∧ takeClass 9 [] = none ∧ member.link.rx = [] ∧ member.mgmt.working.coach.remoteConfig = false
      ∧ (deliver 9 [12, 1, 2, 5, 0, 0, 1] member).holds 9 (first 9 [12, 1, 2, 5, 0, 0, 1]) [] ∧ 1 ≤ (5 : Byte).toNat ∧ (5 : Byte).toNat ≤ 5
      ∧ (deliver 9 [21, 1, 2] lead).holds 9 (first 9 [21, 1, 2]) []
      ∧ (deliver 9 [1, 1, 2] member).holds 9 (first 9 [1, 1, 2]) [] ∧ member.identifyResults.length ≤ 259 :=
  ⟨holds_deliver _ _ _ rfl, rfl, rfl, rfl, rfl, holds_deliver _ _ _ rfl, by decide, by decide, holds_deliver _ _ _ rfl,
    holds_deliver _ _ _ rfl, by decide⟩

theorem witness_LineRequestsServed_permitted :
    (let s : State := { remote with mgmt := { remote.mgmt with staging := tables } }
     (deliver 9 [13, 1, 2] s).holds 9 (first 9 [13, 1, 2]) [] ∧ s.mgmt.staging ≠ s.mgmt.working) ∧
    (deliver 9 [9, 1, 2] remote).holds 9 (first 9 [9, 1, 2]) [] ∧ remote.mgmt.working.coach.remoteConfig = true
      ∧ remote.mated (first 9 [9, 1, 2]).port = true ∧ (remote.port .a).tx = none ∧ (remote.port .a).urgentQ = []
      ∧ (remote.port .a).normalQ = [] ∧ remote.link.sending ≠ none ∧ remote.link.txQ = [] ∧ remote.link.reserved = 0
      ∧ remote.link.backlog = [] ∧ (first 9 [9, 1, 2]).frame.srcId ≠ remote.nodeId ∧ remote.mgmt.store = .idle
      ∧ remote.mgmt.staging = remote.mgmt.working ∧ remote.heaterSound = true :=
  ⟨⟨holds_deliver _ _ _ rfl, by decide⟩, holds_deliver _ _ _ rfl, by and_intros <;> decide +kernel⟩

end Sys2Proof.Tests
end

section
/-! PROOFS. The heating allocation (R127 to R133). The two scaled cases of R131 are treated as one: the class that is scaled, the budget
left to it and the shares of its positions. What the shares drop is no more than the number of positions below their request, so the walk of
R132 gives out the whole remainder, and the grants sum to the budget. -/

namespace Sys2Proof.Machine

/-! ## The walk (R132) -/

/-- A position that the walk may give one hu: it is in the scaled class and its grant is below its request. -/
def openItem (x : Bool × Nat × Nat) : Bool := x.1 && decide (x.2.2 < x.2.1)

theorem walk_cons (left : Nat) (x : Bool × Nat × Nat) (xs : List (Bool × Nat × Nat)) :
    walk left (x :: xs)
      = if openItem x && decide (0 < left) then (x.2.2 + 1) :: walk (left - 1) xs else x.2.2 :: walk left xs := rfl

@[simp] theorem walk_length (left : Nat) (xs : List (Bool × Nat × Nat)) : (walk left xs).length = xs.length := by
  induction xs generalizing left with
  | nil => rfl
  | cons x xs ih => rw [walk_cons]; split <;> simp [ih]

/-- The walk gives out all it has left, or one hu to each open position. -/
theorem walk_sum (left : Nat) (xs : List (Bool × Nat × Nat)) :
    (walk left xs).sum = (xs.map fun x => x.2.2).sum + min left (xs.countP openItem) := by
  induction xs generalizing left with
  | nil => simp [walk]
  | cons x xs ih =>
    rw [walk_cons, List.countP_cons]
    cases hx : openItem x <;> by_cases hl : 0 < left <;> simp [hl, ih] <;> omega

/-- A position receives one hu just when it is open and fewer open positions stand before it than the walk has hu. -/
theorem walk_getElem? (left : Nat) (xs : List (Bool × Nat × Nat)) (i : Nat) :
    (walk left xs)[i]?
      = xs[i]?.map fun x => if openItem x = true ∧ (xs.take i).countP openItem < left then x.2.2 + 1 else x.2.2 := by
  induction xs generalizing left i with
  | nil => simp [walk]
  | cons x xs ih =>
    rw [walk_cons]
    cases i with
    | zero => cases hx : openItem x <;> by_cases hl : 0 < left <;> simp [hx, hl]
    | succ i =>
      simp only [List.getElem?_cons_succ, List.take_succ_cons, List.countP_cons]
      cases hx : openItem x with
      | false => simp [ih]
      | true =>
        rcases Nat.eq_zero_or_pos left with rfl | hl
        · simp [ih]
        · simp [hl, ih, Nat.lt_sub_iff_add_lt]

/-! ## Shares rounded down (R131) -/

/-- Shares rounded down of a budget `b` over a total `t` never exceed it. -/
theorem mul_sum_shares_le (b t : Nat) (rs : List Nat) : t * (rs.map fun r => r * b / t).sum ≤ rs.sum * b := by
  induction rs with
  | nil => simp
  | cons r rs ih =>
    rw [List.map_cons, List.sum_cons, List.sum_cons, Nat.mul_add, Nat.add_mul]
    exact Nat.add_le_add (Nat.mul_div_le _ _) ih

/-- What the rounding drops is made up by one hu for each share below its request. -/
theorem sum_mul_le_shares (b t : Nat) (hb : b ≤ t) (ht : 0 < t) (rs : List Nat) :
    rs.sum * b ≤ t * ((rs.map fun r => r * b / t).sum + rs.countP fun r => decide (r * b / t < r)) := by
  induction rs with
  | nil => simp
  | cons r rs ih =>
    have hr : r * b ≤ t * (r * b / t + if decide (r * b / t < r) = true then 1 else 0) := by
      split
      · exact (Nat.lt_mul_div_succ _ ht).le
      · next hfull =>
        have hle : r ≤ r * b / t := by simpa using hfull
        calc r * b ≤ r * t := Nat.mul_le_mul_left _ hb
          _ ≤ t * (r * b / t + 0) := by rw [Nat.mul_comm]; exact Nat.mul_le_mul_left _ hle
    simp only [List.map_cons, List.sum_cons, List.countP_cons]
    calc (r + rs.sum) * b = r * b + rs.sum * b := Nat.add_mul _ _ _
      _ ≤ _ := Nat.add_le_add hr ih
      _ = _ := by ring

/-- Of a budget below the requests' own total, the shares rounded down leave no more than one hu for each share below its request. -/
theorem sum_shares_bounds (b : Nat) (rs : List Nat) (h : b < rs.sum) :
    (rs.map fun r => r * b / rs.sum).sum ≤ b
      ∧ b ≤ (rs.map fun r => r * b / rs.sum).sum + rs.countP fun r => decide (r * b / rs.sum < r) := by
  have hpos : 0 < rs.sum := by omega
  exact ⟨Nat.le_of_mul_le_mul_left (mul_sum_shares_le b rs.sum rs) hpos,
    Nat.le_of_mul_le_mul_left (sum_mul_le_shares b rs.sum h.le hpos rs) hpos⟩

/-! ## The computation on demand records (R129 to R131) -/

/-- S: the sum of all requests. -/
def requestTotal (recs : List DemandRecord) : Nat := (recs.map DemandRecord.request).sum

/-- S1: the sum of the requests of priority class 1. -/
def preferredTotal (recs : List DemandRecord) : Nat := ((recs.filter fun r => r.preferred).map DemandRecord.request).sum

/-- S0: the sum of the requests of priority class 0. -/
def ordinaryTotal (recs : List DemandRecord) : Nat := ((recs.filter fun r => !r.preferred).map DemandRecord.request).sum

/-- The computation's input: priority class and request of each position. -/
def requestsOf (recs : List DemandRecord) : List (Bool × Nat) := recs.map fun r => (r.preferred, r.request)

/-- The class that a short budget scales: class 1 when its own requests exceed the budget, else class 0. -/
def scaledClass (recs : List DemandRecord) (eff : Nat) : Bool := decide (eff < preferredTotal recs)

/-- The budget left to the scaled class. -/
def scaledBudget (recs : List DemandRecord) (eff : Nat) : Nat :=
  if scaledClass recs eff then eff else eff - preferredTotal recs

/-- The share of a position of the scaled class, rounded down. -/
def scaledShare (recs : List DemandRecord) (eff : Nat) (r : DemandRecord) : Nat :=
  r.request * scaledBudget recs eff / (if scaledClass recs eff then preferredTotal recs else ordinaryTotal recs)

/-- What the class that is not scaled is granted: nothing beside a scaled class 1, its requests beside a scaled class 0. -/
def otherGrant (recs : List DemandRecord) (eff : Nat) (r : DemandRecord) : Nat := if scaledClass recs eff then 0 else r.request

/-- L: the remainder before the walk. -/
def remainder (recs : List DemandRecord) (eff : Nat) : Nat :=
  scaledBudget recs eff - ((recs.filter fun r => r.preferred == scaledClass recs eff).map (scaledShare recs eff)).sum

/-- A position as the walk meets it: in the scaled class, its request, its grant so far. -/
def scaledItem (recs : List DemandRecord) (eff : Nat) (r : DemandRecord) : Bool × Nat × Nat :=
  (r.preferred == scaledClass recs eff, r.request,
    if r.preferred == scaledClass recs eff then scaledShare recs eff r else otherGrant recs eff r)

/-- The grants of a computation. -/
def grantsOf (recs : List DemandRecord) (eff : Nat) : List Nat := (allocate (requestsOf recs) eff).2.2

theorem requests_total (recs : List DemandRecord) : ((requestsOf recs).map Prod.snd).sum = requestTotal recs := by
  simp [requestsOf, requestTotal, Function.comp_def]

theorem requests_preferredTotal (recs : List DemandRecord) :
    (((requestsOf recs).filter fun x => x.1).map Prod.snd).sum = preferredTotal recs := by
  simp [requestsOf, preferredTotal, List.filter_map, Function.comp_def]

theorem requests_ordinaryTotal (recs : List DemandRecord) :
    (((requestsOf recs).filter fun x => !x.1).map Prod.snd).sum = ordinaryTotal recs := by
  simp [requestsOf, ordinaryTotal, List.filter_map, Function.comp_def]

/-- A sum over all positions is the sum over one class and the sum over the other. -/
theorem sum_by_class (c : Bool) (f g : DemandRecord → Nat) (recs : List DemandRecord) :
    (recs.map fun r => if r.preferred == c then f r else g r).sum
      = ((recs.filter fun r => r.preferred == c).map f).sum + ((recs.filter fun r => r.preferred == !c).map g).sum := by
  induction recs with
  | nil => rfl
  | cons r recs ih => cases hr : r.preferred <;> cases c <;> simp_all <;> omega

/-- The two priority classes make up the request total (R129). -/
theorem requestTotal_eq (recs : List DemandRecord) : requestTotal recs = preferredTotal recs + ordinaryTotal recs := by
  simpa [requestTotal, preferredTotal, ordinaryTotal] using sum_by_class true DemandRecord.request DemandRecord.request recs

/-- The divisor of the shares is the request total of the scaled class. -/
theorem scaledTotal_eq (recs : List DemandRecord) (eff : Nat) :
    (if scaledClass recs eff then preferredTotal recs else ordinaryTotal recs)
      = ((recs.filter fun r => r.preferred == scaledClass recs eff).map DemandRecord.request).sum := by
  cases scaledClass recs eff <;> simp [preferredTotal, ordinaryTotal]

/-- A budget that covers all requests grants them (R130). -/
theorem allocate_covered {recs : List DemandRecord} {eff : Nat} (h : requestTotal recs ≤ eff) :
    allocate (requestsOf recs) eff = (.unscaled, 0, recs.map DemandRecord.request) := by
  unfold allocate
  rw [requests_total, if_pos h]
  simp [requestsOf, Function.comp_def]

/-- Before the walk the scaled class holds its shares. -/
theorem scaledItems_sum (recs : List DemandRecord) (eff : Nat) :
    (((recs.map (scaledItem recs eff)).filter fun x => x.1).map fun x => x.2.2).sum
      = ((recs.filter fun r => r.preferred == scaledClass recs eff).map (scaledShare recs eff)).sum := by
  rw [List.filter_map, List.map_map]
  refine congrArg List.sum (List.map_congr_left fun r hr => ?_)
  exact if_pos (List.mem_filter.mp hr).2

/-- The scaled positions, formed by `f` from class and request. -/
theorem requests_map_eq_items {recs : List DemandRecord} {eff : Nat} {f : Bool × Nat → Bool × Nat × Nat}
    (hf : ∀ r : DemandRecord, f (r.preferred, r.request) = scaledItem recs eff r) :
    (requestsOf recs).map f = recs.map (scaledItem recs eff) := by
  rw [requestsOf, List.map_map]
  exact List.map_congr_left fun r _ => hf r

/-- A short budget scales one class and walks through it (R131, R132). -/
theorem allocate_short {recs : List DemandRecord} {eff : Nat} (h : eff < requestTotal recs) :
    allocate (requestsOf recs) eff = (if scaledClass recs eff then .class1Scaled else .class0Scaled, remainder recs eff,
      walk (remainder recs eff) (recs.map (scaledItem recs eff))) := by
  unfold allocate
  simp only [requests_total, requests_preferredTotal, requests_ordinaryTotal, if_neg (Nat.not_le.mpr h)]
  by_cases h1 : preferredTotal recs ≤ eff
  · have hc : scaledClass recs eff = false := by simpa [scaledClass] using h1
    have hitems : ((requestsOf recs).map fun x =>
        (!x.1, x.2, if x.1 then x.2 else x.2 * (eff - preferredTotal recs) / ordinaryTotal recs)) = recs.map (scaledItem recs eff) := by
      refine requests_map_eq_items fun r => ?_
      cases hr : r.preferred <;> simp [hr, hc, scaledItem, scaledShare, otherGrant, scaledBudget]
    simp [h1, hitems, scaledItems_sum, remainder, scaledBudget, hc]
  · have hc : scaledClass recs eff = true := by simpa [scaledClass] using h1
    have hitems : ((requestsOf recs).map fun x => (x.1, x.2, if x.1 then x.2 * eff / preferredTotal recs else 0))
        = recs.map (scaledItem recs eff) := by
      refine requests_map_eq_items fun r => ?_
      cases hr : r.preferred <;> simp [hr, hc, scaledItem, scaledShare, otherGrant, scaledBudget]
    simp [h1, hitems, scaledItems_sum, remainder, scaledBudget, hc]

/-! ## The grants (R130 to R132) -/

theorem grantsOf_covered {recs : List DemandRecord} {eff : Nat} (h : requestTotal recs ≤ eff) :
    grantsOf recs eff = recs.map DemandRecord.request := by rw [grantsOf, allocate_covered h]

theorem grantsOf_short {recs : List DemandRecord} {eff : Nat} (h : eff < requestTotal recs) :
    grantsOf recs eff = walk (remainder recs eff) (recs.map (scaledItem recs eff)) := by rw [grantsOf, allocate_short h]

/-- One grant for each position. -/
theorem grantsOf_length (recs : List DemandRecord) (eff : Nat) : (grantsOf recs eff).length = recs.length := by
  rcases Nat.lt_or_ge eff (requestTotal recs) with h | h
  · simp [grantsOf_short h]
  · simp [grantsOf_covered h]

/-- The budget of the scaled class is below the sum of its requests. -/
theorem scaledBudget_lt {recs : List DemandRecord} {eff : Nat} (h : eff < requestTotal recs) :
    scaledBudget recs eff < (if scaledClass recs eff then preferredTotal recs else ordinaryTotal recs) := by
  rw [requestTotal_eq] at h
  by_cases h1 : eff < preferredTotal recs <;> simp [scaledBudget, scaledClass, h1]
  omega

/-- The positions that stand below their request before the walk. -/
theorem countP_open (recs : List DemandRecord) (eff : Nat) :
    (recs.map (scaledItem recs eff)).countP openItem
      = (recs.filter fun r => r.preferred == scaledClass recs eff).countP fun r => decide (scaledShare recs eff r < r.request) := by
  rw [List.countP_map, List.countP_filter]
  refine List.countP_congr fun r _ => ?_
  cases hr : r.preferred == scaledClass recs eff <;> simp [openItem, scaledItem, hr]

/-- The shares take no more than the class's budget, and leave no more than the walk can give out. -/
theorem classShares_bounds {recs : List DemandRecord} {eff : Nat} (h : eff < requestTotal recs) :
    ((recs.filter fun r => r.preferred == scaledClass recs eff).map (scaledShare recs eff)).sum ≤ scaledBudget recs eff
      ∧ remainder recs eff ≤ (recs.map (scaledItem recs eff)).countP openItem := by
  have hlt := scaledBudget_lt h
  rw [scaledTotal_eq] at hlt
  obtain ⟨hle, hge⟩ := sum_shares_bounds _ _ hlt
  rw [← scaledTotal_eq, List.map_map] at hle hge
  rw [List.countP_map] at hge
  refine ⟨hle, ?_⟩
  rw [countP_open, remainder]
  exact Nat.sub_le_iff_le_add'.mpr hge

/-- The budget of the scaled class and the grants of the other class make up the whole budget. -/
theorem scaledBudget_add_otherGrants (recs : List DemandRecord) (eff : Nat) :
    scaledBudget recs eff + ((recs.filter fun r => r.preferred == !scaledClass recs eff).map (otherGrant recs eff)).sum = eff := by
  cases hc : scaledClass recs eff with
  | true =>
    have hother : otherGrant recs eff = fun _ => 0 := by funext r; simp [otherGrant, hc]
    simp [scaledBudget, hc, hother]
  | false =>
    have hother : otherGrant recs eff = DemandRecord.request := by funext r; simp [otherGrant, hc]
    have hle : preferredTotal recs ≤ eff := by simpa [scaledClass] using hc
    simpa [scaledBudget, hc, hother, preferredTotal] using Nat.sub_add_cancel hle

/-- The grants sum to the smaller of the requests and the budget. -/
theorem grantsOf_sum (recs : List DemandRecord) (eff : Nat) : (grantsOf recs eff).sum = min (requestTotal recs) eff := by
  rcases Nat.lt_or_ge eff (requestTotal recs) with h | h
  · obtain ⟨hle, hopen⟩ := classShares_bounds h
    have hgrants : ((recs.map (scaledItem recs eff)).map fun x => x.2.2).sum
        = ((recs.filter fun r => r.preferred == scaledClass recs eff).map (scaledShare recs eff)).sum
          + ((recs.filter fun r => r.preferred == !scaledClass recs eff).map (otherGrant recs eff)).sum := by
      rw [List.map_map]; exact sum_by_class _ _ _ _
    rw [grantsOf_short h, walk_sum, hgrants, Nat.min_eq_left hopen, Nat.min_eq_right h.le, remainder]
    have := scaledBudget_add_otherGrants recs eff
    omega
  · rw [grantsOf_covered h, Nat.min_eq_left h, requestTotal]

/-- What one position is granted when the budget is short: its share or its class's flat grant, and one hu more when it is open and the
walk reaches it. -/
theorem grantsOf_short_getD {recs : List DemandRecord} {eff i : Nat} {r : DemandRecord} (h : eff < requestTotal recs)
    (hr : recs[i]? = some r) :
    (grantsOf recs eff).getD i 0
      = if openItem (scaledItem recs eff r) = true ∧ ((recs.map (scaledItem recs eff)).take i).countP openItem < remainder recs eff
        then (scaledItem recs eff r).2.2 + 1 else (scaledItem recs eff r).2.2 := by
  simp [grantsOf_short h, walk_getElem?, List.getD_eq_getElem?_getD, hr]

/-- A position of the class that is not scaled is granted its flat grant. -/
theorem grantsOf_other {recs : List DemandRecord} {eff i : Nat} {r : DemandRecord} (h : eff < requestTotal recs) (hr : recs[i]? = some r)
    (hc : r.preferred ≠ scaledClass recs eff) : (grantsOf recs eff).getD i 0 = otherGrant recs eff r := by
  rw [grantsOf_short_getD h hr]
  simp [scaledItem, openItem, hc]

/-- A position of the scaled class is granted its share, and one hu more when the share is below its request and fewer such positions
stand before it than the remainder has hu. -/
theorem grantsOf_scaled {recs : List DemandRecord} {eff i : Nat} {r : DemandRecord} (h : eff < requestTotal recs) (hr : recs[i]? = some r)
    (hc : r.preferred = scaledClass recs eff) :
    (grantsOf recs eff).getD i 0
      = if scaledShare recs eff r < r.request ∧ ((recs.map (scaledItem recs eff)).take i).countP openItem < remainder recs eff
        then scaledShare recs eff r + 1 else scaledShare recs eff r := by
  rw [grantsOf_short_getD h hr]
  simp [scaledItem, openItem, hc]

theorem grantsOf_scaled_cases {recs : List DemandRecord} {eff i : Nat} {r : DemandRecord} (h : eff < requestTotal recs)
    (hr : recs[i]? = some r) (hc : r.preferred = scaledClass recs eff) :
    (grantsOf recs eff).getD i 0 = scaledShare recs eff r ∨ (grantsOf recs eff).getD i 0 = scaledShare recs eff r + 1 := by
  rw [grantsOf_scaled h hr hc]
  split
  · exact .inr rfl
  · exact .inl rfl

/-- The walk passes over no position below its request before one that it gives an hu (R132). -/
theorem grantsOf_walk_in_order {recs : List DemandRecord} {eff i j : Nat} {x y : DemandRecord} (h : eff < requestTotal recs) (hij : i < j)
    (hx : recs[i]? = some x) (hy : recs[j]? = some y) (hcx : x.preferred = scaledClass recs eff) (hcy : y.preferred = scaledClass recs eff)
    (hopen : scaledShare recs eff x < x.request) (hgiven : (grantsOf recs eff).getD j 0 = scaledShare recs eff y + 1) :
    (grantsOf recs eff).getD i 0 = scaledShare recs eff x + 1 := by
  rw [grantsOf_scaled h hy hcy] at hgiven
  have hleft : ((recs.map (scaledItem recs eff)).take j).countP openItem < remainder recs eff := by
    by_contra hn
    simp [hn] at hgiven
  have hbefore := (List.take_sublist_take_left (l := recs.map (scaledItem recs eff)) hij.le).countP_le (p := openItem)
  rw [grantsOf_scaled h hx hcx, if_pos ⟨hopen, hbefore.trans_lt hleft⟩]

/-- A share is never above its request. -/
theorem scaledShare_le {recs : List DemandRecord} {eff : Nat} (h : eff < requestTotal recs) (r : DemandRecord) :
    scaledShare recs eff r ≤ r.request :=
  Nat.div_le_of_le_mul (by rw [Nat.mul_comm]; exact Nat.mul_le_mul_right _ (scaledBudget_lt h).le)

/-- No position is granted more than its request. -/
theorem grantsOf_le_request (recs : List DemandRecord) (eff : Nat) {i : Nat} {r : DemandRecord} (hr : recs[i]? = some r) :
    (grantsOf recs eff).getD i 0 ≤ r.request := by
  rcases Nat.lt_or_ge eff (requestTotal recs) with h | h
  · by_cases hc : r.preferred = scaledClass recs eff
    · have := scaledShare_le h r
      rw [grantsOf_scaled h hr hc]
      split <;> omega
    · rw [grantsOf_other h hr hc, otherGrant]
      split <;> omega
  · simp [grantsOf_covered h, List.getD_eq_getElem?_getD, hr]

/-! ## The voltage (R127) -/

/-- Which channels the running mode supervises (R156). -/
theorem Sense.supervised_iff (c : Sense) (ch : Nat) :
    c.supervised ch = true ↔ (c.mode = .scanCont ∧ ch ≤ c.stop) ∨ (c.mode = .singleCont ∧ ch = c.selected) := by
  cases hm : c.mode <;> simp [Sense.supervised, hm]

/-- A channel is not stale when it holds a code and its newest one is below 500 ms old (R155). -/
theorem Channel.not_stale_iff (ch : Channel) :
    ¬ch.stale = true ↔ ch.window ≠ [] ∧ (ch.age.any fun ms => decide (ms < 500)) = true := by
  cases ha : ch.age with
  | none => simp [Channel.stale, ha]
  | some ms =>
    have hms : decide (Config.staleMs ≤ ms) = !decide (ms < 500) := by
      rw [← decide_not]; exact decide_eq_decide.mpr Nat.not_lt.symm
    simp [Channel.stale, ha, hms]

/-- A code of SI4 as volts (R151). -/
theorem quantity_si4 (gain : Nat) (code : Int) : (quantity 4 gain code).toNat = code.toNat * 2 / gain := by
  rw [quantity, if_pos rfl, Int.toNat_natCast]

/-- The average of SI4 in volts (R151, R155). -/
def State.volts (s : State) : Nat :=
  (Int.tdiv ((s.sense.channel 4).window.map BitVec.toInt).sum (s.sense.channel 4).window.length).toNat * 2 / (s.sense.channel 4).gain

theorem State.judgeVoltage_unsupervised {s : State} (h : ¬s.sense.supervised 4 = true) : s.judgeVoltage = .skippedUnsupervised := by
  simp [State.judgeVoltage, h]

theorem State.judgeVoltage_stale {s : State} (h : s.sense.supervised 4 = true) (hs : (s.sense.channel 4).stale = true) :
    s.judgeVoltage = .skippedStale := by
  simp [State.judgeVoltage, h, hs]

/-- A fresh average of a supervised SI4 is compared with the threshold. -/
theorem State.judgeVoltage_fresh {s : State} (h : s.sense.supervised 4 = true) (hs : ¬(s.sense.channel 4).stale = true) :
    s.judgeVoltage = if s.volts < s.mgmt.working.heat.undervolt then .undervoltage else .normal := by
  have hw := ((s.sense.channel 4).not_stale_iff.mp hs).1
  simp [State.judgeVoltage, h, hs, average, hw, quantity_si4, State.volts]
  rfl

/-- UNDERVOLTAGE is judged just when a fresh average of a supervised SI4 lies below the threshold. -/
theorem State.judgeVoltage_undervoltage_iff (s : State) :
    s.judgeVoltage = .undervoltage
      ↔ s.sense.supervised 4 = true ∧ ¬(s.sense.channel 4).stale = true ∧ s.volts < s.mgmt.working.heat.undervolt := by
  by_cases h : s.sense.supervised 4 = true
  · by_cases hs : (s.sense.channel 4).stale = true
    · simp [State.judgeVoltage_stale h hs, hs]
    · simp [State.judgeVoltage_fresh h hs, h, hs]
  · simp [State.judgeVoltage_unsupervised h, h]

/-! ## The computation of a lead in HOLDING (R128, R133) -/

theorem State.compute_alloc (s : State) : s.compute.alloc = s.allocation (nextCycle s.line.cyc) := by simp [State.compute]

/-- The lead's own grant is staged for the next cycle (R133). -/
theorem State.compute_staged (s : State) {a : Allocation} (ha : (s.allocation (nextCycle s.line.cyc)).last = some a) :
    s.compute.heater.staged = some { grant := a.grants.getD 0 0, epoch := s.census.epoch, cyc := nextCycle s.line.cyc } := by
  simp [State.compute, State.stageGrant, ha]

theorem State.sendBeacon_quiet (s : State) : Quiet s s.sendBeacon := by
  unfold State.sendBeacon
  split
  · exact State.originate_quiet _ _ _
  · exact Quiet.refl s

/-- The tick that enters index 16 at a lead in HOLDING makes the computation, and then sends the beacon. -/
theorem State.cycleTick_computes {s : State} (hidx : s.line.idx = 15) (hlead : s.census.lead = .holding) :
    s.cycleTick = ({ s with line := { s.line with idx := 16, tick := 0 } } : State).readSlot.compute.sendBeacon := by
  have hadv : s.line.advance = { s.line with idx := 16, tick := 0 } := by simp [Supervisor.advance, hidx]
  simp [State.cycleTick, State.indexEntry, State.indexWork, State.holding, hadv, hlead]

/-- The demand records with their ages raised (R128). -/
def State.agedRecords (s : State) : List DemandRecord := s.alloc.recs.map fun r => { r with age := min 4 (r.age + 1) }

/-- The record of the computation that this state makes for cycle `c` (R128). -/
def State.computed (c : Nat) (s : State) : Allocation :=
  let eff := effectiveBudget s.judgeVoltage s.alloc.budget
  { cyc := c, effective := eff, judged := s.judgeVoltage, total := requestTotal s.agedRecords, total1 := preferredTotal s.agedRecords,
    total0 := ordinaryTotal s.agedRecords, case := (allocate (requestsOf s.agedRecords) eff).1,
    remainder := (allocate (requestsOf s.agedRecords) eff).2.1, grants := grantsOf s.agedRecords eff }

theorem State.allocation_eq (c : Nat) (s : State) :
    s.allocation c = { recs := s.agedRecords, budget := s.alloc.budget, judged := s.judgeVoltage
                       effective := (s.computed c).effective, last := some (s.computed c) } := by
  simp only [State.computed, ← requests_total, ← requests_preferredTotal, ← requests_ordinaryTotal]
  rfl

/-- The tick into index 16 leaves the allocator with the computation made on the state before it, which reading the slot does not
touch. -/
theorem State.cycleTick_alloc {s : State} (hidx : s.line.idx = 15) (hlead : s.census.lead = .holding) :
    s.cycleTick.alloc = s.allocation (nextCycle s.line.cyc) := by
  rw [State.cycleTick_computes hidx hlead, (State.sendBeacon_quiet _).alloc, State.compute_alloc]
  rfl

theorem State.cycleTick_staged {s : State} (hidx : s.line.idx = 15) (hlead : s.census.lead = .holding) :
    s.cycleTick.heater.staged = some { grant := (s.computed (nextCycle s.line.cyc)).grants.getD 0 0, epoch := s.census.epoch
                                       cyc := nextCycle s.line.cyc } := by
  rw [State.cycleTick_computes hidx hlead, (State.sendBeacon_quiet _).heater,
    State.compute_staged _ (congrArg Allocator.last (State.allocation_eq _ _))]
  rfl

end Sys2Proof.Machine
end

section
open Sys2Proof Sys2Proof.Machine

/-- Settles O47: the tick makes the computation `State.computed`; the voltage follows the judgement's cases, and the grants are the covered
requests or the walk over one scaled class. -/
theorem computationGrantsWithinBudget : Obligations.ComputationGrantsWithinBudget := by
  intro s hp hidx hlead recs si4 watched fresh volts eff request total total1 total0 scaled budget share
  have hwatched : s.sense.supervised 4 = true ↔ watched := s.sense.supervised_iff 4
  have hfresh : ¬si4.stale = true ↔ fresh := si4.not_stale_iff
  have hlow : s.judgeVoltage = .undervoltage ↔ watched ∧ fresh ∧ volts < s.mgmt.working.heat.undervolt :=
    s.judgeVoltage_undervoltage_iff.trans (and_congr hwatched (and_congr hfresh Iff.rfl))
  have hjudged (hw : watched) (hf : fresh) :
      s.judgeVoltage = if volts < s.mgmt.working.heat.undervolt then .undervoltage else .normal :=
    State.judgeVoltage_fresh (hwatched.mpr hw) (hfresh.mpr hf)
  have heff : effectiveBudget s.judgeVoltage s.alloc.budget = eff := if_congr hlow rfl rfl
  refine ⟨s.cycleTick, s.computed (nextCycle s.line.cyc), State.run_powered _ hp, ?alloc,
    fun hw => State.judgeVoltage_unsupervised (mt hwatched.mp hw),
    fun hw hf => State.judgeVoltage_stale (hwatched.mpr hw) (not_not.mp (mt hfresh.mp hf)),
    fun hw hf hlt => (hjudged hw hf).trans (if_pos hlt), fun hw hf hge => (hjudged hw hf).trans (if_neg (Nat.not_lt.mpr hge)),
    rfl, heff, rfl, rfl, rfl, requestTotal_eq recs, ?_⟩
  case alloc => rw [State.cycleTick_alloc hidx hlead, State.allocation_eq, ← heff]; rfl
  simp only [State.computed, heff]
  refine ⟨grantsOf_length recs eff, grantsOf_sum recs eff, fun i r hr => grantsOf_le_request recs eff hr, fun h => ?covered,
    fun h => ?short, heff ▸ State.cycleTick_staged hidx hlead⟩
  case covered =>
    have hall := allocate_covered (recs := recs) h
    exact ⟨congrArg Prod.fst hall, congrArg (fun x => x.2.1) hall, grantsOf_covered h⟩
  case short =>
    have hall := allocate_short (recs := recs) h
    exact ⟨congrArg Prod.fst hall, congrArg (fun x => x.2.1) hall, fun i r hr hc => grantsOf_other h hr hc,
      fun i r hr hc => grantsOf_scaled_cases h hr hc,
      fun i j x y hij hx hy hcx hcy hopen hgiven => grantsOf_walk_in_order h hij hx hy hcx hcy hopen hgiven⟩

end

section
/-! PROOFS. The capture requests and SAMPLE (R153, R160, R161). Each of the four takes no arguments and touches no block but the sense
converter, so that over the coach link it answers the state with its reply queued and the converter replaced; what is left is what each
does to the converter. -/

namespace Sys2Proof.Machine

/-! ## A request without arguments over the coach link -/

/-- Both tests of R173 pass a request without arguments that comes over the coach link and whose type takes none. -/
theorem State.judge_coachLink_noArgs {v : Service} (hform : v.form = noArgs) (tag : Nat) (s : State) :
    s.judge v .coachLink { kind := v.code, tag := tag, args := [] } = v.act .coachLink { kind := v.code, tag := tag, args := [] } s := by
  simp [State.judge, hform, noArgs, Origin.overLine]

/-- The answer to a request that takes no arguments and changes the sense converter alone. -/
theorem State.run_senseRequest {v : Service} {s : State} {h l : Byte} {st : Status} {results : List Byte} {c : Sense}
    (hcode : v.code < 256) (hform : v.form = noArgs)
    (hact : ∀ (r : Request) (k : Link),
      v.act .coachLink r { s with link := k } = (.now st results, { s with link := k, sense := c }))
    (hs : s.asks v.code h l []) :
    s.run (fun x => x.serve .coachLink v) = .next { s.answered v.code h l st results with sense := c } :=
  run_asks v s { s with sense := c } h l [] st results hcode hs fun k => by rw [State.judge_coachLink_noArgs hform, hact]

/-! ## The four requests -/

theorem exec_startCapture {s : State} {h l : Byte} (hs : s.asks 18 h l []) :
    exec (.startCapture .coachLink) s = .next { s.answered 18 h l .ok [] with sense := s.sense.startCapture } :=
  State.run_senseRequest (v := startCaptureService) (by decide) rfl (fun _ _ => rfl) hs

theorem exec_stopCapture {s : State} {h l : Byte} (hs : s.asks 19 h l []) :
    exec (.stopCapture .coachLink) s = .next { s.answered 19 h l .ok [] with sense := s.sense.stopCapture } :=
  State.run_senseRequest (v := stopCaptureService) (by decide) rfl (fun _ _ => rfl) hs

/-- The results of READ CAPTURE (R161, R183): the oldest entries behind their number, the number left, and the capture-lost count. -/
def Sense.captureResults (c : Sense) : List Byte :=
  listBytes Captured.bytes (c.fifo.take captureRead) ++ [byte (c.fifo.drop captureRead).length] ++ be16 c.lost

theorem exec_readCapture {s : State} {h l : Byte} (hs : s.asks 6 h l []) :
    exec (.readCapture .coachLink) s = .next { s.answered 6 h l .ok s.sense.captureResults with
      sense := { s.sense with fifo := s.sense.fifo.drop captureRead } } :=
  State.run_senseRequest (v := readCaptureService) (by decide) rfl (fun _ _ => rfl) hs

theorem exec_sample {s : State} {h l : Byte} (hs : s.asks 17 h l []) :
    exec (.sample .coachLink) s = .next { s.answered 17 h l s.sense.sampleRequest.1 [] with sense := s.sense.sampleRequest.2 } :=
  State.run_senseRequest (v := sampleService) (by decide) rfl (fun _ _ => rfl) hs

/-! ## The coding of READ CAPTURE (R183) -/

theorem Captured.bytes_eq : Captured.bytes = fun e => byte e.channel :: (codeBytes e.code.toInt ++ [byte e.idx, byte e.slot]) := rfl

/-- The number returned and the number left are told by the length of the FIFO. -/
theorem Sense.captureResults_eq (c : Sense) :
    c.captureResults = byte (min 16 c.fifo.length) :: ((c.fifo.take 16).flatMap fun e =>
      byte e.channel :: (codeBytes e.code.toInt ++ [byte e.idx, byte e.slot])) ++ byte (c.fifo.length - 16) :: be16 c.lost := by
  simp [Sense.captureResults, listBytes, captureRead, Captured.bytes_eq]

/-! ## SAMPLE by mode (R153) -/

theorem Sense.sampleRequest_single_idle {c : Sense} (hm : c.mode = .single) (hc : c.conv = none) :
    c.sampleRequest = (.ok, { c with conv := some c.selected }) := by
  simp [Sense.sampleRequest, hm, hc]

theorem Sense.sampleRequest_single_busy {c : Sense} (hm : c.mode = .single) (hc : c.conv ≠ none) : c.sampleRequest = (.busy, c) := by
  simp [Sense.sampleRequest, hm, hc]

/-- A SCAN begins on channel 0, and channel 1 follows where the stop channel allows one. -/
theorem Sense.sampleRequest_scan_idle {c : Sense} (hm : c.mode = .scan) (hc : c.scan = none) :
    c.sampleRequest = (.ok, { c with scan := some (if 0 < c.stop then 1 else 0), conv := some 0, pacer := some c.interval }) := by
  simp [Sense.sampleRequest, hm, hc, scanNext]

theorem Sense.sampleRequest_scan_running {c : Sense} (hm : c.mode = .scan) (hc : c.scan ≠ none) : c.sampleRequest = (.busy, c) := by
  simp [Sense.sampleRequest, hm, hc]

theorem Sense.sampleRequest_continuous {c : Sense} (hm : c.mode = .singleCont ∨ c.mode = .scanCont) :
    c.sampleRequest = (.refused, c) := by
  rcases hm with hm | hm <;> simp [Sense.sampleRequest, hm]

end Sys2Proof.Machine
end

section
open Sys2Proof Sys2Proof.Machine

/-- Settles O53: each request is answered by what it does to the converter, and SAMPLE by the cases of R153. -/
theorem captureAndSampleRequests : Obligations.CaptureAndSampleRequests := by
  intro s h l c
  refine ⟨exec_startCapture, exec_stopCapture, fun hs => ?read, fun hs => ?sample⟩
  case read => rw [exec_readCapture hs, Sense.captureResults_eq]; rfl
  case sample =>
    rw [exec_sample hs]
    refine ⟨fun hm hc => ?_, fun hm hc => ?_, fun hm hc => ?_, fun hm hc => ?_, fun hm => ?_⟩
    · rw [Sense.sampleRequest_single_idle hm hc]
    · rw [Sense.sampleRequest_single_busy hm hc]; rfl
    · rw [Sense.sampleRequest_scan_idle hm hc]
    · rw [Sense.sampleRequest_scan_running hm hc]; rfl
    · rw [Sense.sampleRequest_continuous hm]; rfl

end

section
/-! PROOFS. The events of the doors, the line and the census: what each changes, said once. An event leaves power, identity, tables, the
sense converter and the frames that wait as they were, changes no more of the heater switch than D and the staged grant, and uses ports,
counters, flags and coach link as the quiet operations do. The census record, the line supervisor and the door sides after each operation
are given as equations. -/

namespace Sys2Proof.Machine

/-! ## Events -/

/-- What an event of the doors, the line or the census leaves as it was, and what it may change. -/
structure Eventful (s t : State) : Prop where
  powered : t.powered = s.powered
  nodeId : t.nodeId = s.nodeId
  strap : t.strap = s.strap
  delivered : t.delivered = s.delivered
  sense : t.sense = s.sense
  mgmt : t.mgmt = s.mgmt
  pending : t.pending = s.pending
  heater : t.heater = { s.heater with demandD := t.heater.demandD, staged := t.heater.staged }
  demand : (t.doors.derate = s.doors.derate ∧ t.heater.demandD = s.heater.demandD)
    ∨ t.heater.demandD = effectiveDemand s.heater.demandT t.doors.derate s.mgmt.working.heat.derate
  portA : PortQuiet s.portA t.portA
  portB : PortQuiet s.portB t.portB
  size : t.events.counters.length = s.events.counters.length
  enable : t.notices.enable = s.notices.enable
  flags : ∀ f, hasFlag s.notices.flags f = true → hasFlag t.notices.flags f = true
  asm : t.link.asm = s.link.asm
  rx : t.link.rx = s.link.rx
  reserved : t.link.reserved = s.link.reserved

theorem Quiet.eventful {s t : State} (h : Quiet s t) : Eventful s t :=
  { powered := h.powered, nodeId := h.nodeId, strap := h.strap, delivered := h.delivered, sense := h.sense, mgmt := h.mgmt
    pending := h.pending, heater := by rw [h.heater], demand := .inl ⟨by rw [h.doors], by rw [h.heater]⟩, portA := h.portA, portB := h.portB, size := h.size, enable := h.enable
    flags := h.flags, asm := h.asm, rx := h.rx, reserved := h.reserved }

theorem Eventful.refl (s : State) : Eventful s s := (Quiet.refl s).eventful

theorem Eventful.trans {s t u : State} (h : Eventful s t) (k : Eventful t u) : Eventful s u :=
  { powered := k.powered.trans h.powered, nodeId := k.nodeId.trans h.nodeId, strap := k.strap.trans h.strap
    delivered := k.delivered.trans h.delivered, sense := k.sense.trans h.sense, mgmt := k.mgmt.trans h.mgmt
    pending := k.pending.trans h.pending
    heater := by rw [k.heater, h.heater]
    demand := by
      rcases k.demand with ⟨kd, ke⟩ | ke
      · rw [kd, ke]; exact h.demand
      · rw [ke, h.heater, h.mgmt]; exact .inr rfl
    portA := h.portA.trans k.portA, portB := h.portB.trans k.portB, size := k.size.trans h.size, enable := k.enable.trans h.enable
    flags := fun f x => k.flags f (h.flags f x), asm := k.asm.trans h.asm, rx := k.rx.trans h.rx, reserved := k.reserved.trans h.reserved }

theorem Eventful.port {s t : State} (h : Eventful s t) (p : Port) : PortQuiet (s.port p) (t.port p) := by
  cases p
  · exact h.portA
  · exact h.portB

theorem Eventful.mated {s t : State} (h : Eventful s t) (p : Port) : t.mated p = s.mated p := by
  simp only [State.mated, (h.port p).pilot]

theorem Eventful.endPort {s t : State} (h : Eventful s t) (e : EndNo) : t.endPort e = s.endPort e := by
  simp only [State.endPort, h.strap, h.mgmt]

theorem Eventful.nonCabPort {s t : State} (h : Eventful s t) : t.nonCabPort = s.nonCabPort := by
  simp only [State.nonCabPort, h.endPort, h.mgmt]

theorem Eventful.cabPort {s t : State} (h : Eventful s t) : t.cabPort = s.cabPort := by
  simp only [State.cabPort, h.endPort, h.mgmt]

theorem Eventful.sameFrame {s t : State} (h : Eventful s t) : s.sameFrame t := ⟨h.powered, h.nodeId, h.strap, h.mgmt, h.pending⟩

/-- A change of the census record, the line supervisor, the doors, the summary, the allocator, the staged grant and the free values is an
event, if it leaves door-derate. -/
theorem Eventful.inner {s : State} {c : Census} {l : Supervisor} {d : Doors} {x : Summary} {g : Option Grant} {a : Allocator} {n : Nat}
    (hd : d.derate = s.doors.derate) :
    Eventful s { s with census := c, line := l, doors := d, summary := x, heater := { s.heater with staged := g }, alloc := a, freeCount := n } :=
  ⟨rfl, rfl, rfl, rfl, rfl, rfl, rfl, rfl, .inl ⟨hd, rfl⟩, PortQuiet.refl _, PortQuiet.refl _, rfl, rfl, fun _ h => h, rfl, rfl, rfl⟩

theorem Eventful.census (c : Census) (s : State) : Eventful s { s with census := c } := Eventful.inner (d := s.doors) rfl

theorem Eventful.line (l : Supervisor) (s : State) : Eventful s { s with line := l } := Eventful.inner (d := s.doors) rfl

theorem Eventful.doors {d : Doors} {s : State} (hd : d.derate = s.doors.derate) : Eventful s { s with doors := d } := Eventful.inner hd

theorem Eventful.summary (x : Summary) (s : State) : Eventful s { s with summary := x } := Eventful.inner (d := s.doors) rfl

theorem Eventful.alloc (a : Allocator) (s : State) : Eventful s { s with alloc := a } := Eventful.inner (d := s.doors) rfl

theorem State.changeSide_eventful (sd : Side) (f : DoorSide → DoorSide) (s : State) : Eventful s (s.changeSide sd f) := by
  cases sd <;> exact Eventful.doors rfl

/-! ## DOOR_STATE moments and door-derate -/

theorem State.judgeProven_eventful (s : State) : Eventful s s.judgeProven := Eventful.summary _ s

theorem State.recordDoors_eventful (pos : Nat) (a b : SideReport) (p : Bool) (s : State) : Eventful s (s.recordDoors pos a b p) :=
  Eventful.summary _ s

/-- A DOOR_STATE moment at a node that does not hand its state to its own summary only sends (R99, R109). -/
theorem State.doorStateWork_quiet {s : State} (h : ¬(s.settled = true ∧ s.holding = true)) : Quiet s s.doorStateWork := by
  unfold State.doorStateWork
  split
  · split
    · exact absurd ⟨‹_›, ‹_›⟩ h
    · exact State.toLead_quiet _ _
  · exact Quiet.refl s

/-- A DOOR_STATE moment of a lead in HOLDING fills record 1 of its own summary (R109). -/
theorem State.doorStateWork_lead {s : State} (h : s.settled = true ∧ s.holding = true) :
    s.doorStateWork = s.recordDoors 1 s.doors.side1.report s.doors.side2.report s.line.permit := by
  simp [State.doorStateWork, h]

theorem State.doorStateWork_eventful (s : State) : Eventful s s.doorStateWork := by
  by_cases h : s.settled = true ∧ s.holding = true
  · rw [State.doorStateWork_lead h]; exact State.recordDoors_eventful _ _ _ _ _
  · exact (State.doorStateWork_quiet h).eventful

/-- A DOOR_STATE moment changes the summary alone, but for what sending changes. -/
theorem State.doorStateWork_keeps (s : State) :
    s.doorStateWork.census = s.census ∧ s.doorStateWork.line = s.line ∧ s.doorStateWork.doors = s.doors ∧ s.doorStateWork.heater = s.heater
      ∧ s.doorStateWork.alloc = s.alloc ∧ s.doorStateWork.freeCount = s.freeCount := by
  by_cases h : s.settled = true ∧ s.holding = true
  · rw [State.doorStateWork_lead h]; exact ⟨rfl, rfl, rfl, rfl, rfl, rfl⟩
  · have q := State.doorStateWork_quiet h
    exact ⟨q.census, q.line, q.doors, q.heater, q.alloc, q.freeCount⟩

@[simp] theorem State.doorStateWork_census (s : State) : s.doorStateWork.census = s.census := s.doorStateWork_keeps.1
@[simp] theorem State.doorStateWork_line (s : State) : s.doorStateWork.line = s.line := s.doorStateWork_keeps.2.1
@[simp] theorem State.doorStateWork_doors (s : State) : s.doorStateWork.doors = s.doors := s.doorStateWork_keeps.2.2.1
@[simp] theorem State.doorStateWork_heater (s : State) : s.doorStateWork.heater = s.heater := s.doorStateWork_keeps.2.2.2.1
@[simp] theorem State.doorStateWork_alloc (s : State) : s.doorStateWork.alloc = s.alloc := s.doorStateWork_keeps.2.2.2.2.1
@[simp] theorem State.doorStateWork_freeCount (s : State) : s.doorStateWork.freeCount = s.freeCount := s.doorStateWork_keeps.2.2.2.2.2
@[simp] theorem State.doorStateWork_mgmt (s : State) : s.doorStateWork.mgmt = s.mgmt := s.doorStateWork_eventful.mgmt
@[simp] theorem State.doorStateWork_sense (s : State) : s.doorStateWork.sense = s.sense := s.doorStateWork_eventful.sense

/-- Whether a side state differs between two door controllers. -/
def Doors.moved (before after : Doors) : Bool := !decide (after.side1.st = before.side1.st ∧ after.side2.st = before.side2.st)

/-- Door-derate as the side states give it (R101). -/
def Doors.derated (d : Doors) : Doors := { d with derate := !(d.side1.shut && d.side2.shut) }

theorem State.afterSides_unmoved {before : Doors} {s : State} (h : before.moved s.doors = false) : s.afterSides before = s := by
  simp only [Doors.moved, Bool.not_eq_false', decide_eq_true_eq] at h
  exact if_pos h

theorem State.afterSides_moved {before : Doors} {s : State} (h : before.moved s.doors = true) :
    s.afterSides before = s.formDerate.doorStateWork := by
  simp only [Doors.moved, Bool.not_eq_true', decide_eq_false_iff_not] at h
  exact if_neg h

theorem State.formDerate_eventful (s : State) : Eventful s s.formDerate :=
  ⟨rfl, rfl, rfl, rfl, rfl, rfl, rfl, rfl, .inr rfl, PortQuiet.refl _, PortQuiet.refl _, rfl, rfl, fun _ h => h, rfl, rfl, rfl⟩

theorem State.afterSides_eventful (before : Doors) (s : State) : Eventful s (s.afterSides before) := by
  cases h : before.moved s.doors
  · rw [State.afterSides_unmoved h]; exact Eventful.refl s
  · rw [State.afterSides_moved h]; exact s.formDerate_eventful.trans (State.doorStateWork_eventful _)

theorem State.afterSides_keeps (before : Doors) (s : State) :
    (s.afterSides before).census = s.census ∧ (s.afterSides before).line = s.line ∧ (s.afterSides before).alloc = s.alloc
      ∧ (s.afterSides before).freeCount = s.freeCount ∧ (s.afterSides before).heater.staged = s.heater.staged := by
  cases h : before.moved s.doors
  · rw [State.afterSides_unmoved h]; exact ⟨rfl, rfl, rfl, rfl, rfl⟩
  · rw [State.afterSides_moved h]; simp [State.formDerate, State.formD]

@[simp] theorem State.afterSides_census (b : Doors) (s : State) : (s.afterSides b).census = s.census := (s.afterSides_keeps b).1
@[simp] theorem State.afterSides_line (b : Doors) (s : State) : (s.afterSides b).line = s.line := (s.afterSides_keeps b).2.1
@[simp] theorem State.afterSides_alloc (b : Doors) (s : State) : (s.afterSides b).alloc = s.alloc := (s.afterSides_keeps b).2.2.1
@[simp] theorem State.afterSides_freeCount (b : Doors) (s : State) : (s.afterSides b).freeCount = s.freeCount := (s.afterSides_keeps b).2.2.2.1
@[simp] theorem State.afterSides_staged (b : Doors) (s : State) : (s.afterSides b).heater.staged = s.heater.staged :=
  (s.afterSides_keeps b).2.2.2.2
@[simp] theorem State.afterSides_mgmt (b : Doors) (s : State) : (s.afterSides b).mgmt = s.mgmt := (s.afterSides_eventful b).mgmt
@[simp] theorem State.afterSides_sense (b : Doors) (s : State) : (s.afterSides b).sense = s.sense := (s.afterSides_eventful b).sense

/-- After an event on the sides they stand as the event left them, with door-derate formed where a state changed (R101). -/
theorem State.afterSides_doors (b : Doors) (s : State) : (s.afterSides b).doors = if b.moved s.doors then s.doors.derated else s.doors := by
  cases h : b.moved s.doors
  · rw [State.afterSides_unmoved h]; rfl
  · rw [State.afterSides_moved h]; simp [State.formDerate, Doors.derated]

@[simp] theorem State.afterSides_side (b : Doors) (s : State) (sd : Side) : (s.afterSides b).doors.side sd = s.doors.side sd := by
  rw [State.afterSides_doors]; split <;> cases sd <;> rfl

/-- D after an event on the sides: formed afresh where a state changed, and otherwise as it was (R101, R117). -/
theorem State.afterSides_demandD (b : Doors) (s : State) : (s.afterSides b).heater.demandD =
    if b.moved s.doors then effectiveDemand s.heater.demandT s.doors.derated.derate s.mgmt.working.heat.derate else s.heater.demandD := by
  cases h : b.moved s.doors
  · rw [State.afterSides_unmoved h]; rfl
  · rw [State.afterSides_moved h]; simp [State.formDerate, State.formD, Doors.derated]

/-- The summary after an event on the sides: nothing happens to it but at a lead in HOLDING (R109). -/
theorem State.afterSides_summary {b : Doors} {s : State} (h : ¬(s.settled = true ∧ s.holding = true)) :
    (s.afterSides b).summary = s.summary := by
  cases hm : b.moved s.doors
  · rw [State.afterSides_unmoved hm]
  · rw [State.afterSides_moved hm, (State.doorStateWork_quiet (s := s.formDerate) h).summary]; rfl

end Sys2Proof.Machine
end

section
/-! PROOFS. Withdrawals, the permit and the supervision of the line: door sides, line supervisor and what is left as it was. -/

namespace Sys2Proof.Machine

/-! ## Withdrawals (R92) -/

/-- The door controller with both sides withdrawn (R92). -/
def Doors.withdrawn (d : Doors) (t : DoorTable) (c : Cause) : Doors :=
  { d with side1 := d.side1.withdraw t c, side2 := d.side2.withdraw t c }

theorem State.withdrawBoth_eq (c : Cause) (s : State) :
    s.withdrawBoth c = ({ s with doors := s.doors.withdrawn s.mgmt.working.door c } : State).afterSides s.doors := rfl

theorem State.withdrawBoth_eventful (c : Cause) (s : State) : Eventful s (s.withdrawBoth c) :=
  (Eventful.doors (d := s.doors.withdrawn s.mgmt.working.door c) rfl).trans (State.afterSides_eventful _ _)

@[simp] theorem State.withdrawBoth_census (c : Cause) (s : State) : (s.withdrawBoth c).census = s.census := by simp [State.withdrawBoth_eq]
@[simp] theorem State.withdrawBoth_line (c : Cause) (s : State) : (s.withdrawBoth c).line = s.line := by simp [State.withdrawBoth_eq]
@[simp] theorem State.withdrawBoth_alloc (c : Cause) (s : State) : (s.withdrawBoth c).alloc = s.alloc := by simp [State.withdrawBoth_eq]
@[simp] theorem State.withdrawBoth_mgmt (c : Cause) (s : State) : (s.withdrawBoth c).mgmt = s.mgmt := by simp [State.withdrawBoth_eq]
@[simp] theorem State.withdrawBoth_freeCount (c : Cause) (s : State) : (s.withdrawBoth c).freeCount = s.freeCount := by
  simp [State.withdrawBoth_eq]
@[simp] theorem State.withdrawBoth_staged (c : Cause) (s : State) : (s.withdrawBoth c).heater.staged = s.heater.staged := by
  simp [State.withdrawBoth_eq]
@[simp] theorem State.withdrawBoth_side (c : Cause) (s : State) (sd : Side) :
    (s.withdrawBoth c).doors.side sd = (s.doors.side sd).withdraw s.mgmt.working.door c := by
  rw [State.withdrawBoth_eq, State.afterSides_side]; cases sd <;> rfl

theorem State.withdrawBoth_summary {c : Cause} {s : State} (h : ¬(s.settled = true ∧ s.holding = true)) :
    (s.withdrawBoth c).summary = s.summary := State.afterSides_summary (s := { s with doors := _ }) h

theorem State.withdrawSide_eventful (sd : Side) (c : Cause) (s : State) : Eventful s (s.withdrawSide sd c) :=
  (State.changeSide_eventful _ _ s).trans (State.afterSides_eventful _ _)

/-! ## The permit (R70, R93) -/

/-- The permit as R70 forms it from what the line supervisor holds. -/
def Supervisor.formed (l : Supervisor) : Supervisor := { l with permit := permitOf l.sup l.zsp l.flag }

/-- Forming the permit afresh: a fall of it is a withdrawal with ZERO_SPEED_LOST, and otherwise the permit alone changes (R70, R93). -/
theorem State.formPermit_cases (s : State) :
    (s.line.permit = true ∧ s.line.formed.permit = false ∧ s.formPermit = ({ s with line := s.line.formed } : State).withdrawBoth .zeroSpeedLost)
      ∨ ((s.line.permit = false ∨ s.line.formed.permit = true) ∧ s.formPermit = { s with line := s.line.formed }) := by
  cases hp : s.line.permit <;> cases hn : permitOf s.line.sup s.line.zsp s.line.flag <;>
    simp [State.formPermit, Supervisor.formed, hp, hn]

theorem State.formPermit_eventful (s : State) : Eventful s s.formPermit := by
  rcases s.formPermit_cases with ⟨_, _, h⟩ | ⟨_, h⟩ <;> rw [h]
  · exact (Eventful.line _ s).trans (State.withdrawBoth_eventful _ _)
  · exact Eventful.line _ s

@[simp] theorem State.formPermit_line (s : State) : s.formPermit.line = s.line.formed := by
  rcases s.formPermit_cases with ⟨_, _, h⟩ | ⟨_, h⟩ <;> simp [h]
@[simp] theorem State.formPermit_census (s : State) : s.formPermit.census = s.census := by
  rcases s.formPermit_cases with ⟨_, _, h⟩ | ⟨_, h⟩ <;> simp [h]
@[simp] theorem State.formPermit_alloc (s : State) : s.formPermit.alloc = s.alloc := by
  rcases s.formPermit_cases with ⟨_, _, h⟩ | ⟨_, h⟩ <;> simp [h]
@[simp] theorem State.formPermit_mgmt (s : State) : s.formPermit.mgmt = s.mgmt := s.formPermit_eventful.mgmt
@[simp] theorem State.formPermit_freeCount (s : State) : s.formPermit.freeCount = s.freeCount := by
  rcases s.formPermit_cases with ⟨_, _, h⟩ | ⟨_, h⟩ <;> simp [h]
@[simp] theorem State.formPermit_staged (s : State) : s.formPermit.heater.staged = s.heater.staged := by
  rcases s.formPermit_cases with ⟨_, _, h⟩ | ⟨_, h⟩ <;> simp [h]

theorem State.formPermit_summary {s : State} (h : ¬(s.settled = true ∧ s.holding = true)) : s.formPermit.summary = s.summary := by
  rcases s.formPermit_cases with ⟨_, _, e⟩ | ⟨_, e⟩ <;> rw [e]
  exact State.withdrawBoth_summary (s := { s with line := _ }) h

/-! ## Supervision (R66 to R69) -/

/-- The line supervisor of a node that begins to be supervised as a member (R66, R69). -/
def Supervisor.asMember (l : Supervisor) (flag : Bool) : Supervisor :=
  { l with sup := .none, timer := some Config.supervisionMs, flag := flag, permit := l.zsp }

/-- The line supervisor of a lead that enters HOLDING (R64, R66). -/
def Supervisor.asLead (l : Supervisor) : Supervisor :=
  { l with sup := .live, timer := none, flag := l.zsp, beaconOn := true, permit := l.zsp }

/-- The line supervisor of a node that leaves SETTLED (R69). -/
def Supervisor.ended (l : Supervisor) : Supervisor := { l with sup := .none, timer := none, flag := false, permit := l.zsp }

theorem State.superviseAsMember_eventful (flag : Bool) (s : State) : Eventful s (s.superviseAsMember flag) :=
  (Eventful.line _ s).trans (State.formPermit_eventful _)
@[simp] theorem State.superviseAsMember_line (flag : Bool) (s : State) : (s.superviseAsMember flag).line = s.line.asMember flag := by
  simp [State.superviseAsMember, Supervisor.formed, Supervisor.asMember, permitOf]
@[simp] theorem State.superviseAsMember_census (flag : Bool) (s : State) : (s.superviseAsMember flag).census = s.census := by
  simp [State.superviseAsMember]
@[simp] theorem State.superviseAsMember_alloc (flag : Bool) (s : State) : (s.superviseAsMember flag).alloc = s.alloc := by
  simp [State.superviseAsMember]
@[simp] theorem State.superviseAsMember_freeCount (flag : Bool) (s : State) : (s.superviseAsMember flag).freeCount = s.freeCount := by
  simp [State.superviseAsMember]
theorem State.superviseAsMember_summary {flag : Bool} {s : State} (h : ¬(s.settled = true ∧ s.holding = true)) :
    (s.superviseAsMember flag).summary = s.summary := State.formPermit_summary (s := { s with line := _ }) h

theorem State.superviseAsLead_eventful (s : State) : Eventful s s.superviseAsLead := (Eventful.line _ s).trans (State.formPermit_eventful _)
@[simp] theorem State.superviseAsLead_line (s : State) : s.superviseAsLead.line = s.line.asLead := by
  simp [State.superviseAsLead, Supervisor.formed, Supervisor.asLead, permitOf]
@[simp] theorem State.superviseAsLead_census (s : State) : s.superviseAsLead.census = s.census := by simp [State.superviseAsLead]
@[simp] theorem State.superviseAsLead_alloc (s : State) : s.superviseAsLead.alloc = s.alloc := by simp [State.superviseAsLead]
@[simp] theorem State.superviseAsLead_mgmt (s : State) : s.superviseAsLead.mgmt = s.mgmt := by simp [State.superviseAsLead]
@[simp] theorem State.superviseAsLead_freeCount (s : State) : s.superviseAsLead.freeCount = s.freeCount := by simp [State.superviseAsLead]

theorem State.endSupervision_eventful (s : State) : Eventful s s.endSupervision := (Eventful.line _ s).trans (State.formPermit_eventful _)
@[simp] theorem State.endSupervision_line (s : State) : s.endSupervision.line = s.line.ended := by
  simp [State.endSupervision, Supervisor.formed, Supervisor.ended, permitOf]
@[simp] theorem State.endSupervision_census (s : State) : s.endSupervision.census = s.census := by simp [State.endSupervision]
@[simp] theorem State.endSupervision_alloc (s : State) : s.endSupervision.alloc = s.alloc := by simp [State.endSupervision]
@[simp] theorem State.endSupervision_freeCount (s : State) : s.endSupervision.freeCount = s.freeCount := by simp [State.endSupervision]
@[simp] theorem State.endSupervision_staged (s : State) : s.endSupervision.heater.staged = s.heater.staged := by simp [State.endSupervision]
theorem State.endSupervision_summary {s : State} (h : ¬(s.settled = true ∧ s.holding = true)) : s.endSupervision.summary = s.summary :=
  State.formPermit_summary (s := { s with line := _ }) h

/-- The line supervisor after a beacon accepted for supervision (R67). -/
def Supervisor.accepted (l : Supervisor) (flag : Bool) : Supervisor :=
  { l with sup := .live, timer := some Config.supervisionMs, flag := flag, permit := l.zsp && flag }

theorem State.acceptBeacon_eventful (flag : Bool) (s : State) : Eventful s (s.acceptBeacon flag) :=
  (Eventful.line _ s).trans (State.formPermit_eventful _)
@[simp] theorem State.acceptBeacon_line (flag : Bool) (s : State) : (s.acceptBeacon flag).line = s.line.accepted flag := by
  simp [State.acceptBeacon, Supervisor.formed, Supervisor.accepted, permitOf]
@[simp] theorem State.acceptBeacon_census (flag : Bool) (s : State) : (s.acceptBeacon flag).census = s.census := by simp [State.acceptBeacon]
@[simp] theorem State.acceptBeacon_alloc (flag : Bool) (s : State) : (s.acceptBeacon flag).alloc = s.alloc := by simp [State.acceptBeacon]

theorem State.supervisionExpiry_eventful (s : State) : Eventful s s.supervisionExpiry := by
  unfold State.supervisionExpiry
  split
  · exact ((((Eventful.line _ s).trans (State.count_quiet _ _).eventful).trans (State.raise_quiet _ _).eventful).trans
      (State.withdrawBoth_eventful _ _)).trans (State.formPermit_eventful _)
  · exact Eventful.refl s
@[simp] theorem State.supervisionExpiry_census (s : State) : s.supervisionExpiry.census = s.census := by
  unfold State.supervisionExpiry; split <;> simp
@[simp] theorem State.supervisionExpiry_alloc (s : State) : s.supervisionExpiry.alloc = s.alloc := by
  unfold State.supervisionExpiry; split <;> simp

/-- The line supervisor after the expiry of the supervision timer (R68). -/
theorem State.supervisionExpiry_line (s : State) : s.supervisionExpiry.line =
    if s.line.timer ≠ none ∧ s.settled = true then { s.line with sup := .lost, timer := none, permit := s.line.zsp } else s.line := by
  unfold State.supervisionExpiry
  split <;> simp [Supervisor.formed, permitOf]

theorem State.zspChange_eventful (level : Bool) (s : State) : Eventful s (s.zspChange level) := by
  unfold State.zspChange
  split
  · exact Eventful.refl s
  · exact (Eventful.line _ s).trans (State.formPermit_eventful _)
@[simp] theorem State.zspChange_census (level : Bool) (s : State) : (s.zspChange level).census = s.census := by
  unfold State.zspChange; split <;> simp
@[simp] theorem State.zspChange_alloc (level : Bool) (s : State) : (s.zspChange level).alloc = s.alloc := by
  unfold State.zspChange; split <;> simp

/-- The line supervisor after a change of ZSP (R61, R70). -/
theorem State.zspChange_line (level : Bool) (s : State) : (s.zspChange level).line =
    if s.line.zsp = level then s.line
    else ({ s.line with zsp := level, flag := if s.holding then level else s.line.flag } : Supervisor).formed := by
  unfold State.zspChange
  split <;> simp

end Sys2Proof.Machine
end

section
/-! PROOFS. The census controller: the census record, the line supervisor, the summary and the demand table after each of its operations. -/

namespace Sys2Proof.Machine

/-! ## Leaving SETTLED and HOLDING (R57, R58) -/

theorem State.leaveSettled_eventful (s : State) : Eventful s s.leaveSettled :=
  (State.withdrawBoth_eventful _ s).trans (State.endSupervision_eventful _)
@[simp] theorem State.leaveSettled_line (s : State) : s.leaveSettled.line = s.line.ended := by simp [State.leaveSettled]
@[simp] theorem State.leaveSettled_census (s : State) : s.leaveSettled.census = s.census := by simp [State.leaveSettled]
@[simp] theorem State.leaveSettled_alloc (s : State) : s.leaveSettled.alloc = s.alloc := by simp [State.leaveSettled]
@[simp] theorem State.leaveSettled_freeCount (s : State) : s.leaveSettled.freeCount = s.freeCount := by simp [State.leaveSettled]
@[simp] theorem State.leaveSettled_staged (s : State) : s.leaveSettled.heater.staged = s.heater.staged := by simp [State.leaveSettled]
theorem State.leaveSettled_summary {s : State} (h : ¬(s.settled = true ∧ s.holding = true)) : s.leaveSettled.summary = s.summary := by
  have hw : ¬((s.withdrawBoth .consistChanged).settled = true ∧ (s.withdrawBoth .consistChanged).holding = true) := by
    simpa [State.settled, State.holding] using h
  rw [State.leaveSettled, State.endSupervision_summary hw, State.withdrawBoth_summary h]

/-- The census record of a node whose census state becomes `cs` (R52, R57). -/
def Census.entering (c : Census) (cs : CensusState) : Census :=
  { c with cs := cs, staleArmed := c.staleArmed || decide (cs ≠ c.cs ∧ (cs = .stale ∨ cs = .detached)) }

/-- The census state moves within SETTLED or outside it: the census record alone changes. -/
theorem State.enterCensus_stays {cs : CensusState} {s : State} (h : ¬(s.census.cs = .settled ∧ cs ≠ .settled)) :
    s.enterCensus cs = { s with census := s.census.entering cs } := if_neg h

/-- A node leaves SETTLED (R57). -/
theorem State.enterCensus_leaves {cs : CensusState} {s : State} (h : s.census.cs = .settled ∧ cs ≠ .settled) :
    s.enterCensus cs = ({ s with census := s.census.entering cs } : State).leaveSettled := if_pos h

theorem State.enterCensus_eventful (cs : CensusState) (s : State) : Eventful s (s.enterCensus cs) := by
  by_cases h : s.census.cs = .settled ∧ cs ≠ .settled
  · rw [State.enterCensus_leaves h]; exact (Eventful.census _ s).trans (State.leaveSettled_eventful _)
  · rw [State.enterCensus_stays h]; exact Eventful.census _ s

@[simp] theorem State.enterCensus_census (cs : CensusState) (s : State) : (s.enterCensus cs).census = s.census.entering cs := by
  by_cases h : s.census.cs = .settled ∧ cs ≠ .settled
  · simp [State.enterCensus_leaves h]
  · rw [State.enterCensus_stays h]
@[simp] theorem State.enterCensus_alloc (cs : CensusState) (s : State) : (s.enterCensus cs).alloc = s.alloc := by
  by_cases h : s.census.cs = .settled ∧ cs ≠ .settled
  · simp [State.enterCensus_leaves h]
  · rw [State.enterCensus_stays h]
@[simp] theorem State.enterCensus_freeCount (cs : CensusState) (s : State) : (s.enterCensus cs).freeCount = s.freeCount := by
  by_cases h : s.census.cs = .settled ∧ cs ≠ .settled
  · simp [State.enterCensus_leaves h]
  · rw [State.enterCensus_stays h]
@[simp] theorem State.enterCensus_staged (cs : CensusState) (s : State) : (s.enterCensus cs).heater.staged = s.heater.staged := by
  by_cases h : s.census.cs = .settled ∧ cs ≠ .settled
  · simp [State.enterCensus_leaves h]
  · rw [State.enterCensus_stays h]
@[simp] theorem State.enterCensus_summary (cs : CensusState) (s : State) : (s.enterCensus cs).summary = s.summary := by
  by_cases h : s.census.cs = .settled ∧ cs ≠ .settled
  · rw [State.enterCensus_leaves h, State.leaveSettled_summary]
    simp [State.settled, Census.entering, h.2]
  · rw [State.enterCensus_stays h]
@[simp] theorem State.enterCensus_mgmt (cs : CensusState) (s : State) : (s.enterCensus cs).mgmt = s.mgmt := (s.enterCensus_eventful cs).mgmt
@[simp] theorem State.enterCensus_nodeId (cs : CensusState) (s : State) : (s.enterCensus cs).nodeId = s.nodeId :=
  (s.enterCensus_eventful cs).nodeId

/-- Leaving SETTLED ends the supervision (R69), and no other move of the census state touches the line supervisor. -/
theorem State.enterCensus_line (cs : CensusState) (s : State) :
    (s.enterCensus cs).line = if s.census.cs = .settled ∧ cs ≠ .settled then s.line.ended else s.line := by
  by_cases h : s.census.cs = .settled ∧ cs ≠ .settled
  · simp [State.enterCensus_leaves h, h]
  · rw [State.enterCensus_stays h, if_neg h]

/-- The census state of a node whose census has ended without a table for it (R34, R40, R47, R49). -/
def Census.standing (c : Census) : CensusState := if c.table.isSome then .stale else .detached

theorem State.fallBack_eq (s : State) : s.fallBack = s.enterCensus s.census.standing := rfl

theorem State.fallBack_eventful (s : State) : Eventful s s.fallBack := State.enterCensus_eventful _ _
theorem Census.standing_ne_settled (c : Census) : c.standing ≠ .settled := by unfold Census.standing; split <;> simp

theorem State.leaveHolding_eventful (s : State) : Eventful s s.leaveHolding := Eventful.inner (d := s.doors) rfl

/-- The lead census state moves within HOLDING or outside it: the census record alone changes. -/
theorem State.enterLead_stays {lead : LeadState} {s : State} (h : ¬(s.census.lead = .holding ∧ lead ≠ .holding)) :
    s.enterLead lead = { s with census := { s.census with lead := lead } } := if_neg h

/-- A lead leaves HOLDING (R58): summary and demand table emptied, PROVEN off, beacon sending off. -/
theorem State.enterLead_leaves {lead : LeadState} {s : State} (h : s.census.lead = .holding ∧ lead ≠ .holding) :
    s.enterLead lead = { s with
      census := { s.census with lead := lead }, summary := { recs := [], proven := false }
      alloc := { s.alloc with recs := [], last := none }, line := { s.line with beaconOn := false } } := by
  simp [State.enterLead, h, State.leaveHolding, State.judgeProven, State.holding]

theorem State.enterLead_eventful (lead : LeadState) (s : State) : Eventful s (s.enterLead lead) := by
  unfold State.enterLead
  dsimp only
  split
  · exact (Eventful.census _ s).trans (State.leaveHolding_eventful _)
  · exact Eventful.census _ s

@[simp] theorem State.enterLead_census (lead : LeadState) (s : State) : (s.enterLead lead).census = { s.census with lead := lead } := by
  by_cases h : s.census.lead = .holding ∧ lead ≠ .holding
  · rw [State.enterLead_leaves h]
  · rw [State.enterLead_stays h]
@[simp] theorem State.enterLead_doors (lead : LeadState) (s : State) : (s.enterLead lead).doors = s.doors := by
  by_cases h : s.census.lead = .holding ∧ lead ≠ .holding
  · rw [State.enterLead_leaves h]
  · rw [State.enterLead_stays h]
@[simp] theorem State.enterLead_heater (lead : LeadState) (s : State) : (s.enterLead lead).heater = s.heater := by
  by_cases h : s.census.lead = .holding ∧ lead ≠ .holding
  · rw [State.enterLead_leaves h]
  · rw [State.enterLead_stays h]
@[simp] theorem State.enterLead_freeCount (lead : LeadState) (s : State) : (s.enterLead lead).freeCount = s.freeCount := by
  by_cases h : s.census.lead = .holding ∧ lead ≠ .holding
  · rw [State.enterLead_leaves h]
  · rw [State.enterLead_stays h]
@[simp] theorem State.enterLead_mgmt (lead : LeadState) (s : State) : (s.enterLead lead).mgmt = s.mgmt := (s.enterLead_eventful lead).mgmt
@[simp] theorem State.enterLead_nodeId (lead : LeadState) (s : State) : (s.enterLead lead).nodeId = s.nodeId :=
  (s.enterLead_eventful lead).nodeId
theorem State.enterLead_line (lead : LeadState) (s : State) : (s.enterLead lead).line =
    if s.census.lead = .holding ∧ lead ≠ .holding then { s.line with beaconOn := false } else s.line := by
  by_cases h : s.census.lead = .holding ∧ lead ≠ .holding
  · rw [State.enterLead_leaves h, if_pos h]
  · rw [State.enterLead_stays h, if_neg h]
theorem State.enterLead_summary (lead : LeadState) (s : State) : (s.enterLead lead).summary =
    if s.census.lead = .holding ∧ lead ≠ .holding then { recs := [], proven := false } else s.summary := by
  by_cases h : s.census.lead = .holding ∧ lead ≠ .holding
  · rw [State.enterLead_leaves h, if_pos h]
  · rw [State.enterLead_stays h, if_neg h]
theorem State.enterLead_alloc (lead : LeadState) (s : State) : (s.enterLead lead).alloc =
    if s.census.lead = .holding ∧ lead ≠ .holding then { s.alloc with recs := [], last := none } else s.alloc := by
  by_cases h : s.census.lead = .holding ∧ lead ≠ .holding
  · rw [State.enterLead_leaves h, if_pos h]
  · rw [State.enterLead_stays h, if_neg h]

/-! ## Topology changes and failures -/

theorem State.failCensus_eventful (r : Failure) (s : State) : Eventful s (s.failCensus r) :=
  ((Eventful.census _ s).trans (State.count_quiet _ _).eventful).trans (State.raise_quiet _ _).eventful
@[simp] theorem State.failCensus_census (r : Failure) (s : State) : (s.failCensus r).census = { s.census with failure := r } := by
  simp [State.failCensus]
@[simp] theorem State.failCensus_line (r : Failure) (s : State) : (s.failCensus r).line = s.line := by simp [State.failCensus]
@[simp] theorem State.failCensus_doors (r : Failure) (s : State) : (s.failCensus r).doors = s.doors := by simp [State.failCensus]
@[simp] theorem State.failCensus_summary (r : Failure) (s : State) : (s.failCensus r).summary = s.summary := by simp [State.failCensus]
@[simp] theorem State.failCensus_heater (r : Failure) (s : State) : (s.failCensus r).heater = s.heater := by simp [State.failCensus]
@[simp] theorem State.failCensus_alloc (r : Failure) (s : State) : (s.failCensus r).alloc = s.alloc := by simp [State.failCensus]
@[simp] theorem State.failCensus_freeCount (r : Failure) (s : State) : (s.failCensus r).freeCount = s.freeCount := by simp [State.failCensus]
theorem State.failCensus_sets (r : Failure) (s : State) : hasFlag (s.failCensus r).notices.flags .censusFailed = true :=
  State.raise_sets _ _

theorem State.seeTopology_sets (s : State) : hasFlag s.seeTopology.notices.flags .topology = true := State.raise_sets _ _

theorem State.sendCall_quiet (tag : Tag) (es : List Entry) (p : Port) (s : State) : Quiet s (s.sendCall tag es p) := State.originate_quiet _ _ _

/-- A CENSUS_RETURN draws one free value and is otherwise quiet (log 9). -/
theorem State.sendReturn_quiet (tag : Tag) (status : Nat) (es : List Entry) (p : Port) (s : State) :
    Quiet { s with freeCount := s.freeCount + 1 } (s.sendReturn tag status es p) := State.originate_quiet _ _ _

theorem State.sendReturn_eventful (tag : Tag) (status : Nat) (es : List Entry) (p : Port) (s : State) :
    Eventful s (s.sendReturn tag status es p) :=
  Eventful.trans (t := { s with freeCount := s.freeCount + 1 })
    (Eventful.inner (d := s.doors) rfl)
    (State.sendReturn_quiet tag status es p s).eventful

/-! ## The census at the lead (R35 to R42) -/

theorem State.dropOldEpoch_eventful (s : State) : Eventful s s.dropOldEpoch := Eventful.inner rfl

/-- The census record with a table installed (R41, R48, R54). -/
def Census.installed (c : Census) (epoch : Nat) (es : List Entry) : Census :=
  { c with table := some (recordsFrom 1 es), epoch := epoch, lastEpoch := epoch }

/-- The census record of a lead that has accepted a return (R42, R56). -/
def Census.accepted (c : Census) (es : List Entry) (cabEnd : EndNo) : Census :=
  { c.installed (nextEpoch c.lastEpoch) es with cs := .settled, lead := .holding, timer := none, position := 1, leadEnd := some cabEnd }

/-- The frame that announces an accepted return (R42). -/
def announceSending (epoch : Nat) (tag : Tag) (es : List Entry) : Sending :=
  { cls := 2, dir := .away, epoch := epoch, destKind := .broadcast, destVal := 0, payload := announcePayload epoch tag es }

/-- The node with a return accepted, before the CONSIST_ANNOUNCE is sent (R42, R56). -/
def State.held (es : List Entry) (s : State) : State :=
  let s3 := ({ s with census := s.census.accepted es s.mgmt.working.coach.cabEnd } : State).dropOldEpoch.superviseAsLead
  { s3 with alloc := { s3.alloc with recs := demandRecords (recordsFrom 1 es), last := none }
            summary := { s3.summary with recs := (recordsFrom 1 es).map createdRecord } }.judgeProven

theorem State.acceptReturn_eq (tag : Tag) (es : List Entry) (s : State) : s.acceptReturn tag es =
    (s.held es).originate (announceSending (nextEpoch s.census.lastEpoch) tag es) (.one (s.held es).nonCabPort) := rfl

theorem State.held_eventful (es : List Entry) (s : State) : Eventful s (s.held es) :=
  (((Eventful.census _ s).trans (State.dropOldEpoch_eventful _)).trans (State.superviseAsLead_eventful _)).trans
    (Eventful.inner rfl)
@[simp] theorem State.held_census (es : List Entry) (s : State) :
    (s.held es).census = s.census.accepted es s.mgmt.working.coach.cabEnd := by simp [State.held]
@[simp] theorem State.held_line (es : List Entry) (s : State) : (s.held es).line = s.line.asLead := by simp [State.held]
@[simp] theorem State.held_alloc (es : List Entry) (s : State) :
    (s.held es).alloc = { s.alloc with recs := demandRecords (recordsFrom 1 es), last := none } := by simp [State.held]
@[simp] theorem State.held_summary (es : List Entry) (s : State) : (s.held es).summary =
    { recs := (recordsFrom 1 es).map createdRecord, proven := ((recordsFrom 1 es).map createdRecord).all SummaryRecord.proves } := by
  simp [State.held, State.judgeProven, State.holding, Census.accepted]
@[simp] theorem State.held_freeCount (es : List Entry) (s : State) : (s.held es).freeCount = s.freeCount := by
  simp [State.held]

theorem State.acceptReturn_eventful (tag : Tag) (es : List Entry) (s : State) : Eventful s (s.acceptReturn tag es) :=
  (State.held_eventful es s).trans (State.originate_quiet _ _ _).eventful
@[simp] theorem State.acceptReturn_census (tag : Tag) (es : List Entry) (s : State) :
    (s.acceptReturn tag es).census = s.census.accepted es s.mgmt.working.coach.cabEnd := by simp [State.acceptReturn_eq]
@[simp] theorem State.acceptReturn_line (tag : Tag) (es : List Entry) (s : State) : (s.acceptReturn tag es).line = s.line.asLead := by
  simp [State.acceptReturn_eq]
@[simp] theorem State.acceptReturn_alloc (tag : Tag) (es : List Entry) (s : State) :
    (s.acceptReturn tag es).alloc = { s.alloc with recs := demandRecords (recordsFrom 1 es), last := none } := by simp [State.acceptReturn_eq]
@[simp] theorem State.acceptReturn_summary (tag : Tag) (es : List Entry) (s : State) : (s.acceptReturn tag es).summary =
    { recs := (recordsFrom 1 es).map createdRecord, proven := ((recordsFrom 1 es).map createdRecord).all SummaryRecord.proves } := by
  simp [State.acceptReturn_eq]
@[simp] theorem State.acceptReturn_freeCount (tag : Tag) (es : List Entry) (s : State) : (s.acceptReturn tag es).freeCount = s.freeCount := by
  simp [State.acceptReturn_eq]

@[simp] theorem recordsFrom_length (p : Nat) (es : List Entry) : (recordsFrom p es).length = es.length := by
  induction es generalizing p <;> simp_all [recordsFrom]

/-- The number of the next census attempt (R35). -/
def Census.nextAttempt (c : Census) : Nat := (c.attemptNo + 1) % 256

/-- The tag of the next census attempt (R35). -/
def State.nextTag (s : State) : Tag := { lead := s.nodeId, attempt := s.census.nextAttempt }

/-- The census record of a lead that has begun an attempt, before the call is sent (R35). -/
def Census.calling (c : Census) (tag : Tag) (ctr : Nat) (cabEnd : EndNo) : Census :=
  { c with attemptNo := c.nextAttempt, tag := some tag, attemptCtr := ctr, position := 1, orient := endOrientation cabEnd
           leadEnd := some cabEnd, timer := none, hold := none, lead := .calling, cs := .survey }

/-- The node in a census attempt, before its call is sent or it completes it alone (R35, steps 1 to 4). -/
def State.calling (ctr : Nat) (s : State) : State :=
  let c := s.census
  let cabEnd := s.mgmt.working.coach.cabEnd
  (({ s with census := { c with
      attemptNo := c.nextAttempt, tag := some s.nextTag, attemptCtr := ctr, position := 1, orient := endOrientation cabEnd
      leadEnd := some cabEnd, timer := none, hold := none } } : State).enterLead .calling).enterCensus .survey

theorem State.startAttempt_eq (ctr : Nat) (s : State) : s.startAttempt ctr =
    let es := [s.ownEntry (endOrientation s.mgmt.working.coach.cabEnd)]
    if (s.calling ctr).mated (s.calling ctr).nonCabPort then
      let t := (s.calling ctr).sendCall s.nextTag es (s.calling ctr).nonCabPort
      { t with census := { t.census with timer := some Config.censusTimerMs } }
    else (s.calling ctr).acceptReturn s.nextTag es := rfl

theorem State.calling_eventful (ctr : Nat) (s : State) : Eventful s (s.calling ctr) :=
  ((Eventful.census _ s).trans (State.enterLead_eventful _ _)).trans (State.enterCensus_eventful _ _)
@[simp] theorem State.calling_census (ctr : Nat) (s : State) :
    (s.calling ctr).census = s.census.calling s.nextTag ctr s.mgmt.working.coach.cabEnd := by
  simp [State.calling, Census.entering, Census.calling]
@[simp] theorem State.calling_freeCount (ctr : Nat) (s : State) : (s.calling ctr).freeCount = s.freeCount := by simp [State.calling]
@[simp] theorem State.calling_mgmt (ctr : Nat) (s : State) : (s.calling ctr).mgmt = s.mgmt := (s.calling_eventful ctr).mgmt

/-- An attempt begun in SETTLED ends the supervision, and one begun in HOLDING the beacon sending (R58, R69). -/
theorem State.calling_line (ctr : Nat) (s : State) : (s.calling ctr).line =
    let l := if s.census.lead = .holding then { s.line with beaconOn := false } else s.line
    if s.census.cs = .settled then l.ended else l := by
  simp [State.calling, State.enterCensus_line, State.enterLead_line]
theorem State.calling_summary (ctr : Nat) (s : State) : (s.calling ctr).summary =
    if s.census.lead = .holding then { recs := [], proven := false } else s.summary := by
  simp [State.calling, State.enterLead_summary]
theorem State.calling_alloc (ctr : Nat) (s : State) : (s.calling ctr).alloc =
    if s.census.lead = .holding then { s.alloc with recs := [], last := none } else s.alloc := by
  simp [State.calling, State.enterLead_alloc]

/-- An attempt of a lead with its non-cab end MATED sends its call and waits (R35, step 5). -/
theorem State.startAttempt_mated {ctr : Nat} {s : State} (h : s.mated s.nonCabPort = true) : s.startAttempt ctr =
    let t := (s.calling ctr).sendCall s.nextTag [s.ownEntry (endOrientation s.mgmt.working.coach.cabEnd)] s.nonCabPort
    { t with census := { t.census with timer := some Config.censusTimerMs } } := by
  rw [State.startAttempt_eq]
  simp only [(s.calling_eventful ctr).nonCabPort, (s.calling_eventful ctr).mated, h, if_true]

/-- A lead with its non-cab end not MATED completes its attempt alone (R35, step 6). -/
theorem State.startAttempt_alone {ctr : Nat} {s : State} (h : s.mated s.nonCabPort = false) : s.startAttempt ctr =
    (s.calling ctr).acceptReturn s.nextTag [s.ownEntry (endOrientation s.mgmt.working.coach.cabEnd)] := by
  rw [State.startAttempt_eq]
  simp [(s.calling_eventful ctr).nonCabPort, (s.calling_eventful ctr).mated, h]

theorem State.startAttempt_eventful (ctr : Nat) (s : State) : Eventful s (s.startAttempt ctr) := by
  cases h : s.mated s.nonCabPort
  · rw [State.startAttempt_alone h]; exact (s.calling_eventful ctr).trans (State.acceptReturn_eventful _ _ _)
  · rw [State.startAttempt_mated h]
    exact ((s.calling_eventful ctr).trans (State.sendCall_quiet _ _ _ _).eventful).trans (Eventful.census _ _)

/-- The census record after an attempt has been started (R35). -/
theorem State.startAttempt_census (ctr : Nat) (s : State) : (s.startAttempt ctr).census =
    let c := s.census.calling s.nextTag ctr s.mgmt.working.coach.cabEnd
    if s.mated s.nonCabPort then { c with timer := some Config.censusTimerMs }
    else c.accepted [s.ownEntry (endOrientation s.mgmt.working.coach.cabEnd)] s.mgmt.working.coach.cabEnd := by
  cases h : s.mated s.nonCabPort
  · simp [State.startAttempt_alone h]
  · simp [State.startAttempt_mated h, (State.sendCall_quiet _ _ _ _).census]

theorem State.startAttempt_line (ctr : Nat) (s : State) :
    (s.startAttempt ctr).line = if s.mated s.nonCabPort then (s.calling ctr).line else (s.calling ctr).line.asLead := by
  cases h : s.mated s.nonCabPort
  · simp [State.startAttempt_alone h]
  · simp [State.startAttempt_mated h, (State.sendCall_quiet _ _ _ _).line]

theorem State.startAttempt_freeCount (ctr : Nat) (s : State) : (s.startAttempt ctr).freeCount = s.freeCount := by
  cases h : s.mated s.nonCabPort
  · simp [State.startAttempt_alone h]
  · simp [State.startAttempt_mated h, (State.sendCall_quiet _ _ _ _).freeCount]

/-! ## The end of a census and of the lead role (R34, R40) -/

/-- The census record of a lead that enters BLOCKED (R40). -/
def Census.blocked (c : Census) (r : Failure) : Census :=
  { ({ c with lead := .blocked, timer := none, tag := none } : Census).entering c.standing with failure := r }

theorem State.enterBlocked_eq (r : Failure) (s : State) : s.enterBlocked r =
    let s1 := s.enterLead .blocked
    ({ s1 with census := { s1.census with timer := none, tag := none } } : State).fallBack.failCensus r := rfl

theorem State.enterBlocked_eventful (r : Failure) (s : State) : Eventful s (s.enterBlocked r) :=
  (((State.enterLead_eventful _ s).trans (Eventful.census _ _)).trans (State.fallBack_eventful _)).trans (State.failCensus_eventful _ _)
@[simp] theorem State.enterBlocked_census (r : Failure) (s : State) : (s.enterBlocked r).census = s.census.blocked r := by
  simp [State.enterBlocked_eq, State.fallBack_eq, Census.blocked, Census.standing]
@[simp] theorem State.enterBlocked_freeCount (r : Failure) (s : State) : (s.enterBlocked r).freeCount = s.freeCount := by
  simp [State.enterBlocked_eq, State.fallBack_eq]
theorem State.enterBlocked_line (r : Failure) (s : State) : (s.enterBlocked r).line =
    let l := if s.census.lead = .holding then { s.line with beaconOn := false } else s.line
    if s.census.cs = .settled then l.ended else l := by
  simp [State.enterBlocked_eq, State.fallBack_eq, State.enterCensus_line, State.enterLead_line, Census.standing_ne_settled]
theorem State.enterBlocked_summary (r : Failure) (s : State) : (s.enterBlocked r).summary =
    if s.census.lead = .holding then { recs := [], proven := false } else s.summary := by
  simp [State.enterBlocked_eq, State.fallBack_eq, State.enterLead_summary]
theorem State.enterBlocked_alloc (r : Failure) (s : State) : (s.enterBlocked r).alloc =
    if s.census.lead = .holding then { s.alloc with recs := [], last := none } else s.alloc := by
  simp [State.enterBlocked_eq, State.fallBack_eq, State.enterLead_alloc]

/-- The census record of a node whose lead role has gone, before what the state left gives (R34). -/
def Census.dismissed (c : Census) : Census := { c with lead := .off, timer := none, tag := none }

/-- The lead census state and its timer and tag gone (R34). -/
def State.dismissed (s : State) : State :=
  let s1 := s.enterLead .off
  { s1 with census := { s1.census with timer := none, tag := none } }

theorem State.dismissed_eventful (s : State) : Eventful s s.dismissed := (State.enterLead_eventful _ s).trans (Eventful.census _ _)
@[simp] theorem State.dismissed_census (s : State) : s.dismissed.census = s.census.dismissed := by
  simp [State.dismissed, Census.dismissed]
@[simp] theorem State.dismissed_doors (s : State) : s.dismissed.doors = s.doors := by simp [State.dismissed]
@[simp] theorem State.dismissed_heater (s : State) : s.dismissed.heater = s.heater := by simp [State.dismissed]
@[simp] theorem State.dismissed_freeCount (s : State) : s.dismissed.freeCount = s.freeCount := by simp [State.dismissed]
@[simp] theorem State.dismissed_mgmt (s : State) : s.dismissed.mgmt = s.mgmt := s.dismissed_eventful.mgmt
theorem State.dismissed_line (s : State) :
    s.dismissed.line = if s.census.lead = .holding then { s.line with beaconOn := false } else s.line := by
  simp [State.dismissed, State.enterLead_line]
theorem State.dismissed_summary (s : State) :
    s.dismissed.summary = if s.census.lead = .holding then { recs := [], proven := false } else s.summary := by
  simp [State.dismissed, State.enterLead_summary]
theorem State.dismissed_alloc (s : State) :
    s.dismissed.alloc = if s.census.lead = .holding then { s.alloc with recs := [], last := none } else s.alloc := by
  simp [State.dismissed, State.enterLead_alloc]

/-- The node without its lead role: supervised as a member from HOLDING, out of its census from CALLING (R34). -/
def State.stripped (s : State) : State :=
  match s.census.lead with
  | .holding => s.dismissed.superviseAsMember false
  | .calling => s.dismissed.fallBack
  | .off | .blocked => s.dismissed

theorem State.loseRole_eq (coupled : Bool) (s : State) :
    s.loseRole coupled = if coupled then s.stripped.failCensus .cabCoupled else s.stripped := by
  cases h : s.census.lead <;> simp [State.loseRole, State.stripped, State.dismissed, h]

theorem State.stripped_eventful (s : State) : Eventful s s.stripped := by
  unfold State.stripped
  split
  · exact s.dismissed_eventful.trans (State.superviseAsMember_eventful _ _)
  · exact s.dismissed_eventful.trans (State.fallBack_eventful _)
  · exact s.dismissed_eventful
  · exact s.dismissed_eventful

theorem State.loseRole_eventful (coupled : Bool) (s : State) : Eventful s (s.loseRole coupled) := by
  rw [State.loseRole_eq]
  split
  · exact s.stripped_eventful.trans (State.failCensus_eventful _ _)
  · exact s.stripped_eventful

theorem State.stripped_census (s : State) : s.stripped.census =
    if s.census.lead = .calling then s.census.dismissed.entering s.census.standing else s.census.dismissed := by
  unfold State.stripped
  cases h : s.census.lead <;> simp [State.fallBack_eq]
  rfl

theorem State.stripped_summary (s : State) :
    s.stripped.summary = if s.census.lead = .holding then { recs := [], proven := false } else s.summary := by
  unfold State.stripped
  cases h : s.census.lead <;> simp [State.fallBack_eq, State.dismissed_summary, h]
  rw [State.superviseAsMember_summary (by simp [State.holding, Census.dismissed])]
  simp [State.dismissed_summary, h]

theorem State.stripped_alloc (s : State) :
    s.stripped.alloc = if s.census.lead = .holding then { s.alloc with recs := [], last := none } else s.alloc := by
  unfold State.stripped
  cases h : s.census.lead <;> simp [State.fallBack_eq, State.dismissed_alloc, h]

theorem State.stripped_freeCount (s : State) : s.stripped.freeCount = s.freeCount := by
  unfold State.stripped
  cases h : s.census.lead <;> simp [State.fallBack_eq]

/-- The line supervisor without the lead role (R34, R58, R66, R69). -/
theorem State.stripped_line (s : State) : s.stripped.line =
    match s.census.lead with
    | .holding => ({ s.line with beaconOn := false } : Supervisor).asMember false
    | .calling => if s.census.cs = .settled then s.line.ended else s.line
    | .off | .blocked => s.line := by
  unfold State.stripped
  cases h : s.census.lead <;>
    simp [State.fallBack_eq, State.dismissed_line, State.enterCensus_line, Census.standing_ne_settled, h, Census.dismissed]

end Sys2Proof.Machine
end

section
/-! PROOFS. Every event of the doors, the line and the census is one, whatever its command finds. -/

namespace Sys2Proof.Machine

/-! ## The lead role and topology reports -/

theorem State.seeTopology_eventful (s : State) : Eventful s s.seeTopology := (State.seeTopology_quiet s).eventful

theorem State.restartCensus_eventful (s : State) : Eventful s s.restartCensus :=
  (State.seeTopology_eventful s).trans (State.startAttempt_eventful _ _)

theorem State.judgeRole_eventful (s : State) : Eventful s s.judgeRole := by
  unfold State.judgeRole
  split
  · split
    · exact (Eventful.census _ s).trans (State.failCensus_eventful _ _)
    · exact State.startAttempt_eventful _ _
  · exact Eventful.refl s

theorem State.cabAssertion_eventful (s : State) : Eventful s s.cabAssertion := by
  unfold State.cabAssertion
  split
  · exact Eventful.refl s
  · exact (Eventful.census _ s).trans (State.judgeRole_eventful _)

theorem State.cabRelease_eventful (s : State) : Eventful s s.cabRelease := by
  unfold State.cabRelease
  split
  · dsimp only
    split
    · exact (Eventful.census _ s).trans (State.loseRole_eventful _ _)
    · exact Eventful.census _ s
  · exact Eventful.refl s

theorem State.censusTimeout_eventful (s : State) : Eventful s s.censusTimeout := by
  unfold State.censusTimeout
  split
  · split
    · exact State.startAttempt_eventful _ _
    · exact State.enterBlocked_eventful _ _
  · exact Eventful.refl s

theorem State.takeReturn_eventful (r : ReturnIn) (s : State) : Eventful s (s.takeReturn r) := by
  unfold State.takeReturn
  split
  · split
    · split
      · exact State.acceptReturn_eventful _ _ _
      · exact Eventful.refl s
    · exact State.enterBlocked_eventful _ _
    · exact State.enterBlocked_eventful _ _
    · exact State.enterBlocked_eventful _ _
    · exact Eventful.refl s
  · exact Eventful.refl s

/-- The census state that a topology change leaves at a node without the lead role (R51). -/
theorem State.memberReport_eq (k : TopologyKind) (s : State) : s.memberReport k =
    (if s.settled then s.enterCensus .stale else s).seeTopology.sendTopologyChange k := rfl

theorem State.memberReport_eventful (k : TopologyKind) (s : State) : Eventful s (s.memberReport k) := by
  rw [State.memberReport_eq]
  refine Eventful.trans (t := if s.settled then s.enterCensus .stale else s) ?_
    ((State.seeTopology_eventful _).trans (State.sendTopologyChange_quiet _ _).eventful)
  split
  · exact State.enterCensus_eventful _ _
  · exact Eventful.refl s

theorem State.matedReport_eventful (on : Bool) (e : EndNo) (s : State) : Eventful s (s.matedReport on e) := by
  unfold State.matedReport
  split
  · split
    · split
      · exact State.loseRole_eventful _ _
      · exact Eventful.refl s
    · exact State.restartCensus_eventful s
  · exact State.memberReport_eventful _ _

theorem State.mappingReport_eventful (k : TopologyKind) (s : State) : Eventful s (s.mappingReport k) := by
  unfold State.mappingReport
  split
  · split
    · exact State.loseRole_eventful _ _
    · exact State.restartCensus_eventful s
  · exact State.memberReport_eventful _ _

theorem State.takeTopologyChange_eventful (p : List Byte) (s : State) : Eventful s (s.takeTopologyChange p) := by
  unfold State.takeTopologyChange
  split
  · exact State.restartCensus_eventful s
  · exact Eventful.refl s

/-! ## Taking part as a member -/

/-- The census record of a node that takes a call on end `x` as the `n`-th of its list (R45). -/
def Census.called (c : Census) (x : EndNo) (tag : Tag) (n : Nat) : Census :=
  { c with position := n, orient := endOrientation x, leadEnd := some x, tag := some tag, hold := some Config.surveyHoldMs }

/-- The node in SURVEY with a call taken, before it sends on or returns the list (R45). -/
def State.surveyed (x : EndNo) (tag : Tag) (n : Nat) (s : State) : State :=
  ({ s with census := s.census.called x tag n } : State).enterCensus .survey

theorem State.surveyed_eventful (x : EndNo) (tag : Tag) (n : Nat) (s : State) : Eventful s (s.surveyed x tag n) :=
  (Eventful.census _ s).trans (State.enterCensus_eventful _ _)

@[simp] theorem State.surveyed_census (x : EndNo) (tag : Tag) (n : Nat) (s : State) :
    (s.surveyed x tag n).census = { s.census.called x tag n with cs := .survey } := by
  simp [State.surveyed, Census.entering]
@[simp] theorem State.surveyed_summary (x : EndNo) (tag : Tag) (n : Nat) (s : State) : (s.surveyed x tag n).summary = s.summary := by
  simp [State.surveyed]
@[simp] theorem State.surveyed_alloc (x : EndNo) (tag : Tag) (n : Nat) (s : State) : (s.surveyed x tag n).alloc = s.alloc := by
  simp [State.surveyed]
theorem State.surveyed_line (x : EndNo) (tag : Tag) (n : Nat) (s : State) :
    (s.surveyed x tag n).line = if s.census.cs = .settled then s.line.ended else s.line := by
  simp [State.surveyed, State.enterCensus_line, Census.called]

theorem State.takeCall_eq (x : EndNo) (c : CallIn) (s : State) : s.takeCall x c =
    if s.refusesCall c.tag then s.sendReturn c.tag 3 [] (s.endPort x)
    else if 32 ≤ c.entries.length then s.sendReturn c.tag 1 [] (s.endPort x)
    else if c.entries.any fun e => decide (e.id = s.nodeId) then s.sendReturn c.tag 2 [] (s.endPort x)
    else
      let es := c.entries ++ [s.ownEntry (endOrientation x)]
      let t := s.surveyed x c.tag es.length
      if t.mated (t.endPort x.other) then t.sendCall c.tag es (t.endPort x.other) else t.sendReturn c.tag 0 es (t.endPort x) := rfl

/-- A call is refused and the census left, or it is taken (R43 to R46). -/
theorem State.takeCall_eventful (x : EndNo) (c : CallIn) (s : State) : Eventful s (s.takeCall x c) := by
  rw [State.takeCall_eq]
  split
  · exact State.sendReturn_eventful _ _ _ _ _
  · split
    · exact State.sendReturn_eventful _ _ _ _ _
    · split
      · exact State.sendReturn_eventful _ _ _ _ _
      · dsimp only
        split
        · exact (State.surveyed_eventful _ _ _ s).trans (State.sendCall_quiet _ _ _ _).eventful
        · exact (State.surveyed_eventful _ _ _ s).trans (State.sendReturn_eventful _ _ _ _ _)

theorem State.surveyTimeout_eventful (s : State) : Eventful s s.surveyTimeout := by
  unfold State.surveyTimeout
  split
  · dsimp only
    split
    · exact (Eventful.census _ s).trans (State.fallBack_eventful _)
    · exact ((Eventful.census _ s).trans (State.fallBack_eventful _)).trans (Eventful.census _ _)
  · exact Eventful.refl s

/-- The census record of a member that installs an announced table (R48). -/
def Census.joined (c : Census) (epoch : Nat) (es : List Entry) : Census :=
  { c.installed epoch es with cs := .settled, hold := none, tag := none, staleArmed := true }

/-- The node with an announced table installed (R48, R56). -/
def State.joined (epoch : Nat) (es : List Entry) (s : State) : State :=
  ({ s with census := s.census.joined epoch es } : State).dropOldEpoch.superviseAsMember s.line.flag

theorem State.joined_eventful (epoch : Nat) (es : List Entry) (s : State) : Eventful s (s.joined epoch es) :=
  ((Eventful.census _ s).trans (State.dropOldEpoch_eventful _)).trans (State.superviseAsMember_eventful _ _)
@[simp] theorem State.joined_census (epoch : Nat) (es : List Entry) (s : State) : (s.joined epoch es).census = s.census.joined epoch es := by
  simp [State.joined]
@[simp] theorem State.joined_line (epoch : Nat) (es : List Entry) (s : State) : (s.joined epoch es).line = s.line.asMember s.line.flag := by
  simp [State.joined]
@[simp] theorem State.joined_alloc (epoch : Nat) (es : List Entry) (s : State) : (s.joined epoch es).alloc = s.alloc := by
  simp [State.joined]

/-- The census record of a member that gives its survey up (R47, R49). -/
def Census.givenUp (c : Census) : Census := { c with hold := none, tag := none }

theorem State.takeAnnounce_eq (a : AnnounceIn) (s : State) : s.takeAnnounce a =
    if s.census.cs = .survey ∧ s.census.lead = .off then
      if s.soundAnnounce a then s.joined a.epoch a.entries
      else ({ s with census := s.census.givenUp } : State).fallBack.seeTopology.sendTopologyChange .announceMismatch
    else s := rfl

theorem State.takeAnnounce_eventful (a : AnnounceIn) (s : State) : Eventful s (s.takeAnnounce a) := by
  rw [State.takeAnnounce_eq]
  split
  · split
    · exact State.joined_eventful _ _ s
    · exact (((Eventful.census _ s).trans (State.fallBack_eventful _)).trans (State.seeTopology_eventful _)).trans
        (State.sendTopologyChange_quiet _ _).eventful
  · exact Eventful.refl s

theorem State.censusBeacon_eventful (epoch : Nat) (s : State) : Eventful s (s.censusBeacon epoch) := by
  have report : ∀ t : State, Eventful t (t.seeTopology.sendTopologyChange .notInTable) := fun t =>
    (State.seeTopology_eventful t).trans (State.sendTopologyChange_quiet _ _).eventful
  unfold State.censusBeacon
  split
  · exact Eventful.refl s
  · split
    · split
      · exact Eventful.refl s
      · exact ((State.enterCensus_eventful _ s).trans (State.seeTopology_eventful _)).trans (State.sendTopologyChange_quiet _ _).eventful
    · split
      · exact (report s).trans (Eventful.census _ _)
      · exact Eventful.refl s
    · split
      · exact (report s).trans (Eventful.census _ _)
      · exact Eventful.refl s
    · exact Eventful.refl s

/-! ## Doors -/

theorem State.refuseOrder_eventful (sd : Side) (r : DoorRefusal) (s : State) : Eventful s (s.refuseOrder sd r) :=
  ((State.changeSide_eventful _ _ s).trans (State.count_quiet _ _).eventful).trans (State.raise_quiet _ _).eventful

theorem State.acceptOrder_eventful (sd : Side) (a : DoorAction) (epoch : Nat) (s : State) : Eventful s (s.acceptOrder sd a epoch) :=
  (State.changeSide_eventful _ _ s).trans (State.afterSides_eventful _ _)

/-- What a door order does at a door controller: nothing, a refusal at one of the checks of R79, or its acceptance (R78 to R80). -/
theorem State.takeOrder_cases (o : OrderIn) (s : State) :
    (s.takeOrder o).2 = s
      ∨ (∃ sd a, s.checkOrder sd a o.epoch ≠ .none ∧ (s.takeOrder o).2 = s.refuseOrder sd (s.checkOrder sd a o.epoch))
      ∨ (∃ sd a, s.checkOrder sd a o.epoch = .none ∧ (s.takeOrder o).2 = s.acceptOrder sd a o.epoch) := by
  unfold State.takeOrder
  split
  · rename_i side action _ _
    split
    · exact .inl rfl
    · split
      · exact .inl rfl
      · dsimp only
        split
        · rename_i h; exact .inr (.inr ⟨_, _, h, rfl⟩)
        · rename_i h; exact .inr (.inl ⟨_, _, h, rfl⟩)
  · exact .inl rfl

theorem State.takeOrder_eventful (o : OrderIn) (s : State) : Eventful s (s.takeOrder o).2 := by
  rcases s.takeOrder_cases o with h | ⟨sd, a, _, h⟩ | ⟨sd, a, _, h⟩ <;> rw [h]
  · exact Eventful.refl s
  · exact State.refuseOrder_eventful _ _ s
  · exact State.acceptOrder_eventful _ _ _ s

theorem State.loopChange_eventful (sd : Side) (made : Bool) (s : State) : Eventful s (s.loopChange sd made) := by
  unfold State.loopChange
  dsimp only
  split
  · exact Eventful.refl s
  · refine Eventful.trans ?_ (State.afterSides_eventful _ _)
    split
    · exact ((State.changeSide_eventful _ _ s).trans (State.count_quiet _ _).eventful).trans (State.raise_quiet _ _).eventful
    · exact State.changeSide_eventful _ _ s

theorem State.releaseTimeout_eventful (sd : Side) (s : State) : Eventful s (s.releaseTimeout sd) := by
  unfold State.releaseTimeout
  dsimp only
  split
  · exact State.withdrawSide_eventful _ _ s
  · exact Eventful.refl s

theorem State.warningTimeout_eventful (sd : Side) (s : State) : Eventful s (s.warningTimeout sd) := by
  unfold State.warningTimeout
  dsimp only
  split
  · exact (State.changeSide_eventful _ _ s).trans (State.afterSides_eventful _ _)
  · exact Eventful.refl s

theorem State.closeTimeout_eventful (sd : Side) (s : State) : Eventful s (s.closeTimeout sd) := by
  unfold State.closeTimeout
  dsimp only
  split
  · exact (((State.changeSide_eventful _ _ s).trans (State.count_quiet _ _).eventful).trans (State.raise_quiet _ _).eventful).trans
      (State.afterSides_eventful _ _)
  · exact Eventful.refl s

theorem State.takeDoorReport_eventful (p : List Byte) (s : State) : Eventful s (s.takeDoorReport p) := by
  unfold State.takeDoorReport
  split
  · split
    · exact (State.changeSide_eventful _ _ s).trans (State.changeSide_eventful _ _ _)
    · exact (State.count_quiet _ _).eventful
  · exact (State.count_quiet _ _).eventful

theorem State.commandDoors_eventful (side : TrainSide) (a : DoorAction) (first last : Nat) (s : State) :
    Eventful s (s.commandDoors side a first last) :=
  ((State.takeOrder_eventful _ s).trans (State.originate_quiet _ _ _).eventful).trans (State.pushMessage_quiet _ _).eventful

/-- A DOOR_COMMAND is answered alone, or accepted at a lead in HOLDING (R75). -/
theorem State.takeDoorCommand_cases (p : List Byte) (s : State) :
    (∃ st why, s.takeDoorCommand p = s.pushMessage (doorReply st why []))
      ∨ ∃ side a first last, s.census.lead = .holding ∧ s.takeDoorCommand p = s.commandDoors side a first last := by
  unfold State.takeDoorCommand
  split
  · exact .inl ⟨_, _, rfl⟩
  · split
    · exact .inl ⟨_, _, rfl⟩
    · exact .inl ⟨_, _, rfl⟩
    · exact .inl ⟨_, _, rfl⟩
    · rename_i h
      dsimp only
      split
      · exact .inl ⟨_, _, rfl⟩
      · exact .inr ⟨_, _, _, _, h, rfl⟩

theorem State.takeDoorCommand_eventful (p : List Byte) (s : State) : Eventful s (s.takeDoorCommand p) := by
  rcases s.takeDoorCommand_cases p with ⟨st, why, h⟩ | ⟨side, a, f, l, _, h⟩ <;> rw [h]
  · exact (State.pushMessage_quiet _ _).eventful
  · exact State.commandDoors_eventful _ _ _ _ s

theorem State.applyDoors_eventful (old : DoorTable) (s : State) : Eventful s (s.applyDoors old) := by
  unfold State.applyDoors
  dsimp only
  exact Eventful.trans (t := { s with doors := { s.doors with
      side1 := s.doors.side1.countChange old.count1 s.mgmt.working.door.count1
      side2 := s.doors.side2.countChange old.count2 s.mgmt.working.door.count2 } }) (Eventful.doors rfl) (State.afterSides_eventful _ _)

/-! ## Deliveries and the work of an index -/

theorem Delivery.callAct_eventful (d : Delivery) (s : State) : Eventful s (d.callAct s) := by
  unfold Delivery.callAct
  split
  · exact State.takeCall_eventful _ _ s
  · exact Eventful.refl s

theorem Delivery.returnAct_eventful (d : Delivery) (s : State) : Eventful s (d.returnAct s) := by
  unfold Delivery.returnAct
  split
  · exact State.takeReturn_eventful _ s
  · exact Eventful.refl s

theorem Delivery.announceAct_eventful (d : Delivery) (s : State) : Eventful s (d.announceAct s) := by
  unfold Delivery.announceAct
  split
  · exact State.takeAnnounce_eventful _ s
  · exact Eventful.refl s

theorem Delivery.orderAct_eventful (d : Delivery) (s : State) : Eventful s (d.orderAct s) := by
  unfold Delivery.orderAct
  split
  · exact State.takeOrder_eventful _ s
  · exact Eventful.refl s

/-- A DOOR_STATE frame is recorded, or changes nothing (R107). -/
theorem Delivery.doorStateAct_cases (d : Delivery) (s : State) :
    d.doorStateAct s = s ∨ ∃ pos a b p, s.holding = true ∧ d.doorStateAct s = s.recordDoors pos a b p := by
  unfold Delivery.doorStateAct
  split
  · split
    · split
      · rename_i h
        simp only [State.doorStatePasses, Bool.and_eq_true] at h
        exact .inr ⟨_, _, _, _, h.1.1.1.1, rfl⟩
      · exact .inl rfl
    · exact .inl rfl
  · exact .inl rfl

theorem Delivery.doorStateAct_eventful (d : Delivery) (s : State) : Eventful s (d.doorStateAct s) := by
  rcases d.doorStateAct_cases s with h | ⟨_, _, _, _, _, h⟩ <;> rw [h]
  · exact Eventful.refl s
  · exact State.recordDoors_eventful _ _ _ _ s

theorem State.recordDemand_eventful (pos r d : Nat) (p : Bool) (s : State) : Eventful s (s.recordDemand pos r d p) := Eventful.alloc _ s

/-- A HEAT_DEMAND frame is recorded, or changes nothing (R124). -/
theorem Delivery.demandAct_cases (d : Delivery) (s : State) :
    d.demandAct s = s ∨ ∃ pos r dm p, d.demandAct s = s.recordDemand pos r dm p := by
  unfold Delivery.demandAct
  split
  · split
    · exact .inr ⟨_, _, _, _, rfl⟩
    · exact .inl rfl
  · exact .inl rfl

theorem Delivery.demandAct_eventful (d : Delivery) (s : State) : Eventful s (d.demandAct s) := by
  rcases d.demandAct_cases s with h | ⟨_, _, _, _, h⟩ <;> rw [h]
  · exact Eventful.refl s
  · exact State.recordDemand_eventful _ _ _ _ s

theorem State.stageGrant_eventful (g : Grant) (s : State) : Eventful s (s.stageGrant g) := Eventful.inner (d := s.doors) rfl

/-- A HEAT_GRANT frame is staged, or changes nothing (R137). -/
theorem Delivery.grantAct_cases (d : Delivery) (s : State) : d.grantAct s = s ∨ ∃ g, d.grantAct s = s.stageGrant g := by
  unfold Delivery.grantAct
  split
  · split
    · split
      · exact .inr ⟨_, rfl⟩
      · exact .inl rfl
    · exact .inl rfl
  · exact .inl rfl

theorem Delivery.grantAct_eventful (d : Delivery) (s : State) : Eventful s (d.grantAct s) := by
  rcases d.grantAct_cases s with h | ⟨_, h⟩ <;> rw [h]
  · exact Eventful.refl s
  · exact State.stageGrant_eventful _ s

theorem State.compute_eventful (s : State) : Eventful s s.compute :=
  ((Eventful.alloc _ s).trans (State.originate_quiet _ _ _).eventful).trans (State.stageGrant_eventful _ _)

theorem State.demandWork_eventful (s : State) : Eventful s s.demandWork := by
  unfold State.demandWork
  split
  · exact State.recordDemand_eventful _ _ _ _ s
  · split
    · exact (State.toLead_quiet _ s).eventful
    · exact Eventful.refl s

theorem State.indexWork_eventful (s : State) : Eventful s s.indexWork := by
  unfold State.indexWork
  split
  · exact State.doorStateWork_eventful s
  · split
    · exact State.demandWork_eventful s
    · split
      · exact State.compute_eventful s
      · exact Eventful.refl s

/-- A delivery whose payload is no CENSUS_CALL is discarded (R181). -/
theorem Delivery.callAct_cases (d : Delivery) (s : State) :
    d.callAct s = s ∨ ∃ c, d.callAct s = s.takeCall d.endNo c := by
  unfold Delivery.callAct
  split
  · exact .inr ⟨_, rfl⟩
  · exact .inl rfl

theorem Delivery.returnAct_cases (d : Delivery) (s : State) : d.returnAct s = s ∨ ∃ r, d.returnAct s = s.takeReturn r := by
  unfold Delivery.returnAct
  split
  · exact .inr ⟨_, rfl⟩
  · exact .inl rfl

theorem Delivery.announceAct_cases (d : Delivery) (s : State) :
    d.announceAct s = s ∨ ∃ a, d.announceAct s = s.takeAnnounce a := by
  unfold Delivery.announceAct
  split
  · exact .inr ⟨_, rfl⟩
  · exact .inl rfl

theorem Delivery.orderAct_cases (d : Delivery) (s : State) : d.orderAct s = s ∨ ∃ o, d.orderAct s = (s.takeOrder o).2 := by
  unfold Delivery.orderAct
  split
  · exact .inr ⟨_, rfl⟩
  · exact .inl rfl

/-- A TOPOLOGY_CHANGE restarts the census of a lead, or changes nothing (R36). -/
theorem State.takeTopologyChange_cases (p : List Byte) (s : State) :
    s.takeTopologyChange p = s ∨ (s.isLead = true ∧ s.takeTopologyChange p = s.restartCensus) := by
  unfold State.takeTopologyChange
  split
  · rename_i h; exact .inr ⟨h.2, rfl⟩
  · exact .inl rfl

/-! ## The events by name -/

/-- The events of the doors, the line and the census, as the commands bring them. -/
inductive Event where
  | mated (on : Bool) (e : EndNo)
  | call (d : Delivery)
  | censusReturn (d : Delivery)
  | announce (d : Delivery)
  | topology (payload : List Byte)
  | order (d : Delivery)
  | doorState (d : Delivery)
  | heatDemand (d : Delivery)
  | heatGrant (d : Delivery)
  | cabAssertion
  | cabRelease
  | censusTimeout
  | surveyTimeout
  | zsp (level : Bool)
  | supervisionExpiry
  | doorCommand (payload : List Byte)
  | doorReport (payload : List Byte)
  | loop (sd : Side) (made : Bool)
  | releaseTimeout (sd : Side)
  | warningTimeout (sd : Side)
  | closeTimeout (sd : Side)
  | phase (sd : Side)

/-- What an event does. -/
def Event.act : Event → State → State
  | .mated on e => State.matedReport on e
  | .call d => d.callAct
  | .censusReturn d => d.returnAct
  | .announce d => d.announceAct
  | .topology p => State.takeTopologyChange p
  | .order d => d.orderAct
  | .doorState d => d.doorStateAct
  | .heatDemand d => d.demandAct
  | .heatGrant d => d.grantAct
  | .cabAssertion => State.cabAssertion
  | .cabRelease => State.cabRelease
  | .censusTimeout => State.censusTimeout
  | .surveyTimeout => State.surveyTimeout
  | .zsp level => State.zspChange level
  | .supervisionExpiry => State.supervisionExpiry
  | .doorCommand p => State.takeDoorCommand p
  | .doorReport p => State.takeDoorReport p
  | .loop sd made => State.loopChange sd made
  | .releaseTimeout sd => State.releaseTimeout sd
  | .warningTimeout sd => State.warningTimeout sd
  | .closeTimeout sd => State.closeTimeout sd
  | .phase sd => State.changeSide sd DoorSide.phaseChange

theorem Event.act_eventful (e : Event) (s : State) : Eventful s (e.act s) := by
  cases e with
  | mated on x => exact State.matedReport_eventful on x s
  | call d => exact d.callAct_eventful s
  | censusReturn d => exact d.returnAct_eventful s
  | announce d => exact d.announceAct_eventful s
  | topology p => exact State.takeTopologyChange_eventful p s
  | order d => exact d.orderAct_eventful s
  | doorState d => exact d.doorStateAct_eventful s
  | heatDemand d => exact d.demandAct_eventful s
  | heatGrant d => exact d.grantAct_eventful s
  | cabAssertion => exact s.cabAssertion_eventful
  | cabRelease => exact s.cabRelease_eventful
  | censusTimeout => exact s.censusTimeout_eventful
  | surveyTimeout => exact s.surveyTimeout_eventful
  | zsp level => exact s.zspChange_eventful level
  | supervisionExpiry => exact s.supervisionExpiry_eventful
  | doorCommand p => exact s.takeDoorCommand_eventful p
  | doorReport p => exact s.takeDoorReport_eventful p
  | loop sd made => exact s.loopChange_eventful sd made
  | releaseTimeout sd => exact s.releaseTimeout_eventful sd
  | warningTimeout sd => exact s.warningTimeout_eventful sd
  | closeTimeout sd => exact s.closeTimeout_eventful sd
  | phase sd => exact s.changeSide_eventful sd _

end Sys2Proof.Machine
end

section
/-! PROOFS. The plumbing of the node: reception, relaying, the coach link and the replies touch no block but ports, waiting frames, counters,
flags and coach link. What a condition on the blocks needs so that every step keeps it is gathered in `Kept`. -/

namespace Sys2Proof.Machine

/-! ## Routing -/

/-- What reception, relaying, the coach link and the replies leave as it was. -/
structure Routed (s t : State) : Prop where
  powered : t.powered = s.powered
  nodeId : t.nodeId = s.nodeId
  strap : t.strap = s.strap
  census : t.census = s.census
  line : t.line = s.line
  doors : t.doors = s.doors
  summary : t.summary = s.summary
  heater : t.heater = s.heater
  alloc : t.alloc = s.alloc
  sense : t.sense = s.sense
  mgmt : t.mgmt = s.mgmt
  freeCount : t.freeCount = s.freeCount
  pending : t.pending = s.pending

theorem Quiet.routed {s t : State} (h : Quiet s t) : Routed s t :=
  ⟨h.powered, h.nodeId, h.strap, h.census, h.line, h.doors, h.summary, h.heater, h.alloc, h.sense, h.mgmt, h.freeCount, h.pending⟩

theorem Routed.refl (s : State) : Routed s s := (Quiet.refl s).routed

theorem Routed.trans {s t u : State} (h : Routed s t) (k : Routed t u) : Routed s u :=
  ⟨k.powered.trans h.powered, k.nodeId.trans h.nodeId, k.strap.trans h.strap, k.census.trans h.census, k.line.trans h.line,
    k.doors.trans h.doors, k.summary.trans h.summary, k.heater.trans h.heater, k.alloc.trans h.alloc, k.sense.trans h.sense,
    k.mgmt.trans h.mgmt, k.freeCount.trans h.freeCount, k.pending.trans h.pending⟩

/-- Ports, waiting frames, counters, flags and coach link may change in any way. -/
theorem Routed.outer {s : State} {a b : LinePort} {d : List Delivery} {e : Events} {n : Notices} {l : Link} :
    Routed s { s with portA := a, portB := b, delivered := d, events := e, notices := n, link := l } :=
  ⟨rfl, rfl, rfl, rfl, rfl, rfl, rfl, rfl, rfl, rfl, rfl, rfl, rfl⟩

theorem Routed.setPort (p : Port) (x : LinePort) (s : State) : Routed s (s.setPort p x) := by cases p <;> exact Routed.outer

theorem Routed.delivered (d : List Delivery) (s : State) : Routed s { s with delivered := d } := Routed.outer

theorem Routed.link (l : Link) (s : State) : Routed s { s with link := l } := Routed.outer

/-! ## Replies -/

/-- The frames of a reply over the line are quiet. -/
theorem State.replyFrames_quiet (port : Port) (asker : NodeId) (dir : Dir) (ps : List (List Byte)) (s : State) :
    Quiet s (ps.foldl (fun acc p => acc.sendReplyFrame port asker dir p) s) := by
  induction ps generalizing s with
  | nil => exact Quiet.refl s
  | cons p ps ih => exact (State.originate_quiet _ _ s).trans (ih _)

theorem State.sendReply_routed (o : Origin) (kind tag : Nat) (st : Status) (results : List Byte) (s : State) :
    Routed s (s.sendReply o kind tag st results) := by
  cases o with
  | line port asker dir => exact (State.replyFrames_quiet port asker dir _ s).routed
  | coachLink => exact Routed.link _ s

theorem State.sendAnswer_routed (o : Origin) (r : Request) (a : Answer) (s : State) : Routed s (s.sendAnswer o r a) := by
  cases a with
  | now st results => exact State.sendReply_routed o r.kind r.tag st results s
  | later => exact Routed.refl s

theorem State.drainLineFuel_routed : ∀ (n : Nat) (s : State), Routed s (State.drainLineFuel n s)
  | 0, s => Routed.refl s
  | n + 1, s => by
    unfold State.drainLineFuel
    split
    · exact Routed.refl s
    · split
      · exact (Routed.delivered _ s).trans (State.drainLineFuel_routed n _)
      · split
        · exact Routed.refl s
        · exact ((Routed.delivered _ s).trans (State.sendAnswer_routed _ _ _ _)).trans (State.drainLineFuel_routed n _)

theorem State.drainLine_routed (s : State) : Routed s s.drainLine := State.drainLineFuel_routed _ s

/-! ## Coach data and the coach link -/

theorem State.sendData_quiet (e : ClassEntry) (m : Sending) (p : Port) (named : Bool) (s : State) : Quiet s (s.sendData e m p named) := by
  unfold State.sendData
  split
  · dsimp only
    split
    · exact State.sendOne_quiet State.count_quiet _ _ _ _
    · exact State.sendCopy_quiet State.count_quiet _ _ _ _
  · exact Quiet.refl s

theorem State.originateData_quiet (cls : Nat) (k : DestKind) (v : BitVec 32) (payload : List Byte) (s : State) :
    Quiet s (s.originateData cls k v payload) := by
  unfold State.originateData
  dsimp only
  split
  · exact Quiet.refl s
  · split
    · exact Quiet.refl s
    · split
      · exact Quiet.refl s
      · split
        · exact State.sendData_quiet _ _ _ _ _
        · exact State.sendData_quiet _ _ _ _ _
        · exact (State.sendData_quiet _ _ _ _ _).trans (State.sendData_quiet _ _ _ _ _)

theorem State.coachDataSend_quiet (payload : List Byte) (s : State) : Quiet s (s.coachDataSend payload) := by
  unfold State.coachDataSend
  split
  · split
    · split
      · exact State.count_quiet _ _
      · exact State.originateData_quiet _ _ _ _ s
    · exact State.count_quiet _ _
  · exact State.count_quiet _ _

theorem State.drainLinkFuel_routed : ∀ (n : Nat) (s : State), Routed s (State.drainLinkFuel n s)
  | 0, s => Routed.refl s
  | n + 1, s => by
    unfold State.drainLinkFuel
    split
    · exact Routed.refl s
    · split
      · exact ((Routed.link _ s).trans (State.coachDataSend_quiet _ _).routed).trans (State.drainLinkFuel_routed n _)
      · split
        · split
          · exact ((Routed.link _ s).trans (State.count_quiet _ _).routed).trans (State.drainLinkFuel_routed n _)
          · split
            · exact Routed.refl s
            · split
              · exact ((Routed.link _ s).trans (State.sendAnswer_routed _ _ _ _)).trans (State.drainLinkFuel_routed n _)
              · exact Routed.refl s
        · exact Routed.refl s

theorem State.drainLink_routed (s : State) : Routed s s.drainLink := State.drainLinkFuel_routed _ s

theorem State.closeMessage_routed (bytes : List Byte) (s : State) : Routed s (s.closeMessage bytes) := by
  unfold State.closeMessage
  split
  · split
    · exact (Routed.link _ s).trans (State.drainLink_routed _)
    · exact (State.count_quiet _ _).routed
  · exact (State.count_quiet _ _).routed

theorem State.receiveByte_routed (b : Byte) (s : State) : Routed s (s.receiveByte b) := by
  unfold State.receiveByte
  split
  · split
    · exact Routed.link _ s
    · exact Routed.refl s
  · dsimp only
    split
    · exact (Routed.link _ s).trans (State.closeMessage_routed _ _)
    · exact Routed.link _ s

theorem State.receiveBytes_routed (bytes : List Byte) (s : State) : Routed s (s.receiveBytes bytes) := by
  induction bytes generalizing s with
  | nil => exact Routed.refl s
  | cons b bs ih => exact (State.receiveByte_routed b s).trans (ih _)

theorem State.cutMessage_routed (s : State) : Routed s s.cutMessage := by
  unfold State.cutMessage
  split
  · exact (Routed.link _ s).trans (State.count_quiet _ _).routed
  · exact Routed.refl s

theorem State.linkTxComplete_routed (s : State) : Routed s s.linkTxComplete := by
  unfold State.linkTxComplete
  split
  · exact Routed.refl s
  · exact (Routed.link _ s).trans (State.drainLink_routed _)

/-! ## Reception and relaying -/

theorem State.deliverNotice_quiet (f : Frame) (s : State) : Quiet s (s.deliverNotice f) := by
  unfold State.deliverNotice
  split
  · exact State.pushMessage_quiet _ s
  · exact Quiet.refl s

theorem State.deliverFixed_routed (p : Port) (f : Frame) (s : State) : Routed s (s.deliverFixed p f) := by
  unfold State.deliverFixed
  split
  · exact (State.deliverNotice_quiet f s).routed
  · split
    · exact Routed.refl s
    · split
      · split
        · exact Routed.delivered _ s
        · exact Routed.delivered _ s
        · exact Routed.refl s
        · exact Routed.refl s
      · exact Routed.delivered _ s

theorem State.deliverData_quiet (f : Frame) (s : State) : Quiet s (s.deliverData f) := by
  unfold State.deliverData
  split
  · exact State.pushMessage_quiet _ s
  · exact State.count_quiet _ s

theorem State.handleFixed_routed (p : Port) (f : Frame) (s : State) : Routed s (s.handleFixed p f) := by
  unfold State.handleFixed
  split
  · exact State.deliverFixed_routed p f s
  · exact (State.relayFrame_quiet _ _ _ s).routed
  · exact (State.deliverFixed_routed p f s).trans (State.relayFrame_quiet _ _ _ _).routed

theorem Quiet.ite {c : Prop} [Decidable c] {s t u : State} (ht : Quiet s t) (hu : Quiet s u) : Quiet s (if c then t else u) := by
  split
  · exact ht
  · exact hu

theorem State.handleData_quiet (p : Port) (f : Frame) (s : State) : Quiet s (s.handleData p f) := by
  unfold State.handleData
  dsimp only
  split
  · exact Quiet.refl s
  · split
    · exact Quiet.refl s
    · exact (Quiet.ite (State.deliverData_quiet f s) (Quiet.refl s)).trans (Quiet.ite (State.relayFrame_quiet _ _ _ _) (Quiet.refl _))

theorem State.classify_routed (p : Port) (f : Frame) (s : State) : Routed s (s.classify p f) := by
  unfold State.classify
  dsimp only
  split
  · exact (State.countClass_quiet _ s).routed.trans (State.handleFixed_routed p f _)
  · exact ((State.countClass_quiet _ s).trans (State.handleData_quiet p f _)).routed

theorem State.receive_routed (p : Port) (a : Assembly) (s : State) : Routed s (s.receive p a) := by
  unfold State.receive
  split
  · exact (State.count_quiet _ _).routed
  · exact (State.count_quiet _ _).routed
  · exact State.classify_routed p _ s

theorem State.frameClosed_routed (p : Port) (bytes : List Byte) (byStart : Bool) (s : State) : Routed s (s.frameClosed p bytes byStart) := by
  unfold State.frameClosed
  split
  · exact ((Routed.setPort p _ s).trans (State.receive_routed p _ _)).trans (State.drainLine_routed _)
  · exact Routed.refl s

theorem State.txComplete_routed (p : Port) (s : State) : Routed s (s.txComplete p) := by
  unfold State.txComplete
  split
  · exact Routed.refl s
  · exact Routed.setPort p _ s

/-- A pilot window moves its port, and where the end enters or leaves MATED its report follows (R5, R15). -/
theorem State.pilotWindow_cases (p : Port) (edges : Nat) (s : State) :
    ∃ t, Routed s t ∧ (s.pilotWindow p edges = t ∨ ∃ on e, s.pilotWindow p edges = t.matedReport on e) := by
  unfold State.pilotWindow
  dsimp only
  split
  · exact ⟨_, Routed.setPort p _ s, .inr ⟨_, _, rfl⟩⟩
  · split
    · exact ⟨_, (Routed.setPort p _ s).trans (State.countTimes_quiet _ _ _).routed, .inr ⟨_, _, rfl⟩⟩
    · exact ⟨_, Routed.setPort p _ s, .inl rfl⟩

/-! ## Requests -/

/-- What carrying a request out can do to the node (R173 and the rule of each request). -/
inductive Effect (s : State) : State → Prop where
  | routed {t : State} (h : Routed s t) : Effect s t
  | loaded (name : TableName) (n : Nat) (vs : List Nat) : Effect s (s.loadFields name n vs)
  | switched (h : s.applyRefused = false) : Effect s s.switchTables
  | stored (o : Origin) (tag : Nat) : Effect s { s with mgmt := { s.mgmt with
      image := none, store := .writing { tables := s.mgmt.working, enable := s.notices.enable } o tag } }
  | budget (b : Nat) : Effect s { s with alloc := { s.alloc with budget := b } }
  | settings (args : List Byte) (t : SenseSettings) (hl : args.length = 12) (h : readSettings args = some t) : Effect s (s.changeSense t)
  | sampled : Effect s { s with sense := s.sense.sampleRequest.2 }
  | captureOn : Effect s { s with sense := s.sense.startCapture }
  | captureOff : Effect s { s with sense := s.sense.stopCapture }
  | captureRead : Effect s { s with sense := { s.sense with fifo := s.sense.fifo.drop Machine.captureRead } }
  | groups (ks : List Nat) (h : ∀ k ∈ ks, k < 4) : Effect s (ks.foldl (fun acc k => State.clearGroupFault k acc) s).formR
  | recensus (h : s.isLead = true) : Effect s (s.startAttempt 0)
  | restart : Effect s { s with mgmt := { s.mgmt with restart := some Config.restartMs } }

/-- The requests of R173. -/
def services : List Service :=
  [identifyService, readConsistService, readDoorService, readHeatingService, readSenseService, readCaptureService, readCountersService,
    readNoticesService, clearCountersService, clearNoticesService, setNoticeEnableService, loadTableService, applyService, storeService,
    setBudgetService, setSenseService, sampleService, startCaptureService, stopCaptureService, clearGroupFaultService, recensusService,
    restartService]

theorem Effect.same (s : State) : Effect s s := .routed (Routed.refl s)

theorem countersAct_effect (o : Origin) (r : Request) (s : State) : Effect s (countersAct o r s).2 := by
  unfold countersAct; dsimp only; split <;> exact .same s

theorem State.clearFlags_routed (m : BitVec 13) (s : State) : Routed s (s.clearFlags m) := by
  unfold State.clearFlags
  dsimp only
  split
  · exact Routed.trans (t := { s with notices := { s.notices with flags := s.notices.flags &&& ~~~m } }) Routed.outer
      (State.raise_quiet _ _).routed
  · exact Routed.outer

theorem clearNoticesAct_effect (o : Origin) (r : Request) (s : State) : Effect s (clearNoticesAct o r s).2 := by
  unfold clearNoticesAct
  split
  · exact .routed (State.clearFlags_routed _ s)
  · exact .same s

theorem setEnableAct_effect (o : Origin) (r : Request) (s : State) : Effect s (setEnableAct o r s).2 := by
  unfold setEnableAct
  split
  · exact .routed Routed.outer
  · exact .same s

theorem loadAct_effect (o : Origin) (r : Request) (s : State) : Effect s (loadAct o r s).2 := by
  unfold loadAct
  split
  · split
    · split
      · exact .same s
      · exact .loaded _ _ _
    · exact .same s
  · exact .same s

theorem applyAct_effect (o : Origin) (r : Request) (s : State) : Effect s (applyAct o r s).2 := by
  unfold applyAct
  split
  · exact .same s
  · split
    · exact .same s
    · rename_i h; exact .switched (by simpa using h)

theorem storeAct_effect (o : Origin) (r : Request) (s : State) : Effect s (storeAct o r s).2 := by
  unfold storeAct
  split
  · exact .same s
  · exact .stored _ _

theorem budgetAct_effect (o : Origin) (r : Request) (s : State) : Effect s (budgetAct o r s).2 := by
  unfold budgetAct
  split
  · exact .budget _
  · exact .same s

theorem setSenseAct_effect (o : Origin) (r : Request) (s : State) (h : r.args.length = 12) : Effect s (setSenseAct o r s).2 := by
  unfold setSenseAct
  split
  · rename_i t ht; exact .settings r.args t h ht
  · exact .same s

theorem groupFaultAct_effect (o : Origin) (r : Request) (s : State) : Effect s (groupFaultAct o r s).2 := by
  unfold groupFaultAct
  dsimp only
  split
  · exact .groups [0, 1, 2, 3] (by decide)
  · split
    · exact .same s
    · split
      · exact .same s
      · exact .groups [_] fun k hk => by rw [List.mem_singleton] at hk; omega

theorem recensusAct_effect (o : Origin) (r : Request) (s : State) : Effect s (recensusAct o r s).2 := by
  unfold recensusAct
  split
  · exact .same s
  · rename_i h
    simp only [not_or, Bool.not_eq_true, Bool.not_eq_false] at h
    exact .recensus h.2

theorem restartAct_effect (o : Origin) (r : Request) (s : State) : Effect s (restartAct o r s).2 := by
  unfold restartAct
  split
  · exact .same s
  · exact .restart

/-- A request that is carried out has the effect its rule gives. -/
theorem Service.act_effect {v : Service} (hv : v ∈ services) (o : Origin) (r : Request) (s : State) (hf : v.form r.args = true) :
    Effect s (v.act o r s).2 := by
  simp only [services, List.mem_cons, List.not_mem_nil, or_false] at hv
  rcases hv with rfl | rfl | rfl | rfl | rfl | rfl | rfl | rfl | rfl | rfl | rfl | rfl | rfl | rfl | rfl | rfl | rfl | rfl | rfl | rfl |
    rfl | rfl
  · exact .same s
  · exact .same s
  · exact .same s
  · exact .same s
  · exact .same s
  · exact .captureRead
  · exact countersAct_effect o r s
  · exact .same s
  · exact .routed Routed.outer
  · exact clearNoticesAct_effect o r s
  · exact setEnableAct_effect o r s
  · exact loadAct_effect o r s
  · exact applyAct_effect o r s
  · exact storeAct_effect o r s
  · exact budgetAct_effect o r s
  · exact setSenseAct_effect o r s (of_decide_eq_true hf)
  · exact .sampled
  · exact .captureOn
  · exact .captureOff
  · exact groupFaultAct_effect o r s
  · exact recensusAct_effect o r s
  · exact restartAct_effect o r s

/-- A judged request answers and changes nothing, or is carried out (R173). -/
theorem State.judge_effect {v : Service} (hv : v ∈ services) (o : Origin) (r : Request) (s : State) : Effect s (s.judge v o r).2 := by
  unfold State.judge
  split
  · exact .same s
  · rename_i hf
    split
    · exact .same s
    · exact Service.act_effect hv o r s (by simpa using hf)

/-- Serving a request is routing, the effect of one request, and routing (R172, R179). -/
theorem State.serve_cases {v : Service} (hv : v ∈ services) (route : Route) (s : State) :
    ∃ x y, Routed s x ∧ Effect x y ∧ Routed y (s.serve route v) := by
  cases route with
  | line =>
    rw [show s.serve .line v = s.serveLine v from rfl]
    unfold State.serveLine
    split
    · exact ⟨s, s, Routed.refl s, .same s, Routed.refl s⟩
    · split
      · exact ⟨s, s, Routed.refl s, .same s, Routed.refl s⟩
      · split
        · exact ⟨_, _, Routed.delivered _ s, State.judge_effect hv _ _ _,
            ((State.sendAnswer_routed _ _ _ _).trans (State.drainLine_routed _)).trans (State.drainLink_routed _)⟩
        · exact ⟨s, s, Routed.refl s, .same s, Routed.refl s⟩
  | coachLink =>
    rw [show s.serve .coachLink v = s.serveLink v from rfl]
    unfold State.serveLink
    split
    · exact ⟨s, s, Routed.refl s, .same s, Routed.refl s⟩
    · split
      · split
        · exact ⟨s, s, Routed.refl s, .same s, Routed.refl s⟩
        · split
          · dsimp only
            split
            · exact ⟨s, s, Routed.refl s, .same s, Routed.refl s⟩
            · exact ⟨_, _, Routed.link _ s, State.judge_effect hv _ _ _,
                (State.sendAnswer_routed _ _ _ _).trans (State.drainLink_routed _)⟩
          · exact ⟨s, s, Routed.refl s, .same s, Routed.refl s⟩
      · exact ⟨s, s, Routed.refl s, .same s, Routed.refl s⟩

theorem State.startConditions_routed (s : State) : Routed s s.startConditions := by
  unfold State.startConditions
  exact ((Quiet.ite (State.raise_quiet _ s) (Quiet.refl s)).trans (Quiet.ite (State.raise_quiet _ _) (Quiet.refl _))).routed

/-! ## Conditions that every step keeps -/

/-- What a condition on the blocks needs so that every command keeps it. -/
structure Kept (P : State → Prop) : Prop where
  routed : ∀ {s t}, Routed s t → P s → P t
  event : ∀ (e : Event) s, P s → P (e.act s)
  beacon : ∀ f s, P s → P (s.takeBeacon f)
  tick : ∀ s, P s → P s.cycleTick
  slot : ∀ s, P s → P s.slotBoundary
  demand : ∀ b s, P s → P (s.takeDemand [b])
  demandHold : ∀ s, P s → P s.demandTimeout
  pacer : ∀ s, P s → P s.pacerTick
  conversion : ∀ code s, P s → P (s.conversionDone code)
  effect : ∀ {s t}, Effect s t → P s → P t
  written : ∀ image o tag s, s.mgmt.store = .writing image o tag → P s →
    P { s with mgmt := { s.mgmt with image := some image, store := .idle } }
  started : ∀ pins keep ev s, P s → P (s.blank pins keep ev)
  lost : ∀ s, P s → P s.powerLost

namespace Kept

theorem run {P : State → Prop} {f : State → State} (hf : ∀ s, P s → P (f s)) {s t : State} (h : s.run f = .next t) (hs : P s) : P t := by
  unfold State.run at h
  cases h
  split
  · exact hf s hs
  · exact hs

variable {P : State → Prop} (k : Kept P)
include k

theorem serve {v : Service} (hv : v ∈ services) (route : Route) (s : State) (hs : P s) : P (s.serve route v) := by
  obtain ⟨x, y, hx, hxy, hy⟩ := s.serve_cases hv route
  exact k.routed hy (k.effect hxy (k.routed hx hs))

theorem takeDelivered {cls : Nat} {act : Delivery → State → State} (ha : ∀ d s, P s → P (act d s)) (s : State) (hs : P s) :
    P (s.takeDelivered cls act) := by
  unfold State.takeDelivered
  split
  · exact ha _ _ (k.routed (Routed.delivered _ s) hs)
  · exact hs

theorem takeMessage {kind : Nat} {act : List Byte → State → State} (ha : ∀ p s, P s → P (act p s)) (s : State) (hs : P s) :
    P (s.takeMessage kind act) := by
  unfold State.takeMessage
  split
  · split
    · exact k.routed (State.drainLink_routed _) (ha _ _ (k.routed (Routed.link _ s) hs))
    · exact hs
  · exact hs

theorem pilotWindow (p : Port) (edges : Nat) (s : State) (hs : P s) : P (s.pilotWindow p edges) := by
  obtain ⟨t, ht, h | ⟨on, e, h⟩⟩ := s.pilotWindow_cases p edges <;> rw [h]
  · exact k.routed ht hs
  · exact k.event (.mated on e) t (k.routed ht hs)

theorem takeDemand (p : List Byte) (s : State) (hs : P s) : P (s.takeDemand p) := by
  unfold State.takeDemand
  split
  · exact k.demand _ s hs
  · exact k.routed (State.count_quiet _ _).routed hs

theorem storeDone (s : State) (hs : P s) : P s.storeDone := by
  unfold State.storeDone
  split
  · rename_i h
    exact k.routed (State.drainLink_routed _) (k.routed (State.sendReply_routed _ _ _ _ _ _) (k.written _ _ _ s h hs))
  · exact hs

theorem powerOn (pins : ResetPins) (s : State) (hs : P s) : P (s.powerOn pins) :=
  k.routed (State.startConditions_routed _) (k.started _ _ _ s hs)

theorem restartNow (pins : ResetPins) (s : State) (hs : P s) : P (s.restartNow pins) := by
  unfold State.restartNow
  split
  · exact hs
  · exact k.routed (State.startConditions_routed _) (k.started _ _ _ s hs)

/-- Every command keeps the condition. -/
theorem exec {c : Instr} {s t : State} (h : exec c s = .next t) (hs : P s) : P t := by
  cases c with
  | powerOn pins => cases h; exact k.powerOn pins s hs
  | powerLoss => cases h; exact k.lost s hs
  | pilotWindowClose p edges => exact run (k.pilotWindow p edges) h hs
  | lineFrameClosed p bytes byStart => exact run (fun s => k.routed (State.frameClosed_routed _ _ _ s)) h hs
  | lineTxComplete p => exact run (fun s => k.routed (State.txComplete_routed _ s)) h hs
  | censusCallTaken => exact run (k.takeDelivered fun d => k.event (.call d)) h hs
  | censusReturnTaken => exact run (k.takeDelivered fun d => k.event (.censusReturn d)) h hs
  | consistAnnounceTaken => exact run (k.takeDelivered fun d => k.event (.announce d)) h hs
  | topologyChangeTaken => exact run (k.takeDelivered fun d => k.event (.topology d.frame.payload)) h hs
  | beaconTaken => exact run (k.takeDelivered fun d => k.beacon d.frame) h hs
  | doorOrderTaken => exact run (k.takeDelivered fun d => k.event (.order d)) h hs
  | doorStateTaken => exact run (k.takeDelivered fun d => k.event (.doorState d)) h hs
  | heatDemandTaken => exact run (k.takeDelivered fun d => k.event (.heatDemand d)) h hs
  | heatGrantTaken => exact run (k.takeDelivered fun d => k.event (.heatGrant d)) h hs
  | cabAssertionTaken => exact run (k.event .cabAssertion) h hs
  | cabReleaseTaken => exact run (k.event .cabRelease) h hs
  | censusTimerExpiry => exact run (k.event .censusTimeout) h hs
  | surveyHoldExpiry => exact run (k.event .surveyTimeout) h hs
  | cycleTick => exact run k.tick h hs
  | slotBoundary => exact run k.slot h hs
  | zspChangeTaken level => exact run (k.event (.zsp level)) h hs
  | supervisionTimerExpiry => exact run (k.event .supervisionExpiry) h hs
  | doorCommand => exact run (k.takeMessage fun p => k.event (.doorCommand p)) h hs
  | loopChangeTaken sd level => exact run (k.event (.loop sd level)) h hs
  | maximumReleaseTimeExpiry sd => exact run (k.event (.releaseTimeout sd)) h hs
  | warningLeadTimeExpiry sd => exact run (k.event (.warningTimeout sd)) h hs
  | closeTimeoutExpiry sd => exact run (k.event (.closeTimeout sd)) h hs
  | warningPhaseChange sd => exact run (k.event (.phase sd)) h hs
  | doorReport => exact run (k.takeMessage fun p => k.event (.doorReport p)) h hs
  | demand => exact run (k.takeMessage k.takeDemand) h hs
  | demandHoldExpiry => exact run k.demandHold h hs
  | pacerTick => exact run k.pacer h hs
  | conversionComplete code => exact run (k.conversion code) h hs
  | coachLinkMessageComplete bytes => exact run (fun s => k.routed (State.receiveBytes_routed bytes s)) h hs
  | coachLinkByteTimeout bytes =>
    exact run (fun s => k.routed ((State.receiveBytes_routed bytes s).trans (State.cutMessage_routed _))) h hs
  | coachLinkTxComplete => exact run (fun s => k.routed (State.linkTxComplete_routed s)) h hs
  | identify r => exact run (k.serve (by simp [services]) r) h hs
  | readConsist r => exact run (k.serve (by simp [services]) r) h hs
  | readDoor r => exact run (k.serve (by simp [services]) r) h hs
  | readHeating r => exact run (k.serve (by simp [services]) r) h hs
  | readSense r => exact run (k.serve (by simp [services]) r) h hs
  | readCapture r => exact run (k.serve (by simp [services]) r) h hs
  | readCounters r => exact run (k.serve (by simp [services]) r) h hs
  | readNotices r => exact run (k.serve (by simp [services]) r) h hs
  | clearCounters r => exact run (k.serve (by simp [services]) r) h hs
  | clearNotices r => exact run (k.serve (by simp [services]) r) h hs
  | setNoticeEnable r => exact run (k.serve (by simp [services]) r) h hs
  | loadTable r => exact run (k.serve (by simp [services]) r) h hs
  | apply r => exact run (k.serve (by simp [services]) r) h hs
  | store r => exact run (k.serve (by simp [services]) r) h hs
  | storeWriteComplete => exact run k.storeDone h hs
  | setBudget r => exact run (k.serve (by simp [services]) r) h hs
  | setSense r => exact run (k.serve (by simp [services]) r) h hs
  | sample r => exact run (k.serve (by simp [services]) r) h hs
  | startCapture r => exact run (k.serve (by simp [services]) r) h hs
  | stopCapture r => exact run (k.serve (by simp [services]) r) h hs
  | clearGroupFault r => exact run (k.serve (by simp [services]) r) h hs
  | recensus r => exact run (k.serve (by simp [services]) r) h hs
  | restart r => exact run (k.serve (by simp [services]) r) h hs
  | restartTakesEffect pins => exact run (k.restartNow pins) h hs
  | coachLinkByteError bytes =>
    exact run (fun s => k.routed ((State.receiveBytes_routed bytes s).trans (State.cutMessage_routed _))) h hs

/-- Every step keeps a condition that every command keeps, that does not speak of the queue, and that the passing of time keeps. -/
theorem step (hq : ∀ q s, P s → P { s with pending := q }) (hp : ∀ s, P s → P s.passMs) {s t : State} (h : step s = .next t) (hs : P s) :
    P t := by
  unfold Machine.step at h
  split at h
  · cases h; exact hp s hs
  · exact k.exec h (hq _ s hs)

end Kept

end Sys2Proof.Machine
end

section
/-! PROOFS. The heater groups and their windows, position by position; and what the work of the heater switch leaves as it was. -/

namespace Sys2Proof.Machine

/-! ## Groups by position -/

theorem setOutputsFrom_eq (slot k : Nat) (gs : List Group) :
    setOutputsFrom slot k gs = gs.mapIdx fun i g => { g with output := inWindow (k + i) g.n slot } := by
  induction gs generalizing k with
  | nil => rfl
  | cons g gs ih => simp [setOutputsFrom, ih, List.mapIdx_cons, Nat.add_assoc, Nat.add_comm 1]

theorem onSlotsFrom_eq (c : Sense) (n k : Nat) (gs : List Group) : onSlotsFrom c n k gs =
    gs.mapIdx fun i g => { g with n := if g.st = .enabled then (if c.supervised (k + i) then n else min n 25) else 0 } := by
  induction gs generalizing k with
  | nil => rfl
  | cons g gs ih => simp [onSlotsFrom, ih, List.mapIdx_cons, Nat.add_assoc, Nat.add_comm 1]

theorem cutFrom_eq (was now : Sense) (k : Nat) (gs : List Group) : cutFrom was now k gs =
    gs.mapIdx fun i g => { g with n := if was.supervised (k + i) && !now.supervised (k + i) then min g.n 25 else g.n } := by
  induction gs generalizing k with
  | nil => rfl
  | cons g gs ih =>
    simp only [cutFrom, ih, List.mapIdx_cons, Nat.add_zero]
    congr 1
    · split <;> rfl
    · simp [Nat.add_assoc, Nat.add_comm 1]

theorem moveGroupsFrom_eq (old new : HeatTable) (k : Nat) (gs : List Group) :
    moveGroupsFrom old new k gs = gs.mapIdx fun i g => moveGroup (old.rating (k + i)) (new.rating (k + i)) g := by
  induction gs generalizing k with
  | nil => rfl
  | cons g gs ih => simp [moveGroupsFrom, ih, List.mapIdx_cons, Nat.add_assoc, Nat.add_comm 1]

/-- The group that stands for a place beyond the list. -/
def Group.absent : Group := { st := .notFitted, n := 0, output := false, strikes := 0, openFlag := false }

theorem Heater.group_eq (h : Heater) (k : Nat) : h.group k = (h.groups[k]?).getD Group.absent := by
  simp [Heater.group, Group.absent, List.getD_eq_getElem?_getD]

theorem Heater.group_of_getElem? {h : Heater} {k : Nat} {g : Group} (hk : h.groups[k]? = some g) : h.group k = g := by
  rw [Heater.group_eq, hk]; rfl

/-- A change of every group by its place, which leaves an absent group, at one place. -/
theorem Heater.group_mapIdx {h h' : Heater} {f : Nat → Group → Group} (hg : h'.groups = h.groups.mapIdx f)
    (hf : ∀ k, f k Group.absent = Group.absent) (k : Nat) : h'.group k = f k (h.group k) := by
  rw [Heater.group_eq, Heater.group_eq, hg, List.getElem?_mapIdx]
  cases h.groups[k]? with
  | none => exact (hf k).symm
  | some g => rfl

@[simp] theorem inWindow_zero (k slot : Nat) : inWindow k 0 slot = false := by simp [inWindow]

@[simp] theorem State.changeGroup_length (k : Nat) (f : Group → Group) (s : State) :
    (s.changeGroup k f).heater.groups.length = s.heater.groups.length := by simp [State.changeGroup]

theorem State.changeGroup_group (k j : Nat) (f : Group → Group) (s : State) :
    (s.changeGroup k f).heater.group j = if j = k ∧ k < s.heater.groups.length then f (s.heater.group k) else s.heater.group j := by
  simp only [Heater.group_eq, State.changeGroup, List.getElem?_modify]
  by_cases hk : k < s.heater.groups.length
  · by_cases h : j = k
    · subst h; simp [hk]
    · simp [h, Ne.symm h]
  · simp only [hk, and_false, if_false]
    by_cases h : k = j
    · subst h; simp [List.getElem?_eq_none (Nat.le_of_not_lt hk)]
    · simp [h]

theorem State.changeGroup_group_self {k : Nat} {f : Group → Group} {s : State} (hk : k < s.heater.groups.length) :
    (s.changeGroup k f).heater.group k = f (s.heater.group k) := by rw [State.changeGroup_group, if_pos ⟨rfl, hk⟩]

theorem State.changeGroup_group_ne {k j : Nat} {f : Group → Group} {s : State} (h : j ≠ k) :
    (s.changeGroup k f).heater.group j = s.heater.group j := by rw [State.changeGroup_group, if_neg (by simp [h])]

/-! ## Outputs and levels (R143, R145) -/

@[simp] theorem handLevels_length (gs : List Group) (ws : List OnWindow) : (handLevels gs ws).length = ws.length := by
  induction gs generalizing ws with
  | nil => cases ws <;> rfl
  | cons g gs ih => cases ws <;> simp [handLevels, ih]

theorem handLevels_getElem? (gs : List Group) (ws : List OnWindow) (k : Nat) : (handLevels gs ws)[k]? =
    match gs[k]?, ws[k]? with
    | some g, some w => some { w with level := g.output }
    | none, w => w
    | some _, none => none := by
  induction gs generalizing ws k with
  | nil => cases ws <;> simp [handLevels]
  | cons g gs ih =>
    cases ws with
    | nil =>
      cases k with
      | zero => rfl
      | succ k => simp only [handLevels, List.getElem?_nil, List.getElem?_cons_succ]; split <;> simp_all
    | cons w ws => cases k <;> simp [handLevels, ih]

/-- The on-window that stands for a place beyond the list. -/
def OnWindow.absent : OnWindow := { window := [], count := 0, level := false }

theorem Sense.onWin_eq (c : Sense) (k : Nat) : c.onWin k = (c.onWins[k]?).getD OnWindow.absent := by
  simp [Sense.onWin, OnWindow.absent, List.getD_eq_getElem?_getD]

@[simp] theorem State.setOutputs_group (k : Nat) (s : State) : s.setOutputs.heater.group k =
    { s.heater.group k with output := inWindow k (s.heater.group k).n s.heater.slot } := by
  rw [Heater.group_mapIdx (h := s.heater) (f := fun i g => { g with output := inWindow i g.n s.heater.slot })]
  · simp [State.setOutputs, setOutputsFrom_eq]
  · intro k; simp [Group.absent]

@[simp] theorem State.setOutputs_length (s : State) : s.setOutputs.heater.groups.length = s.heater.groups.length := by
  simp [State.setOutputs, setOutputsFrom_eq]
@[simp] theorem State.setOutputs_onWins_length (s : State) : s.setOutputs.sense.onWins.length = s.sense.onWins.length := by
  simp [State.setOutputs]
@[simp] theorem State.setOutputs_slot (s : State) : s.setOutputs.heater.slot = s.heater.slot := rfl

/-- Setting the outputs leaves window and count of an on-window, and hands it the level of its group (R145). -/
theorem State.setOutputs_onWin (k : Nat) (s : State) : s.setOutputs.sense.onWin k =
    if k < s.heater.groups.length ∧ k < s.sense.onWins.length then
      { s.sense.onWin k with level := inWindow k (s.heater.group k).n s.heater.slot }
    else s.sense.onWin k := by
  simp only [Sense.onWin_eq, Heater.group_eq, State.setOutputs, handLevels_getElem?, setOutputsFrom_eq, List.getElem?_mapIdx]
  by_cases hg : k < s.heater.groups.length
  · by_cases hw : k < s.sense.onWins.length
    · simp [hg, hw]
    · rw [List.getElem?_eq_getElem hg]; simp [hw]
  · simp [hg]

/-! ## What the work of the heater switch leaves -/

/-- What the heater switch and the tests of a cycle start leave as it was, and what they may change. -/
structure Heated (s t : State) : Prop where
  powered : t.powered = s.powered
  nodeId : t.nodeId = s.nodeId
  strap : t.strap = s.strap
  delivered : t.delivered = s.delivered
  census : t.census = s.census
  line : t.line = s.line
  doors : t.doors = s.doors
  summary : t.summary = s.summary
  alloc : t.alloc = s.alloc
  mgmt : t.mgmt = s.mgmt
  freeCount : t.freeCount = s.freeCount
  pending : t.pending = s.pending
  demandT : t.heater.demandT = s.heater.demandT
  demandD : t.heater.demandD = s.heater.demandD
  hold : t.heater.hold = s.heater.hold
  length : t.heater.groups.length = s.heater.groups.length
  sense : t.sense = { s.sense with onWins := t.sense.onWins }
  onWins : t.sense.onWins.length = s.sense.onWins.length
  portA : PortQuiet s.portA t.portA
  portB : PortQuiet s.portB t.portB
  size : t.events.counters.length = s.events.counters.length
  flags : ∀ f, hasFlag s.notices.flags f = true → hasFlag t.notices.flags f = true
  asm : t.link.asm = s.link.asm
  rx : t.link.rx = s.link.rx
  reserved : t.link.reserved = s.link.reserved

theorem Quiet.heated {s t : State} (h : Quiet s t) : Heated s t :=
  ⟨h.powered, h.nodeId, h.strap, h.delivered, h.census, h.line, h.doors, h.summary, h.alloc, h.mgmt, h.freeCount, h.pending,
    by rw [h.heater], by rw [h.heater], by rw [h.heater], by rw [h.heater], by rw [h.sense], by rw [h.sense], h.portA, h.portB, h.size,
    h.flags, h.asm, h.rx, h.reserved⟩

theorem Heated.refl (s : State) : Heated s s := (Quiet.refl s).heated

theorem Heated.trans {s t u : State} (h : Heated s t) (k : Heated t u) : Heated s u :=
  ⟨k.powered.trans h.powered, k.nodeId.trans h.nodeId, k.strap.trans h.strap, k.delivered.trans h.delivered, k.census.trans h.census,
    k.line.trans h.line, k.doors.trans h.doors, k.summary.trans h.summary, k.alloc.trans h.alloc, k.mgmt.trans h.mgmt,
    k.freeCount.trans h.freeCount, k.pending.trans h.pending, k.demandT.trans h.demandT, k.demandD.trans h.demandD, k.hold.trans h.hold,
    k.length.trans h.length, by rw [k.sense, h.sense], k.onWins.trans h.onWins, h.portA.trans k.portA, h.portB.trans k.portB,
    k.size.trans h.size, fun f x => k.flags f (h.flags f x), k.asm.trans h.asm, k.rx.trans h.rx, k.reserved.trans h.reserved⟩

theorem Heated.sameFrame {s t : State} (h : Heated s t) : s.sameFrame t := ⟨h.powered, h.nodeId, h.strap, h.mgmt, h.pending⟩

/-- The groups, the grant and the on-windows may change, if their numbers stay. -/
theorem Heated.inner {s : State} {gs : List Group} {ws : List OnWindow} {r a m d n : Nat} {st : Option Grant} {src : GrantSource}
    (hg : gs.length = s.heater.groups.length) (hw : ws.length = s.sense.onWins.length) :
    Heated s { s with
      heater := { s.heater with groups := gs, rating := r, staged := st, applied := a, source := src, missed := m, duty := d, slot := n }
      sense := { s.sense with onWins := ws } } :=
  ⟨rfl, rfl, rfl, rfl, rfl, rfl, rfl, rfl, rfl, rfl, rfl, rfl, rfl, rfl, rfl, hg, rfl, hw, PortQuiet.refl _, PortQuiet.refl _, rfl,
    fun _ h => h, rfl, rfl, rfl⟩

theorem State.changeGroup_heated (k : Nat) (f : Group → Group) (s : State) : Heated s (s.changeGroup k f) :=
  Heated.inner (ws := s.sense.onWins) (by simp) rfl

theorem State.setOutputs_heated (s : State) : Heated s s.setOutputs := Heated.inner (by simp [setOutputsFrom_eq]) (by simp)

theorem State.formR_heated (s : State) : Heated s s.formR := Heated.inner (ws := s.sense.onWins) rfl rfl

theorem State.applyGrant_heated (g : Nat) (src : GrantSource) (m : Nat) (s : State) : Heated s (s.applyGrant g src m) :=
  Heated.inner (ws := s.sense.onWins) rfl rfl

theorem State.formDuty_heated (s : State) : Heated s s.formDuty :=
  Heated.inner (ws := s.sense.onWins) (by simp [onSlotsFrom_eq]) rfl

theorem State.readSlot_heated (s : State) : Heated s s.readSlot :=
  Heated.trans (t := { s with heater := { s.heater with slot := s.line.slotPosition } }) (Heated.inner (ws := s.sense.onWins) rfl rfl)
    (State.setOutputs_heated _)

theorem State.endCycleStart_heated (s : State) : Heated s s.endCycleStart := Heated.inner (gs := s.heater.groups) rfl (by simp)

theorem State.strikeTest_heated (k : Nat) (fails : Bool) (s : State) : Heated s (s.strikeTest k fails) := by
  unfold State.strikeTest
  split
  · split
    · exact (((State.changeGroup_heated _ _ s).trans (State.setOutputs_heated _)).trans (State.count_quiet _ _).heated).trans
        (State.raise_quiet _ _).heated
    · exact State.changeGroup_heated _ _ s
  · exact State.changeGroup_heated _ _ s

theorem State.openTest_heated (k : Nat) (fails : Bool) (s : State) : Heated s (s.openTest k fails) := by
  unfold State.openTest
  split
  · split
    · exact Heated.refl s
    · exact ((State.changeGroup_heated _ _ s).trans (State.count_quiet _ _).heated).trans (State.raise_quiet _ _).heated
  · exact State.changeGroup_heated _ _ s

theorem State.testGroup_heated (k : Nat) (s : State) : Heated s (s.testGroup k) := by
  unfold State.testGroup
  dsimp only
  split
  · split
    · exact (State.strikeTest_heated _ _ s).trans (State.openTest_heated _ _ _)
    · exact Heated.refl s
  · exact Heated.refl s

theorem State.testGroups_heated (ks : List Nat) (s : State) : Heated s (ks.foldl (fun acc k => State.testGroup k acc) s) := by
  induction ks generalizing s with
  | nil => exact Heated.refl s
  | cons k ks ih => exact (State.testGroup_heated k s).trans (ih _)

theorem State.missedGrant_heated (s : State) : Heated s s.missedGrant := by
  unfold State.missedGrant
  split
  · exact (State.applyGrant_heated _ _ _ s).trans (State.count_quiet _ _).heated
  · exact (State.applyGrant_heated _ _ _ s).trans (State.count_quiet _ _).heated

theorem State.chooseGrant_heated (c : Nat) (s : State) : Heated s (s.chooseGrant c) := by
  unfold State.chooseGrant
  split
  · split
    · split
      · exact State.applyGrant_heated _ _ _ s
      · split
        · exact (State.applyGrant_heated _ _ _ s).trans (State.count_quiet _ _).heated
        · exact State.missedGrant_heated s
    · exact State.missedGrant_heated s
  · exact State.applyGrant_heated _ _ _ s

/-- The tests of a cycle start and the rating formed after them (R138, steps 1 and 2). -/
def State.tested (s : State) : State := ([0, 1, 2, 3].foldl (fun acc k => State.testGroup k acc) s).formR

theorem State.tested_heated (s : State) : Heated s s.tested := (State.testGroups_heated _ s).trans (State.formR_heated _)

theorem State.heaterCycleStart_eq (c : Nat) (s : State) :
    s.heaterCycleStart c = (((s.tested.chooseGrant c).formDuty).readSlot).endCycleStart := rfl

theorem State.heaterCycleStart_heated (c : Nat) (s : State) : Heated s (s.heaterCycleStart c) :=
  (((s.tested_heated.trans (State.chooseGrant_heated _ _)).trans (State.formDuty_heated _)).trans (State.readSlot_heated _)).trans
    (State.endCycleStart_heated _)

/-! ## The tick and the beacon -/

theorem State.sameFrame_trans {s t u : State} (h : s.sameFrame t) (k : t.sameFrame u) : s.sameFrame u :=
  ⟨k.1.trans h.1, k.2.1.trans h.2.1, k.2.2.1.trans h.2.2.1, k.2.2.2.1.trans h.2.2.2.1, k.2.2.2.2.trans h.2.2.2.2⟩

theorem State.ageSummary_eventful (s : State) : Eventful s s.ageSummary := by
  unfold State.ageSummary
  split
  · exact Eventful.refl s
  · exact Eventful.summary _ s

/-- The node with its cycle start marked (R62). -/
def State.marked (s : State) : State := { s with line := { s.line with lastStart := some s.line.cyc } }

theorem State.marked_eventful (s : State) : Eventful s s.marked := Eventful.line _ s

theorem State.cycleStart_eq (s : State) : s.cycleStart = (s.marked.heaterCycleStart s.line.cyc).ageSummary := rfl

theorem State.indexEntry_sameFrame (s : State) : s.sameFrame s.indexEntry := by
  unfold State.indexEntry
  split
  · exact (s.marked_eventful.sameFrame.elim fun a b => State.sameFrame_trans ⟨a, b⟩ (State.sameFrame_trans
      (State.heaterCycleStart_heated _ _).sameFrame (State.ageSummary_eventful _).sameFrame))
  · exact State.sameFrame_trans (State.readSlot_heated s).sameFrame (State.indexWork_eventful _).sameFrame

theorem State.cycleTick_sameFrame (s : State) : s.sameFrame s.cycleTick :=
  State.sameFrame_trans (Eventful.line _ s).sameFrame
    (State.sameFrame_trans (State.indexEntry_sameFrame _) (State.sendBeacon_quiet _).eventful.sameFrame)

theorem State.slotBoundary_cases (s : State) :
    s.slotBoundary = s ∨ ∃ tick, s.slotBoundary = ({ s with line := { s.line with tick := tick } } : State).readSlot := by
  unfold State.slotBoundary
  dsimp only
  split
  · exact .inr ⟨_, rfl⟩
  · exact .inl rfl

theorem State.slotBoundary_sameFrame (s : State) : s.sameFrame s.slotBoundary := by
  rcases s.slotBoundary_cases with h | ⟨_, h⟩ <;> rw [h]
  · exact (Eventful.refl s).sameFrame
  · exact State.sameFrame_trans (Eventful.line _ s).sameFrame (State.readSlot_heated _).sameFrame

theorem State.realign_sameFrame (b : BeaconIn) (s : State) : s.sameFrame (s.realign b) := by
  unfold State.realign
  dsimp only
  split
  · exact State.sameFrame_trans (Eventful.line _ s).sameFrame (State.readSlot_heated _).sameFrame
  · exact State.sameFrame_trans (Eventful.line _ s).sameFrame (State.indexEntry_sameFrame _)

/-- A beacon at the line supervisor is disregarded, realigns the clock, or is accepted for supervision as well (R65, R67). -/
theorem State.supervisorBeacon_cases (epoch : Nat) (b : BeaconIn) (s : State) :
    s.supervisorBeacon epoch b = s
      ∨ (s.holding = false ∧ b.idx ≤ 19 ∧ s.supervisorBeacon epoch b = s.realign b)
      ∨ (s.holding = false ∧ b.idx ≤ 19 ∧ (s.realign b).settled = true ∧ (s.realign b).census.lead = .off
          ∧ s.supervisorBeacon epoch b = (s.realign b).acceptBeacon b.flag) := by
  unfold State.supervisorBeacon
  split
  · exact .inl rfl
  · rename_i h
    have hs : s.holding = false ∧ b.idx ≤ 19 := by simpa using h
    dsimp only
    split
    · rename_i k; exact .inr (.inr ⟨hs.1, hs.2, k.1, k.2.1, rfl⟩)
    · exact .inr (.inl ⟨hs.1, hs.2, rfl⟩)

theorem State.supervisorBeacon_sameFrame (epoch : Nat) (b : BeaconIn) (s : State) : s.sameFrame (s.supervisorBeacon epoch b) := by
  rcases s.supervisorBeacon_cases epoch b with h | ⟨_, _, h⟩ | ⟨_, _, _, _, h⟩ <;> rw [h]
  · exact (Eventful.refl s).sameFrame
  · exact State.realign_sameFrame b s
  · exact State.sameFrame_trans (State.realign_sameFrame b s) (State.acceptBeacon_eventful _ _).sameFrame

theorem State.takeBeacon_sameFrame (f : Frame) (s : State) : s.sameFrame (s.takeBeacon f) := by
  unfold State.takeBeacon
  split
  · exact State.sameFrame_trans (State.supervisorBeacon_sameFrame _ _ s) (State.censusBeacon_eventful _ _).sameFrame
  · exact (Eventful.refl s).sameFrame

/-! ## Every command answers, and keeps node ID and queue -/

theorem exec_next (c : Instr) (s : State) : ∃ t, exec c s = .next t := by
  cases c <;> exact ⟨_, rfl⟩

end Sys2Proof.Machine
end

section
/-! PROOFS. The step, the idle millisecond, power loss, pilot windows and transmitters; and that every command answers and keeps node ID and
queue. -/

namespace Sys2Proof.Machine

/-! ## Node ID and queue -/

/-- The conversion of a code changes the sense converter, and what raising CAPTURE_HALF changes (R154, R160). -/
theorem State.conversionDone_quiet (code : Code) (s : State) :
    ∃ c, Quiet { s with sense := c } (s.conversionDone code) := by
  unfold State.conversionDone
  split
  · dsimp only
    split
    · exact ⟨_, State.raise_quiet _ _⟩
    · exact ⟨_, Quiet.refl _⟩
  · exact ⟨s.sense, Quiet.refl s⟩

theorem State.pacerTick_eq (s : State) :
    s.pacerTick = { s with sense := if s.sense.pacer ≠ none ∧ s.sense.conv = none then s.sense.tick else s.sense } := by
  unfold State.pacerTick
  split <;> rfl

theorem State.demandTimeout_cases (s : State) : s.demandTimeout = s ∨
    s.demandTimeout = ({ s with heater := { s.heater with demandT := 0, hold := none } } : State).formD := by
  unfold State.demandTimeout
  split
  · exact .inl rfl
  · exact .inr rfl

/-- An accepted SET SENSE changes converter and groups, and what raising SENSE_DEGRADED changes (R156, R157). -/
theorem State.changeSense_quiet (v : SenseSettings) (s : State) :
    Quiet (({ s with sense := s.sense.change v } : State).handCoverage s.sense) (s.changeSense v) := by
  unfold State.changeSense
  dsimp only
  split
  · exact State.raise_quiet _ _
  · exact Quiet.refl _

/-- What a LOAD TABLE leaves: it changes staging and draws free values alone (R174). -/
theorem State.loadFields_cases (name : TableName) (n : Nat) (vs : List Nat) (s : State) :
    ∃ g k, s.loadFields name n vs = { s with mgmt := { s.mgmt with staging := g }, freeCount := k } := by
  induction vs generalizing n s with
  | nil => exact ⟨s.mgmt.staging, s.freeCount, rfl⟩
  | cons v vs ih =>
    obtain ⟨g, k, h⟩ := ih (n + 1) (s.loadField name n v)
    refine ⟨g, k, (show s.loadFields name n (v :: vs) = State.loadFields name (n + 1) vs (s.loadField name n v) from rfl).trans (h.trans ?_)⟩
    unfold State.loadField
    split <;> rfl

/-- The parts of an accepted APPLY after the tables are switched: the array, the doors, the heat table, the ends and the role (R175). -/
theorem State.switchTables_eq (s : State) : s.switchTables =
    (((((({ s with mgmt := { s.mgmt with working := s.mgmt.staging } } : State).applyArray s.mgmt.working).applyDoors
      s.mgmt.working.door).applyHeat s.mgmt.working.heat).applyEnds s.mgmt.working.coach).applyRole s.mgmt.working.coach) := rfl

theorem State.applyEnds_eventful (old : CoachTable) (s : State) : Eventful s (s.applyEnds old) := by
  have report : ∀ (k : TopologyKind) (c : Prop) [Decidable c] (t : State), Eventful t (if c then t else t.mappingReport k) := by
    intro k c _ t
    split
    · exact Eventful.refl t
    · exact State.mappingReport_eventful k t
  exact (report .numbering _ s).trans (report .cabEnd _ _)

theorem State.applyRole_eventful (old : CoachTable) (s : State) : Eventful s (s.applyRole old) := by
  unfold State.applyRole
  split
  · exact Eventful.refl s
  · split
    · split
      · exact State.judgeRole_eventful s
      · exact Eventful.refl s
    · split
      · exact State.loseRole_eventful _ s
      · exact Eventful.refl s

/-- The node with the groups moved, the outputs set and R and D formed after a change of the heat table (R117, R118, R136). -/
def State.heatMoved (old : HeatTable) (s : State) : State :=
  ({ s with heater := { s.heater with groups := moveGroupsFrom old s.mgmt.working.heat 0 s.heater.groups } } : State).setOutputs.formR.formD

theorem State.applyHeat_eq (old : HeatTable) (s : State) : s.applyHeat old =
    { s.heatMoved old with alloc := { s.alloc with
        budget := if old.defaultBudget = s.mgmt.working.heat.defaultBudget then s.alloc.budget else s.mgmt.working.heat.defaultBudget } } := by
  unfold State.applyHeat State.heatMoved
  dsimp only
  split <;> rfl

theorem State.applyArray_eq (old : Tables) (s : State) : s.applyArray old =
    { s with events := if old.coach.arraySize = s.mgmt.working.coach.arraySize then s.events
        else s.events.resize s.mgmt.working.coach.arraySize } := by
  unfold State.applyArray
  split <;> rfl

/-- A condition that speaks of node ID and queue alone. -/
def Labelled (id : NodeId) (q : List Instr) (s : State) : Prop := s.nodeId = id ∧ s.pending = q

theorem Labelled.of_sameFrame {id : NodeId} {q : List Instr} {s t : State} (h : s.sameFrame t) (hs : Labelled id q s) : Labelled id q t :=
  ⟨h.2.1.trans hs.1, h.2.2.2.2.trans hs.2⟩

theorem State.applyHeat_labelled {id : NodeId} {q : List Instr} {s : State} (old : HeatTable) (hs : Labelled id q s) :
    Labelled id q (s.applyHeat old) := by
  rw [State.applyHeat_eq]
  exact hs

theorem State.switchTables_labelled {id : NodeId} {q : List Instr} {s : State} (hs : Labelled id q s) : Labelled id q s.switchTables := by
  rw [State.switchTables_eq]
  refine Labelled.of_sameFrame (State.applyRole_eventful _ _).sameFrame (Labelled.of_sameFrame (State.applyEnds_eventful _ _).sameFrame ?_)
  refine State.applyHeat_labelled _ (Labelled.of_sameFrame (State.applyDoors_eventful _ _).sameFrame ?_)
  rw [State.applyArray_eq]
  exact hs

theorem State.clearGroups_labelled {id : NodeId} {q : List Instr} (ks : List Nat) {s : State} (hs : Labelled id q s) :
    Labelled id q (ks.foldl (fun acc k => State.clearGroupFault k acc) s) := by
  induction ks generalizing s with
  | nil => exact hs
  | cons k ks ih => exact ih ⟨by simpa using hs.1, by simpa using hs.2⟩

theorem Labelled.effect {id : NodeId} {q : List Instr} {s t : State} (h : Effect s t) (hs : Labelled id q s) : Labelled id q t := by
  cases h with
  | routed h => exact ⟨h.nodeId.trans hs.1, h.pending.trans hs.2⟩
  | loaded name n vs => obtain ⟨g, k, h⟩ := s.loadFields_cases name n vs; rw [h]; exact hs
  | switched _ => exact State.switchTables_labelled hs
  | settings args v _ _ => exact ⟨(s.changeSense_quiet v).nodeId.trans hs.1, (s.changeSense_quiet v).pending.trans hs.2⟩
  | groups ks _ => exact State.clearGroups_labelled ks hs
  | recensus _ => exact hs.of_sameFrame (s.startAttempt_eventful 0).sameFrame
  | stored | budget | sampled | captureOn | captureOff | captureRead | restart => exact hs

/-- Every command keeps node ID and queue. -/
theorem labelled_kept (id : NodeId) (q : List Instr) : Kept (Labelled id q) where
  routed h hs := ⟨h.nodeId.trans hs.1, h.pending.trans hs.2⟩
  event e s hs := hs.of_sameFrame (e.act_eventful s).sameFrame
  beacon f s hs := hs.of_sameFrame (s.takeBeacon_sameFrame f)
  tick s hs := hs.of_sameFrame s.cycleTick_sameFrame
  slot s hs := hs.of_sameFrame s.slotBoundary_sameFrame
  demand _ _ hs := hs
  demandHold s hs := by rcases s.demandTimeout_cases with h | h <;> rw [h] <;> exact hs
  pacer s hs := by rw [s.pacerTick_eq]; exact hs
  conversion code s hs := by
    obtain ⟨c, h⟩ := s.conversionDone_quiet code
    exact ⟨h.nodeId.trans hs.1, h.pending.trans hs.2⟩
  effect h hs := hs.effect h
  written _ _ _ _ _ hs := hs
  started _ _ _ _ hs := hs
  lost _ hs := hs

/-! ## One millisecond -/

theorem Sense.passMs_channel (k : Nat) (c : Sense) :
    c.passMs.channel k = { c.channel k with age := (c.channel k).age.map fun ms => ms + 1 } := by
  simp only [Sense.channel, Sense.passMs, List.getD_eq_getElem?_getD, List.getElem?_map]
  cases c.channels[k]? <;> rfl

/-! ## Power loss -/

/-- A node without power takes no command but POWER_ON and POWER_LOSS (log 4). -/
theorem exec_unpowered {c : Instr} {s : State} (hs : s.powered = false) (h1 : ∀ pins, c ≠ .powerOn pins) (h2 : c ≠ .powerLoss) :
    exec c s = .next s := by
  cases c with
  | powerOn pins => exact absurd rfl (h1 pins)
  | powerLoss => exact absurd rfl h2
  | coachLinkByteTimeout bytes => exact State.run_unpowered (fun x => (x.receiveBytes bytes).cutMessage) hs
  | coachLinkByteError bytes => exact State.run_unpowered (fun x => (x.receiveBytes bytes).cutMessage) hs
  | _ => exact State.run_unpowered _ hs

/-! ## Pilot windows that neither enter nor leave MATED -/

theorem exec_pilotWindowClose {s : State} (h : s.powered = true) (p : Port) (edges : Nat) :
    exec (.pilotWindowClose p edges) s = .next (s.pilotWindow p edges) := State.run_powered _ h

/-- A window that began with no edges is good by the edges it saw (R4). -/
theorem goodWindow_eq (edges : Nat) : goodWindow (windowEdges 0 edges) = decide (16 ≤ edges ∧ edges ≤ 24) := by
  simp only [goodWindow, windowEdges, Nat.zero_add, ← Bool.decide_and, decide_eq_decide]
  omega

/-- A window whose move neither enters nor leaves MATED moves the counters of its port alone (R5). -/
theorem State.pilotWindow_moves {p : Port} {edges : Nat} {s : State} (he : (s.port p).edges = 0)
    (h : ((s.port p).pilotMove (decide (16 ≤ edges ∧ edges ≤ 24))).pilot = .mated ↔ (s.port p).pilot = .mated) :
    s.pilotWindow p edges = s.setPort p ((s.port p).pilotMove (decide (16 ≤ edges ∧ edges ≤ 24))) := by
  unfold State.pilotWindow
  dsimp only
  rw [he, goodWindow_eq, if_neg (by rw [h]; exact fun c => c.1 c.2), if_neg (by rw [ne_eq, h]; exact fun c => c.2 c.1)]

/-- The moves of R5, for a port whose edge count stands at 0. -/
theorem LinePort.pilotMove_moves {x : LinePort} (he : x.edges = 0) :
    (x.pilot = .parted → x.pilotMove true = { x with good := 1, pilot := .mating } ∧ x.pilotMove false = x)
    ∧ (x.pilot = .mating → x.good < 19 → x.pilotMove true = { x with good := x.good + 1 })
    ∧ (x.pilot = .mating → x.pilotMove false = { x with good := 0, pilot := .parted })
    ∧ (x.pilot = .mated → x.pilotMove true = { x with bad := 0 })
    ∧ (x.pilot = .mated → x.bad < 4 → x.pilotMove false = { x with bad := x.bad + 1 }) := by
  cases x
  cases he
  refine ⟨fun h => ?_, fun h hn => ?_, fun h => ?_, fun h => ?_, fun h hn => ?_⟩ <;> cases h
  · exact ⟨rfl, rfl⟩
  · exact if_pos (Nat.succ_lt_succ hn)
  · rfl
  · rfl
  · exact if_pos (Nat.succ_lt_succ hn)

/-! ## Transmitters -/

theorem exec_lineTxComplete {s : State} (h : s.powered = true) (p : Port) : exec (.lineTxComplete p) s = .next (s.txComplete p) :=
  State.run_powered _ h

theorem State.txComplete_busy {p : Port} {s : State} (h : (s.port p).tx ≠ none) :
    s.txComplete p = s.setPort p { s.port p with tx := none }.takeNext := if_neg h

theorem State.txComplete_idle {p : Port} {s : State} (h : (s.port p).tx = none) : s.txComplete p = s := if_pos h

end Sys2Proof.Machine
end

section
open Sys2Proof Sys2Proof.Machine

/-- Settles O1: the step takes the front command and leaves the rest in the queue. -/
theorem stepRunsFront : Obligations.StepRunsFront := fun _ _ _ => rfl

/-- Settles O2: every command answers, and node ID and queue are a condition that every command keeps. -/
theorem everyCommandCompletes : Obligations.EveryCommandCompletes := by
  intro c s
  obtain ⟨t, h⟩ := exec_next c s
  obtain ⟨hid, hq⟩ := (labelled_kept s.nodeId s.pending).exec h ⟨rfl, rfl⟩
  exact ⟨t, h, hq, hid⟩

/-- Settles O3: on an empty queue the step is the passing of one millisecond. -/
theorem idleStepIsOneMillisecond : Obligations.IdleStepIsOneMillisecond := by
  intro s hp hq
  have hstep : step s = .next s.passMs := by unfold step; rw [hq]
  refine ⟨s.passMs, hstep, ?_⟩
  unfold State.passMs
  rw [if_pos hp]
  refine ⟨rfl, rfl, rfl, rfl, rfl, rfl, rfl, fun sd => by cases sd <;> rfl, fun k => ?_, rfl, rfl, rfl, rfl, rfl⟩
  have hk := s.sense.passMs_channel k
  exact ⟨by rw [hk], by rw [hk], by rw [hk]⟩

/-- Settles O4: each condition is evaluated on State.reset. -/
theorem resetIsSound : Obligations.ResetIsSound :=
  ⟨by decide, by decide, by decide, by decide, by decide, by decide, by decide, by decide, by decide, by decide, by decide, by decide,
    by decide, by decide, by decide⟩

/-- Settles O15: the node after a loss of power, item by item, and its deafness to every other command. -/
theorem powerLossEndsAll : Obligations.PowerLossEndsAll := by
  intro s
  refine ⟨s.powerLost, rfl, rfl, rfl, ?_, rfl, rfl, rfl, rfl, rfl, rfl, rfl, rfl, rfl, rfl, fun c h1 h2 => exec_unpowered rfl h1 h2⟩
  show s.mgmt.soundImage = _
  cases h : s.mgmt.store <;> simp [Mgmt.soundImage, h]

/-- Settles O17: each move of the pilot state machine that leaves MATED alone. -/
theorem pilotWindowMoves : Obligations.PilotWindowMoves := by
  intro s p edges hp he x good
  have moves : ∀ y : LinePort, x.pilotMove (decide good) = y → (y.pilot = .mated ↔ x.pilot = .mated) →
      exec (.pilotWindowClose p edges) s = .next (s.setPort p y) := by
    rintro y rfl hy
    rw [exec_pilotWindowClose hp, State.pilotWindow_moves he hy]
  obtain ⟨hparted, hmating, hfails, hmated, hfades⟩ := LinePort.pilotMove_moves (x := x) he
  refine ⟨fun hs hg => moves _ (by rw [decide_eq_true hg]; exact (hparted hs).1) (by simp [hs]), fun hs hg => ?_,
    fun hs hg hn => moves _ (by rw [decide_eq_true hg]; exact hmating hs hn) Iff.rfl,
    fun hs hg => moves _ (by rw [decide_eq_false hg]; exact hfails hs) (by simp [hs]),
    fun hs hg => moves _ (by rw [decide_eq_true hg]; exact hmated hs) Iff.rfl,
    fun hs hg hn => moves _ (by rw [decide_eq_false hg]; exact hfades hs hn) Iff.rfl⟩
  have h := moves x (by rw [decide_eq_false hg]; exact (hparted hs).2) Iff.rfl
  rwa [State.setPort_port] at h

/-- Settles O24: the transmitter takes the head of the urgent queue, or else of the normal queue. -/
theorem transmitterTakesNext : Obligations.TransmitterTakesNext := by
  intro s p hp x
  rw [exec_lineTxComplete hp]
  refine ⟨fun h => by rw [State.txComplete_idle h], fun hm ht => ?_⟩
  rw [State.txComplete_busy ht]
  refine ⟨fun f q hu => ?_, fun f q hu hn => ?_, fun hu hn => ?_⟩
  · simp [LinePort.takeNext, show (s.port p).pilot = .mated from hm, show (s.port p).urgentQ = f :: q from hu, x]
  · simp [LinePort.takeNext, show (s.port p).pilot = .mated from hm, show (s.port p).urgentQ = [] from hu,
      show (s.port p).normalQ = f :: q from hn, x]
  · simp [LinePort.takeNext, show (s.port p).pilot = .mated from hm, show (s.port p).urgentQ = [] from hu,
      show (s.port p).normalQ = [] from hn, x]

end

section
/-! PROOFS. Every step keeps the heater switch sound (O8): on-slot counts fitting the group states, outputs and levels fitting the on-slot
counts, and R, D, duty, missed count and T as formed. -/

namespace Sys2Proof.Machine

/-! ## The conditions, one by one -/

/-- State and on-slot count of a group fit its rating (R135, R142). -/
structure GroupSlots (t : HeatTable) (k : Nat) (g : Group) : Prop where
  fitted : g.st = .notFitted ↔ t.rating k = 0
  slots : g.n = 0 ∨ g.st = .enabled
  most : g.n ≤ 100

/-- State and on-slot count of every group fit its rating. -/
structure Heater.SlotsFit (h : Heater) (t : HeatTable) : Prop where
  length : h.groups.length = 4
  group : ∀ k, k < 4 → GroupSlots t k (h.group k)

/-- Every output is on exactly in its window, and its level is with the converter (R143, R145). -/
structure OutputsFit (h : Heater) (c : Sense) : Prop where
  length : c.onWins.length = 4
  output : ∀ k, k < 4 → (h.group k).output = inWindow k (h.group k).n h.slot
  level : ∀ k, k < 4 → (c.onWin k).level = (h.group k).output

/-- The groups of a node fit its table, and its outputs their slots. -/
structure State.GroupsFit (s : State) : Prop where
  slots : s.heater.SlotsFit s.mgmt.working.heat
  outputs : OutputsFit s.heater s.sense

/-- The heater switch is sound. -/
structure State.HeaterFits (s : State) : Prop where
  groups : s.GroupsFit
  rating : s.heater.rating = ratingOf s.mgmt.working.heat s.heater.groups
  demand : s.heater.demandD = effectiveDemand s.heater.demandT s.doors.derate s.mgmt.working.heat.derate
  duty : s.heater.duty ≤ 1000
  missed : s.heater.missed ≤ 3
  most : s.heater.demandT ≤ 100

theorem groupSound_iff (t : HeatTable) (slot k : Nat) (g : Group) (w : OnWindow) : groupSound t slot k g w = true ↔
    GroupSlots t k g ∧ g.output = inWindow k g.n slot ∧ w.level = g.output := by
  simp only [groupSound, Bool.and_eq_true, beq_iff_eq, Bool.or_eq_true, decide_eq_true_eq, decide_eq_decide]
  exact ⟨fun ⟨⟨⟨⟨a, b⟩, c⟩, d⟩, e⟩ => ⟨⟨a, b, c⟩, d, e⟩, fun ⟨⟨a, b, c⟩, d, e⟩ => ⟨⟨⟨⟨a, b⟩, c⟩, d⟩, e⟩⟩

theorem all_lt_four (p : Nat → Prop) : (∀ k ∈ [0, 1, 2, 3], p k) ↔ ∀ k, k < 4 → p k :=
  ⟨fun h k hk => h k (by simp; omega), fun h k hk => h k (by simp at hk; omega)⟩

theorem State.heaterSound_iff (s : State) : s.heaterSound = true ↔ s.HeaterFits := by
  simp only [State.heaterSound, Bool.and_eq_true, decide_eq_true_eq, List.all_eq_true, groupSound_iff, all_lt_four]
  constructor
  · rintro ⟨⟨⟨⟨⟨⟨⟨hl, hw⟩, hg⟩, hr⟩, hd⟩, hdu⟩, hm⟩, ht⟩
    exact ⟨⟨⟨hl, fun k hk => (hg k hk).1⟩, ⟨hw, fun k hk => (hg k hk).2.1, fun k hk => (hg k hk).2.2⟩⟩, hr, hd, hdu, hm, ht⟩
  · rintro ⟨⟨⟨hl, hg⟩, ⟨hw, ho, hv⟩⟩, hr, hd, hdu, hm, ht⟩
    exact ⟨⟨⟨⟨⟨⟨⟨hl, hw⟩, fun k hk => ⟨hg k hk, ho k hk, hv k hk⟩⟩, hr⟩, hd⟩, hdu⟩, hm⟩, ht⟩

/-! ## Outputs and groups -/

/-- Setting the outputs makes them fit (R143, R145). -/
theorem State.setOutputs_fits {s : State} (h : s.heater.SlotsFit s.mgmt.working.heat) (hw : s.sense.onWins.length = 4) :
    s.setOutputs.GroupsFit where
  slots := ⟨by simpa using h.length, fun k hk => by rw [State.setOutputs_group]; exact ⟨(h.group k hk).1, (h.group k hk).2, (h.group k hk).3⟩⟩
  outputs := ⟨by simpa using hw, fun k _ => by simp, fun k hk => by
    rw [State.setOutputs_onWin, if_pos ⟨h.length.symm ▸ hk, hw.symm ▸ hk⟩, State.setOutputs_group]⟩

theorem State.readSlot_fits {s : State} (h : s.heater.SlotsFit s.mgmt.working.heat) (hw : s.sense.onWins.length = 4) :
    s.readSlot.GroupsFit := State.setOutputs_fits (s := { s with heater := { s.heater with slot := s.line.slotPosition } }) ⟨h.length, h.group⟩ hw

/-- Whether the groups fit is a matter of groups, slot, table and on-windows. -/
theorem State.GroupsFit.congr {s t : State} (h : s.GroupsFit) (hg : t.heater.groups = s.heater.groups) (hs : t.heater.slot = s.heater.slot)
    (hm : t.mgmt.working.heat = s.mgmt.working.heat) (hl : t.sense.onWins.length = s.sense.onWins.length)
    (hv : ∀ k, (t.sense.onWin k).level = (s.sense.onWin k).level) : t.GroupsFit := by
  have hk : ∀ k, t.heater.group k = s.heater.group k := fun k => by simp only [Heater.group, hg]
  refine ⟨⟨by rw [hg]; exact h.slots.length, fun k h4 => ?_⟩, ⟨hl.trans h.outputs.length, fun k h4 => ?_, fun k h4 => ?_⟩⟩
  · rw [hk, hm]; exact h.slots.group k h4
  · rw [hk, hs]; exact h.outputs.output k h4
  · rw [hk, hv]; exact h.outputs.level k h4

theorem State.GroupsFit.quiet {s t : State} (h : s.GroupsFit) (q : Quiet s t) : t.GroupsFit :=
  h.congr (by rw [q.heater]) (by rw [q.heater]) (by rw [q.mgmt]) (by rw [q.sense]) (fun k => by rw [q.sense])

/-- A change of strikes or flag of a group leaves its state, its slots and its output. -/
theorem State.GroupsFit.changeGroup {s : State} (h : s.GroupsFit) (k : Nat) {f : Group → Group}
    (hf : ∀ g, (f g).st = g.st ∧ (f g).n = g.n ∧ (f g).output = g.output) : (s.changeGroup k f).GroupsFit := by
  have hj : ∀ j, ((s.changeGroup k f).heater.group j).st = (s.heater.group j).st
      ∧ ((s.changeGroup k f).heater.group j).n = (s.heater.group j).n
      ∧ ((s.changeGroup k f).heater.group j).output = (s.heater.group j).output := fun j => by
    rw [State.changeGroup_group]
    split
    · rename_i e; rw [e.1]; exact hf _
    · exact ⟨rfl, rfl, rfl⟩
  refine ⟨⟨by simpa using h.slots.length, fun j h4 => ?_⟩, ⟨h.outputs.length, fun j h4 => ?_, fun j h4 => ?_⟩⟩
  · obtain ⟨a, b, c⟩ := h.slots.group j h4
    exact ⟨by rw [(hj j).1]; exact a, by rw [(hj j).1, (hj j).2.1]; exact b, by rw [(hj j).2.1]; exact c⟩
  · rw [(hj j).2.1, (hj j).2.2]; exact h.outputs.output j h4
  · rw [(hj j).2.2]; exact h.outputs.level j h4

/-- A group that fails keeps to its rating and has no slots (R146). -/
theorem Heater.SlotsFit.fail {s : State} {k : Nat} (h : s.heater.SlotsFit s.mgmt.working.heat) (hk : k < 4)
    (he : (s.heater.group k).st = .enabled) :
    (s.changeGroup k fun g => { g with st := .failed, n := 0, output := false, strikes := 3 }).heater.SlotsFit s.mgmt.working.heat := by
  refine ⟨by simpa using h.length, fun j h4 => ?_⟩
  rw [State.changeGroup_group]
  split
  · rename_i e
    have hr : s.mgmt.working.heat.rating k ≠ 0 := fun c => by simpa [he] using (h.group k hk).fitted.mpr c
    exact ⟨by simp [e.1, hr], .inl rfl, by simp⟩
  · exact h.group j h4

/-! ## The cycle start (R138 to R147) -/

theorem State.strikeTest_fits {s : State} {k : Nat} (h : s.GroupsFit) (hk : k < 4) (he : (s.heater.group k).st = .enabled) (fails : Bool) :
    (s.strikeTest k fails).GroupsFit := by
  unfold State.strikeTest
  split
  · split
    · exact (State.setOutputs_fits (h.slots.fail hk he) h.outputs.length).quiet ((State.count_quiet _ _).trans (State.raise_quiet _ _))
    · exact h.changeGroup k fun _ => ⟨rfl, rfl, rfl⟩
  · exact h.changeGroup k fun _ => ⟨rfl, rfl, rfl⟩

theorem State.openTest_fits {s : State} (h : s.GroupsFit) (k : Nat) (fails : Bool) : (s.openTest k fails).GroupsFit := by
  unfold State.openTest
  split
  · split
    · exact h
    · have hf := h.changeGroup k (f := fun g => { g with openFlag := true }) fun _ => ⟨rfl, rfl, rfl⟩
      exact hf.quiet ((State.count_quiet _ _).trans (State.raise_quiet _ _))
  · exact h.changeGroup k fun _ => ⟨rfl, rfl, rfl⟩

theorem State.testGroup_fits {s : State} {k : Nat} (h : s.GroupsFit) (hk : k < 4) : (s.testGroup k).GroupsFit := by
  unfold State.testGroup
  dsimp only
  split
  · split
    · rename_i e; exact State.openTest_fits (State.strikeTest_fits h hk e.1 _) k _
    · exact h
  · exact h

theorem State.testGroups_fits (ks : List Nat) {s : State} (h : s.GroupsFit) (hk : ∀ k ∈ ks, k < 4) :
    (ks.foldl (fun acc k => State.testGroup k acc) s).GroupsFit := by
  induction ks generalizing s with
  | nil => exact h
  | cons k ks ih => exact ih (State.testGroup_fits h (hk k (by simp))) fun j hj => hk j (by simp [hj])

theorem State.tested_fits {s : State} (h : s.GroupsFit) : s.tested.GroupsFit :=
  (State.testGroups_fits [0, 1, 2, 3] h (by decide)).congr rfl rfl rfl rfl fun _ => rfl

/-- What the choice of a grant changes of the heater switch: the grant, its source and the missed count (R139). -/
theorem State.chooseGrant_heater (c : Nat) (s : State) : ∃ g src m, m ≤ 3 ∧
    Quiet (s.applyGrant g src m) (s.chooseGrant c) := by
  have missed : ∃ g src m, m ≤ 3 ∧ Quiet (s.applyGrant g src m) s.missedGrant := by
    unfold State.missedGrant
    split
    · exact ⟨_, _, _, by omega, State.count_quiet _ _⟩
    · exact ⟨_, _, _, by omega, State.count_quiet _ _⟩
  unfold State.chooseGrant
  split
  · split
    · split
      · exact ⟨_, _, 0, by omega, Quiet.refl _⟩
      · split
        · exact ⟨_, _, 0, by omega, State.count_quiet _ _⟩
        · exact missed
    · exact missed
  · exact ⟨_, _, 3, by omega, Quiet.refl _⟩

theorem dutyOf_le (grant rating : Nat) : dutyOf grant rating ≤ 1000 := by
  unfold dutyOf
  split <;> omega

/-- The group after the on-slot counts are formed (R142). -/
theorem State.formDuty_group (k : Nat) (s : State) : s.formDuty.heater.group k =
    let n := (dutyOf s.heater.applied s.heater.rating + 5) / 10
    let g := s.heater.group k
    { g with n := if g.st = .enabled then (if s.sense.supervised k then n else min n 25) else 0 } := by
  rw [Heater.group_mapIdx (h := s.heater) (h' := s.formDuty.heater) (f := fun i g =>
    { g with n := if g.st = .enabled then (if s.sense.supervised i then (dutyOf s.heater.applied s.heater.rating + 5) / 10
        else min ((dutyOf s.heater.applied s.heater.rating + 5) / 10) 25) else 0 })]
  · simp [State.formDuty, onSlotsFrom_eq]
  · intro k; simp [Group.absent]

theorem State.formDuty_slots {s : State} (h : s.heater.SlotsFit s.mgmt.working.heat) : s.formDuty.heater.SlotsFit s.mgmt.working.heat where
  length := by simpa [State.formDuty, onSlotsFrom_eq] using h.length
  group k hk := by
    have hd := dutyOf_le s.heater.applied s.heater.rating
    rw [State.formDuty_group]
    dsimp only
    by_cases he : (s.heater.group k).st = .enabled
    · refine ⟨(h.group k hk).fitted, .inr he, ?_⟩
      simp only [he, if_true]
      split <;> omega
    · exact ⟨(h.group k hk).fitted, .inl (by simp [he]), by simp [he]⟩

/-- R is a matter of the group states and the table (R118). -/
theorem ratingFrom_congr (t : HeatTable) (k : Nat) {gs gs' : List Group} (h : gs'.map Group.st = gs.map Group.st) :
    ratingFrom t k gs' = ratingFrom t k gs := by
  induction gs generalizing gs' k with
  | nil => simp_all
  | cons g gs ih =>
    cases gs' with
    | nil => simp at h
    | cons g' gs' =>
      simp only [List.map_cons, List.cons.injEq] at h
      simp only [ratingFrom, h.1, ih (k + 1) h.2]

theorem ratingOf_congr (t : HeatTable) {gs gs' : List Group} (h : gs'.map Group.st = gs.map Group.st) : ratingOf t gs' = ratingOf t gs := by
  unfold ratingOf
  rw [ratingFrom_congr t 0 h]

theorem map_st_mapIdx {gs : List Group} {f : Nat → Group → Group} (hf : ∀ k g, (f k g).st = g.st) :
    (gs.mapIdx f).map Group.st = gs.map Group.st := by
  refine List.ext_getElem? fun k => ?_
  rw [List.getElem?_map, List.getElem?_mapIdx, List.getElem?_map, Option.map_map]
  exact congrArg (fun x => Option.map x gs[k]?) (funext (hf k))

@[simp] theorem State.setOutputs_st (s : State) : s.setOutputs.heater.groups.map Group.st = s.heater.groups.map Group.st := by
  simp only [State.setOutputs, setOutputsFrom_eq]
  exact map_st_mapIdx fun _ _ => rfl

@[simp] theorem State.formDuty_st (s : State) : s.formDuty.heater.groups.map Group.st = s.heater.groups.map Group.st := by
  simp only [State.formDuty, onSlotsFrom_eq]
  exact map_st_mapIdx fun _ _ => rfl

theorem State.readSlot_st (s : State) : s.readSlot.heater.groups.map Group.st = s.heater.groups.map Group.st :=
  State.setOutputs_st { s with heater := { s.heater with slot := s.line.slotPosition } }

theorem Sense.onWin_map (k : Nat) (c : Sense) (f : OnWindow → OnWindow) (hf : f OnWindow.absent = OnWindow.absent) :
    ({ c with onWins := c.onWins.map f } : Sense).onWin k = f (c.onWin k) := by
  simp only [Sense.onWin_eq, List.getElem?_map]
  cases c.onWins[k]? with
  | none => exact hf.symm
  | some w => rfl

theorem State.endCycleStart_fits {s : State} (h : s.GroupsFit) : s.endCycleStart.GroupsFit :=
  h.congr rfl rfl rfl (by simp [State.endCycleStart]) fun k => by
    rw [show s.endCycleStart.sense = { s.sense with onWins := s.sense.onWins.map fun w => { w with count := 0 } } from rfl,
      Sense.onWin_map k s.sense _ rfl]

/-- Duty, on-slots and outputs formed after the grant is chosen (R138, steps 3 to 5; R142). -/
theorem State.formDuty_fits {s : State} (h : s.GroupsFit) :
    s.formDuty.readSlot.endCycleStart.GroupsFit ∧ s.formDuty.readSlot.endCycleStart.heater.rating = s.heater.rating
      ∧ s.formDuty.readSlot.endCycleStart.heater.groups.map Group.st = s.heater.groups.map Group.st
      ∧ s.formDuty.readSlot.endCycleStart.heater.duty ≤ 1000 ∧ s.formDuty.readSlot.endCycleStart.heater.missed = s.heater.missed :=
  ⟨State.endCycleStart_fits (State.readSlot_fits (State.formDuty_slots h.slots) h.outputs.length), rfl,
    (State.readSlot_st _).trans (State.formDuty_st s), dutyOf_le _ _, rfl⟩

/-- The choice of a grant leaves the groups, and keeps the missed count within 3 (R139). -/
theorem State.chooseGrant_fits {s : State} (h : s.GroupsFit) (c : Nat) :
    (s.chooseGrant c).GroupsFit ∧ (s.chooseGrant c).heater.rating = s.heater.rating
      ∧ (s.chooseGrant c).heater.groups = s.heater.groups ∧ (s.chooseGrant c).heater.missed ≤ 3 := by
  obtain ⟨g, src, m, hm, q⟩ := s.chooseGrant_heater c
  exact ⟨(h.congr (t := s.applyGrant g src m) rfl rfl rfl rfl fun _ => rfl).quiet q, by rw [q.heater]; rfl, by rw [q.heater]; rfl,
    by rw [q.heater]; exact hm⟩

/-- The heater switch's work at a cycle start keeps it sound (R138). -/
theorem State.heaterCycleStart_fits {s : State} (h : s.HeaterFits) (c : Nat) : (s.heaterCycleStart c).HeaterFits := by
  have hk := State.heaterCycleStart_heated c s
  have hr : s.tested.heater.rating = ratingOf s.mgmt.working.heat s.tested.heater.groups := by rw [← s.tested_heated.mgmt]; rfl
  obtain ⟨hc, hcr, hcg, hcm⟩ := State.chooseGrant_fits (State.tested_fits h.groups) c
  rw [State.heaterCycleStart_eq] at hk ⊢
  generalize s.tested.chooseGrant c = t at hk hc hcr hcg hcm ⊢
  obtain ⟨hd, hdr, hdg, hdd, hdm⟩ := State.formDuty_fits hc
  refine ⟨hd, ?_, ?_, hdd, by rw [hdm]; exact hcm, by rw [hk.demandT]; exact h.most⟩
  · rw [hk.mgmt, ratingOf_congr _ hdg, hdr, hcr, hr, hcg]
  · rw [hk.demandD, hk.demandT, hk.doors, hk.mgmt]; exact h.demand

/-! ## What leaves the heater switch as it was -/

theorem State.HeaterFits.congr {s t : State} (h : s.HeaterFits) (hh : t.heater = { s.heater with staged := t.heater.staged, hold := t.heater.hold })
    (hd : t.doors.derate = s.doors.derate) (hm : t.mgmt.working.heat = s.mgmt.working.heat)
    (hl : t.sense.onWins.length = s.sense.onWins.length) (hv : ∀ k, (t.sense.onWin k).level = (s.sense.onWin k).level) : t.HeaterFits := by
  refine ⟨h.groups.congr (by rw [hh]) (by rw [hh]) hm hl hv, ?_, ?_, by rw [hh]; exact h.duty, by rw [hh]; exact h.missed,
    by rw [hh]; exact h.most⟩
  · rw [hh, hm]; exact h.rating
  · rw [hh, hd, hm]; exact h.demand

theorem State.HeaterFits.eventful {s t : State} (h : s.HeaterFits) (e : Eventful s t) : t.HeaterFits := by
  refine ⟨h.groups.congr (by rw [e.heater]) (by rw [e.heater]) (by rw [e.mgmt]) (by rw [e.sense]) fun k => by rw [e.sense], ?_, ?_,
    by rw [e.heater]; exact h.duty, by rw [e.heater]; exact h.missed, by rw [e.heater]; exact h.most⟩
  · rw [e.heater, e.mgmt]; exact h.rating
  · have ht : t.heater.demandT = s.heater.demandT := by rw [e.heater]
    rcases e.demand with ⟨hd, hD⟩ | hD
    · rw [hD, ht, hd, e.mgmt]; exact h.demand
    · rw [hD, ht, e.mgmt]

theorem State.HeaterFits.quiet {s t : State} (h : s.HeaterFits) (q : Quiet s t) : t.HeaterFits := h.eventful q.eventful

theorem State.readSlot_heaterFits {s : State} (h : s.HeaterFits) : s.readSlot.HeaterFits := by
  refine ⟨State.readSlot_fits h.groups.slots h.groups.outputs.length, ?_, h.demand, h.duty, h.missed, h.most⟩
  rw [ratingOf_congr _ (State.readSlot_st s)]
  exact h.rating

theorem State.indexEntry_heaterFits {s : State} (h : s.HeaterFits) : s.indexEntry.HeaterFits := by
  unfold State.indexEntry
  split
  · rw [State.cycleStart_eq]
    exact (State.heaterCycleStart_fits (h.eventful s.marked_eventful) _).eventful (State.ageSummary_eventful _)
  · exact (State.readSlot_heaterFits h).eventful (State.indexWork_eventful _)

theorem State.HeaterFits.line {s : State} (h : s.HeaterFits) (l : Supervisor) : ({ s with line := l } : State).HeaterFits :=
  h.eventful (Eventful.line l s)

theorem State.realign_heaterFits {s : State} (h : s.HeaterFits) (b : BeaconIn) : (s.realign b).HeaterFits := by
  unfold State.realign
  dsimp only
  split
  · exact State.readSlot_heaterFits (h.line _)
  · exact State.indexEntry_heaterFits (h.line _)

theorem State.takeBeacon_heaterFits {s : State} (h : s.HeaterFits) (f : Frame) : (s.takeBeacon f).HeaterFits := by
  unfold State.takeBeacon
  split
  · rename_i b _
    refine State.HeaterFits.eventful ?_ (State.censusBeacon_eventful _ _)
    rcases s.supervisorBeacon_cases f.epoch b with e | ⟨_, _, e⟩ | ⟨_, _, _, _, e⟩ <;> rw [e]
    · exact h
    · exact State.realign_heaterFits h b
    · exact (State.realign_heaterFits h b).eventful (State.acceptBeacon_eventful _ _)
  · exact h

theorem State.slotBoundary_heaterFits {s : State} (h : s.HeaterFits) : s.slotBoundary.HeaterFits := by
  rcases s.slotBoundary_cases with e | ⟨_, e⟩ <;> rw [e]
  · exact h
  · exact State.readSlot_heaterFits (h.line _)

/-- The demand set or dropped, and D formed (R115, R116, R117). -/
theorem State.formD_heaterFits {s : State} (h : s.HeaterFits) {t : Nat} (ht : t ≤ 100) (hold : Option Nat) :
    ({ s with heater := { s.heater with demandT := t, hold := hold } } : State).formD.HeaterFits :=
  ⟨h.groups.congr rfl rfl rfl rfl fun _ => rfl, h.rating, rfl, h.duty, h.missed, ht⟩

/-! ## The converter -/

theorem Sense.onWin_modify (j k : Nat) (c : Sense) (f : OnWindow → OnWindow) (hf : ∀ w, (f w).level = w.level) :
    (({ c with onWins := c.onWins.modify j f } : Sense).onWin k).level = (c.onWin k).level := by
  simp only [Sense.onWin_eq, List.getElem?_modify]
  cases c.onWins[k]? with
  | none => rfl
  | some w =>
    simp only [Option.map_eq_map, Option.map_some, Option.getD_some]
    split
    · exact hf w
    · rfl

theorem OnWindow.take_level (w : OnWindow) (c : Code) : (w.take c).level = w.level := by
  unfold OnWindow.take
  split <;> rfl

/-- A sample leaves the on-windows but for the one of its channel (R154). -/
theorem Sense.sample_onWins (c : Sense) (e : Captured) : (c.sample e).onWins = c.onWins.modify e.channel fun w => w.take e.code := by
  unfold Sense.sample
  dsimp only
  unfold Sense.endScan Sense.offerCapture
  split <;> split <;> (try split) <;> rfl

theorem Sense.onWin_congr {c c' : Sense} (h : c'.onWins = c.onWins) (k : Nat) : c'.onWin k = c.onWin k := by
  simp only [Sense.onWin, h]

theorem State.HeaterFits.sense {s : State} (h : s.HeaterFits) {c : Sense} (hl : c.onWins.length = s.sense.onWins.length)
    (hv : ∀ k, (c.onWin k).level = (s.sense.onWin k).level) : ({ s with sense := c } : State).HeaterFits := h.congr rfl rfl rfl hl hv

theorem Sense.tick_onWins (c : Sense) : c.tick.onWins = c.onWins := by
  unfold Sense.tick
  split <;> (try split) <;> rfl

theorem State.conversionDone_heaterFits {s : State} (h : s.HeaterFits) (code : Code) : (s.conversionDone code).HeaterFits := by
  have sampled : ∀ e : Captured, ({ s with sense := s.sense.sample e } : State).HeaterFits := fun e =>
    h.sense (by rw [Sense.sample_onWins, List.length_modify]) fun k => by
      rw [Sense.onWin_congr (c := { s.sense with onWins := _ }) (Sense.sample_onWins s.sense e) k]
      exact Sense.onWin_modify e.channel k s.sense _ fun w => w.take_level _
  unfold State.conversionDone
  split
  · dsimp only
    split
    · exact (sampled _).quiet (State.raise_quiet _ _)
    · exact sampled _
  · exact h

/-! ## Requests -/

/-- Coverage handed over after a change of settings: on-slot counts cut, outputs set (R144, R156). -/
theorem State.handCoverage_heaterFits {s : State} (h : s.HeaterFits) {c : Sense} (hl : c.onWins.length = 4) :
    (({ s with sense := c } : State).handCoverage s.sense).HeaterFits := by
  have hcut : ∀ k, ({ s.heater with groups := cutFrom s.sense c 0 s.heater.groups } : Heater).group k =
      { s.heater.group k with n := if s.sense.supervised k && !c.supervised k then min (s.heater.group k).n 25 else (s.heater.group k).n } :=
    fun k => by
      rw [Heater.group_mapIdx (h := s.heater) (f := fun i g =>
        { g with n := if s.sense.supervised i && !c.supervised i then min g.n 25 else g.n })]
      · simp [cutFrom_eq]
      · intro k; simp [Group.absent]
  have hslots : ({ s.heater with groups := cutFrom s.sense c 0 s.heater.groups } : Heater).SlotsFit s.mgmt.working.heat := by
    refine ⟨by simpa [cutFrom_eq] using h.groups.slots.length, fun k hk => ?_⟩
    obtain ⟨a, b, d⟩ := h.groups.slots.group k hk
    rw [hcut]
    refine ⟨a, b.imp_left fun z => by simp [z], ?_⟩
    dsimp only
    split <;> omega
  refine ⟨State.setOutputs_fits (s := { s with sense := c, heater := { s.heater with groups := cutFrom s.sense c 0 s.heater.groups } })
    hslots hl, ?_, h.demand, h.duty, h.missed, h.most⟩
  refine h.rating.trans (Eq.symm (ratingOf_congr _ ?_))
  refine (State.setOutputs_st { s with sense := c, heater := { s.heater with groups := cutFrom s.sense c 0 s.heater.groups } }).trans ?_
  simp only [cutFrom_eq]
  exact map_st_mapIdx fun _ _ => rfl

theorem Sense.change_onWins (c : Sense) (v : SenseSettings) : (c.change v).onWins.length = c.onWins.length := by
  unfold Sense.change
  dsimp only
  split <;> simp

theorem State.changeSense_heaterFits {s : State} (h : s.HeaterFits) (v : SenseSettings) : (s.changeSense v).HeaterFits :=
  (State.handCoverage_heaterFits h ((s.sense.change_onWins v).trans h.groups.outputs.length)).quiet (s.changeSense_quiet v)

theorem clearGroup_slots {t : HeatTable} {k : Nat} {g : Group} (h : GroupSlots t k g) :
    GroupSlots t k (clearGroup g) ∧ (clearGroup g).n = g.n ∧ (clearGroup g).output = g.output := by
  obtain ⟨a, b, c⟩ := h
  unfold clearGroup
  split <;> rename_i e
  · exact ⟨⟨a, b, c⟩, rfl, rfl⟩
  · exact ⟨⟨a, b, c⟩, rfl, rfl⟩
  · exact ⟨⟨⟨nofun, fun z => by simp [e] at a; exact absurd z a⟩, .inr rfl, c⟩, rfl, rfl⟩

theorem State.clearGroupFault_fits {s : State} {k : Nat} (h : s.GroupsFit) (hk : k < 4) : (State.clearGroupFault k s).GroupsFit := by
  unfold State.clearGroupFault
  split
  · exact h
  · have hg : ∀ j, j < 4 → GroupSlots s.mgmt.working.heat j ((s.changeGroup k clearGroup).heater.group j)
        ∧ ((s.changeGroup k clearGroup).heater.group j).n = (s.heater.group j).n
        ∧ ((s.changeGroup k clearGroup).heater.group j).output = (s.heater.group j).output := fun j hj => by
      rw [State.changeGroup_group]
      split
      · rename_i e; rw [e.1]; exact clearGroup_slots (h.slots.group k hk)
      · exact ⟨h.slots.group j hj, rfl, rfl⟩
    have hv : ∀ j, (({ s.sense with onWins := s.sense.onWins.modify k fun w => { w with window := [], count := 0 } } : Sense).onWin j).level
        = (s.sense.onWin j).level := fun j => Sense.onWin_modify k j s.sense _ fun _ => rfl
    refine ⟨⟨by simpa using h.slots.length, fun j hj => (hg j hj).1⟩, ⟨by simpa using h.outputs.length, fun j hj => ?_, fun j hj => ?_⟩⟩
    · exact ((hg j hj).2.2.trans (h.outputs.output j hj)).trans (by rw [← (hg j hj).2.1]; rfl)
    · exact ((hv j).trans (h.outputs.level j hj)).trans (hg j hj).2.2.symm

theorem State.clearGroupFault_heater (k : Nat) (s : State) :
    (State.clearGroupFault k s).heater = { s.heater with groups := (State.clearGroupFault k s).heater.groups } := by
  unfold State.clearGroupFault
  split <;> rfl

/-- Groups cleared: they fit, and nothing else of heater switch, doors and tables has changed (R148). -/
theorem State.clearGroups_fits (ks : List Nat) {s t : State} (h : s.GroupsFit) (hk : ∀ k ∈ ks, k < 4)
    (ht : t = ks.foldl (fun acc k => State.clearGroupFault k acc) s) :
    t.GroupsFit ∧ t.heater = { s.heater with groups := t.heater.groups } ∧ t.doors = s.doors ∧ t.mgmt = s.mgmt := by
  induction ks generalizing s with
  | nil => subst ht; exact ⟨h, rfl, rfl, rfl⟩
  | cons k ks ih =>
    obtain ⟨a, b, c, d⟩ := ih (State.clearGroupFault_fits h (hk k (by simp))) (fun j hj => hk j (by simp [hj])) ht
    exact ⟨a, by rw [b, State.clearGroupFault_heater], by simpa using c, by simpa using d⟩

theorem State.clearGroups_heaterFits (ks : List Nat) {s : State} (h : s.HeaterFits) (hk : ∀ k ∈ ks, k < 4) :
    (ks.foldl (fun acc k => State.clearGroupFault k acc) s).formR.HeaterFits := by
  generalize ht : ks.foldl (fun acc k => State.clearGroupFault k acc) s = t
  obtain ⟨hg, hh, hd, hm⟩ := State.clearGroups_fits ks h.groups hk ht.symm
  refine ⟨hg.congr rfl rfl rfl rfl fun _ => rfl, rfl, ?_, ?_, ?_, ?_⟩
  · have h1 : t.heater.demandD = s.heater.demandD := by rw [hh]
    have h2 : t.heater.demandT = s.heater.demandT := by rw [hh]
    show t.heater.demandD = effectiveDemand t.heater.demandT t.doors.derate t.mgmt.working.heat.derate
    rw [h1, h2, hd, hm]; exact h.demand
  · show t.heater.duty ≤ 1000
    rw [hh]; exact h.duty
  · show t.heater.missed ≤ 3
    rw [hh]; exact h.missed
  · show t.heater.demandT ≤ 100
    rw [hh]; exact h.most

/-- What a change of rating does to a group keeps it fit (R136). -/
theorem moveGroup_slots {old new : HeatTable} {k : Nat} {g : Group} (h : GroupSlots old k g) :
    GroupSlots new k (moveGroup (old.rating k) (new.rating k) g) := by
  obtain ⟨a, b, c⟩ := h
  unfold moveGroup
  split
  · rename_i e; exact ⟨⟨nofun, fun z => absurd z e.2⟩, .inr rfl, c⟩
  · split
    · rename_i e; exact ⟨⟨fun _ => e.2, fun _ => rfl⟩, .inl rfl, by simp⟩
    · rename_i e1 e2
      refine ⟨a.trans ?_, b, c⟩
      omega

/-- After a change of the heat table the heater switch is sound with the new one (R117, R118, R136). -/
theorem State.heatMoved_fits {s : State} {old : HeatTable} (hs : s.heater.SlotsFit old) (hw : s.sense.onWins.length = 4)
    (hd : s.heater.duty ≤ 1000) (hm : s.heater.missed ≤ 3) (ht : s.heater.demandT ≤ 100) : (s.heatMoved old).HeaterFits := by
  have hg : ∀ k, k < 4 → ({ s.heater with groups := moveGroupsFrom old s.mgmt.working.heat 0 s.heater.groups } : Heater).group k
      = moveGroup (old.rating k) (s.mgmt.working.heat.rating k) (s.heater.group k) := fun k hk => by
    have hlt : k < s.heater.groups.length := hs.length.symm ▸ hk
    simp [Heater.group_eq, moveGroupsFrom_eq, hlt]
  have hslots : ({ s.heater with groups := moveGroupsFrom old s.mgmt.working.heat 0 s.heater.groups } : Heater).SlotsFit
      s.mgmt.working.heat :=
    ⟨by simpa [moveGroupsFrom_eq] using hs.length, fun k hk => by rw [hg k hk]; exact moveGroup_slots (hs.group k hk)⟩
  have hf := State.setOutputs_fits
    (s := { s with heater := { s.heater with groups := moveGroupsFrom old s.mgmt.working.heat 0 s.heater.groups } }) hslots hw
  exact ⟨hf.congr rfl rfl rfl rfl fun _ => rfl, rfl, rfl, hd, hm, ht⟩

theorem State.switchTables_heaterFits {s : State} (h : s.HeaterFits) : s.switchTables.HeaterFits := by
  rw [State.switchTables_eq]
  refine State.HeaterFits.eventful (State.HeaterFits.eventful ?_ (State.applyEnds_eventful _ _)) (State.applyRole_eventful _ _)
  rw [State.applyArray_eq]
  generalize ht : State.applyDoors s.mgmt.working.door _ = t
  have e := ht ▸ State.applyDoors_eventful s.mgmt.working.door _
  have hh : ∀ k, t.heater.group k = s.heater.group k := fun k => by simp only [Heater.group]; rw [e.heater]
  rw [State.applyHeat_eq]
  refine State.HeaterFits.congr (State.heatMoved_fits (s := t) (old := s.mgmt.working.heat) ⟨?_, fun k hk => ?_⟩ ?_ ?_ ?_ ?_)
    rfl rfl rfl rfl fun _ => rfl
  · rw [e.heater]; exact h.groups.slots.length
  · rw [hh]; exact h.groups.slots.group k hk
  · rw [e.sense]; exact h.groups.outputs.length
  · rw [e.heater]; exact h.duty
  · rw [e.heater]; exact h.missed
  · rw [e.heater]; exact h.most

theorem Sense.sampleRequest_onWins (c : Sense) : c.sampleRequest.2.onWins = c.onWins := by
  unfold Sense.sampleRequest
  split <;> (try split) <;> rfl

theorem Sense.startCapture_onWins (c : Sense) : c.startCapture.onWins = c.onWins := by
  unfold Sense.startCapture
  split <;> rfl

theorem State.HeaterFits.sameWins {s : State} (h : s.HeaterFits) {c : Sense} (hc : c.onWins = s.sense.onWins) :
    ({ s with sense := c } : State).HeaterFits := h.sense (by rw [hc]) fun k => by rw [Sense.onWin_congr hc]

theorem State.HeaterFits.effect {s t : State} (h : s.HeaterFits) (e : Effect s t) : t.HeaterFits := by
  cases e with
  | routed r => exact h.congr (by rw [r.heater]) (by rw [r.doors]) (by rw [r.mgmt]) (by rw [r.sense]) fun k => by rw [r.sense]
  | loaded name n vs =>
    obtain ⟨g, k, e⟩ := s.loadFields_cases name n vs
    rw [e]; exact h.congr rfl rfl rfl rfl fun _ => rfl
  | switched _ => exact State.switchTables_heaterFits h
  | stored o tag => exact h.congr rfl rfl rfl rfl fun _ => rfl
  | budget b => exact h.congr rfl rfl rfl rfl fun _ => rfl
  | settings args v _ _ => exact State.changeSense_heaterFits h v
  | sampled => exact h.sameWins s.sense.sampleRequest_onWins
  | captureOn => exact h.sameWins s.sense.startCapture_onWins
  | captureOff => exact h.sameWins rfl
  | captureRead => exact h.sameWins rfl
  | groups ks hk => exact State.clearGroups_heaterFits ks h hk
  | recensus _ => exact h.eventful (s.startAttempt_eventful 0)
  | restart => exact h.congr rfl rfl rfl rfl fun _ => rfl

/-! ## Start-up -/

theorem startGroups_length (t : HeatTable) (keep : Bool) (h : Heater) : (startGroups t keep h).length = 4 := rfl

/-- The group at a place below 4 after a start-up (R135). -/
theorem startGroups_group (t : HeatTable) (keep : Bool) (h : Heater) (r : Nat) {k : Nat} (hk : k < 4) :
    (Heater.reset (startGroups t keep h) r).group k = Group.reset (startGroupState (t.rating k) keep (h.group k).st) := by
  obtain rfl | rfl | rfl | rfl : k = 0 ∨ k = 1 ∨ k = 2 ∨ k = 3 := by omega
  all_goals rfl

theorem startGroupState_notFitted (rating : Nat) (keep : Bool) (before : GroupState) :
    startGroupState rating keep before = .notFitted ↔ rating = 0 := by
  unfold startGroupState
  split
  · simp_all
  · split <;> simp_all

theorem State.blank_heaterFits (pins : ResetPins) (keep : Bool) (ev : Events) (s : State) : (s.blank pins keep ev).HeaterFits := by
  have hg := fun {k : Nat} (hk : k < 4) => startGroups_group (startTables s.mgmt.soundImage).heat keep s.heater
    (ratingOf (startTables s.mgmt.soundImage).heat (startGroups (startTables s.mgmt.soundImage).heat keep s.heater)) hk
  have hw : ∀ k, k < 4 → ((Sense.reset (startTables s.mgmt.soundImage).sense).onWin k).level = false := fun k hk => by
    obtain rfl | rfl | rfl | rfl : k = 0 ∨ k = 1 ∨ k = 2 ∨ k = 3 := by omega
    all_goals rfl
  refine ⟨⟨⟨rfl, fun k hk => ?_⟩, ⟨rfl, fun k hk => ?_, fun k hk => ?_⟩⟩, rfl, ?_, Nat.zero_le 1000, Nat.le_refl 3, Nat.zero_le 100⟩
  · exact (hg hk).symm ▸ ⟨startGroupState_notFitted _ _ _, .inl rfl, by simp [Group.reset]⟩
  · exact (hg hk).symm ▸ (inWindow_zero k 0).symm
  · exact (hw k hk).trans ((hg hk).symm ▸ rfl)
  · show 0 = effectiveDemand 0 _ _
    unfold effectiveDemand
    split <;> simp

theorem State.powerLost_heaterFits (s : State) : s.powerLost.HeaterFits := by
  rw [← State.heaterSound_iff]
  rfl

/-- Every command keeps the heater switch sound. -/
theorem heaterFits_kept : Kept State.HeaterFits where
  routed r h := h.effect (.routed r)
  event e s h := h.eventful (e.act_eventful s)
  beacon f _ h := State.takeBeacon_heaterFits h f
  tick s h := (State.indexEntry_heaterFits (h.line _)).quiet (State.sendBeacon_quiet _)
  slot _ h := State.slotBoundary_heaterFits h
  demand b _ h := State.formD_heaterFits h (Nat.min_le_left 100 b.toNat) _
  demandHold s h := by
    rcases s.demandTimeout_cases with e | e <;> rw [e]
    · exact h
    · exact State.formD_heaterFits h (by decide) _
  pacer s h := by
    rw [s.pacerTick_eq]
    split
    · exact h.sameWins s.sense.tick_onWins
    · exact h
  conversion code _ h := State.conversionDone_heaterFits h code
  effect e h := h.effect e
  written _ _ _ _ _ h := h.congr rfl rfl rfl rfl fun _ => rfl
  started pins keep ev s _ := s.blank_heaterFits pins keep ev
  lost s _ := s.powerLost_heaterFits

theorem State.passMs_heaterFits {s : State} (h : s.HeaterFits) : s.passMs.HeaterFits := by
  unfold State.passMs
  split
  · exact h.congr rfl rfl rfl rfl fun _ => rfl
  · exact h

end Sys2Proof.Machine
end

section
open Sys2Proof Sys2Proof.Machine

/-- Settles O8: every command and every millisecond keeps the groups, outputs, R and D as the rules form them. -/
theorem stepKeepsHeaterSound : Obligations.StepKeepsHeaterSound := by
  intro s t hs h
  rw [State.heaterSound_iff] at hs ⊢
  exact heaterFits_kept.step (fun _ _ k => k.congr rfl rfl rfl rfl fun _ => rfl) (fun _ => State.passMs_heaterFits) h hs

end

section
/-! PROOFS. Every step keeps the door sides sound, and with them releases no door without the permit (O5). -/

namespace Sys2Proof.Machine

/-! ## One side -/

/-- What every act on a side but an accepted RELEASE keeps: the side sound, for its new door count, and its release output off. -/
structure SideKept (x y : DoorSide) (count count' : Nat) : Prop where
  sound : y.sound count' = true
  rel : y.rel = true → x.rel = true

theorem SideKept.refl {x : DoorSide} {n : Nat} (h : x.sound n = true) : SideKept x x n n := ⟨h, fun r => r⟩

/-- A withdrawal keeps a side, and one with ZERO_SPEED_LOST ends its release (R92, R93). -/
theorem DoorSide.withdraw_kept {x : DoorSide} {n : Nat} (h : x.sound n = true) (t : DoorTable) (c : Cause) :
    SideKept x (x.withdraw t c) n n := by
  unfold DoorSide.withdraw
  split <;> rename_i hs <;> simp only [DoorSide.sound, hs, Bool.and_eq_true, decide_eq_true_eq] at h
  · dsimp only
    split
    · unfold DoorSide.toClosing
      split <;> constructor <;> simp_all [DoorSide.sound, DoorSide.rest, startTimer]
    · constructor <;> simp_all [DoorSide.sound, DoorSide.toWarning, startTimer]
      split <;> rfl
  · have hx : SideKept x (if c.rank < x.cause.rank then { x with cause := c } else x) n n := by
      split <;> constructor <;> simp_all [DoorSide.sound]
    dsimp only
    split
    · unfold DoorSide.toClosing
      split <;> split <;> constructor <;> simp_all [DoorSide.sound, DoorSide.rest, startTimer]
    · exact hx
  all_goals constructor <;> simp_all [DoorSide.sound]

theorem DoorSide.withdraw_zeroSpeed {x : DoorSide} {n : Nat} (h : x.sound n = true) (t : DoorTable) :
    (x.withdraw t .zeroSpeedLost).rel = false := by
  unfold DoorSide.withdraw
  split <;> rename_i hs <;> simp only [DoorSide.sound, hs, Bool.and_eq_true] at h
  · simp only [if_true, DoorSide.toClosing]
    split <;> rfl
  · simp only [if_true, DoorSide.toClosing]
    split <;> split <;> rfl
  all_goals simp_all

theorem DoorSide.toClosing_kept {x : DoorSide} {n : Nat} (h : x.sound n = true) (hs : x.st = .warning) (t : DoorTable) :
    SideKept x (x.toClosing t) n n := by
  simp only [DoorSide.sound, hs, Bool.and_eq_true, decide_eq_true_eq] at h
  unfold DoorSide.toClosing
  split <;> constructor <;> simp_all [DoorSide.sound, DoorSide.rest, startTimer]

theorem DoorSide.loopTo_kept {x : DoorSide} {n : Nat} (h : x.sound n = true) (made : Bool) : SideKept x (x.loopTo made) n n := by
  unfold DoorSide.loopTo
  cases made <;> dsimp only <;> simp only [Bool.false_eq_true, if_true, if_false] <;> split <;> rename_i hs <;>
    constructor <;> simp_all [DoorSide.sound, DoorSide.rest]

theorem DoorSide.fault_kept {x : DoorSide} {n : Nat} (h : x.sound n = true) (hs : x.st = .closing) : SideKept x (x.rest .fault) n n := by
  constructor <;> simp_all [DoorSide.sound, DoorSide.rest]

theorem DoorSide.phaseChange_kept {x : DoorSide} {n : Nat} (h : x.sound n = true) : SideKept x x.phaseChange n n := by
  unfold DoorSide.phaseChange
  split
  · rename_i hs
    simp only [DoorSide.sound, hs, Bool.and_eq_true] at h
    constructor
    · cases hm : x.mode <;> simp_all [DoorSide.sound]
    · simp
  · exact SideKept.refl h

theorem DoorSide.countChange_kept {x : DoorSide} {n : Nat} (h : x.sound n = true) (m : Nat) : SideKept x (x.countChange n m) n m := by
  unfold DoorSide.countChange
  split
  · constructor <;> simp_all [DoorSide.sound, DoorSide.rest]
  · split
    · rename_i hc
      cases hl : x.loop <;> constructor <;> simp_all [DoorSide.sound, DoorSide.rest]
    · rename_i h1 h2
      refine ⟨?_, fun r => r⟩
      have hz : (n = 0) = (m = 0) := propext (by omega)
      unfold DoorSide.sound at h ⊢
      simpa only [ne_eq, hz] using h

/-- A side changed in what its state does not give: cause aside, counts, refusal and order record. -/
theorem SideKept.notes {x y : DoorSide} {n : Nat} (h : x.sound n = true)
    (hy : y = { x with refusal := y.refusal, order := y.order, openN := y.openN, obstrN := y.obstrN }) : SideKept x y n n := by
  constructor
  · rw [hy]; exact h
  · rw [hy]; exact fun r => r

theorem DoorSide.acceptClose_kept {x : DoorSide} {n : Nat} (h : x.sound n = true) (t : DoorTable) : SideKept x (x.acceptClose t) n n := by
  unfold DoorSide.acceptClose
  split
  · exact DoorSide.withdraw_kept h t _
  · exact SideKept.refl h

theorem DoorSide.acceptRelease_sound {x : DoorSide} {n : Nat} (h : x.sound n = true) (hn : n ≠ 0) (t : DoorTable) :
    (x.acceptRelease t).sound n = true := by
  unfold DoorSide.acceptRelease
  split
  · exact h
  · exact h
  all_goals simp [DoorSide.sound, DoorSide.toReleased, hn]

/-! ## Both sides -/

theorem State.doorsSound_iff (s : State) : s.doorsSound = true ↔
    s.doors.side1.sound s.mgmt.working.door.count1 = true ∧ s.doors.side2.sound s.mgmt.working.door.count2 = true
      ∧ s.doors.derate = !(s.doors.side1.shut && s.doors.side2.shut) := by
  simp only [State.doorsSound, Bool.and_eq_true, beq_iff_eq, and_assoc]

theorem State.releaseSafe_iff (s : State) : s.releaseSafe = true ↔
    (s.line.permit = false → s.doors.side1.rel = false ∧ s.doors.side2.rel = false) := by
  cases h : s.line.permit <;> simp [State.releaseSafe, h]

/-- Door sides sound stay so, and with them no door is released without the permit. -/
def Guarded (s t : State) : Prop := s.doorsSound = true → t.doorsSound = true ∧ (s.releaseSafe = true → t.releaseSafe = true)

theorem Guarded.refl (s : State) : Guarded s s := fun h => ⟨h, fun r => r⟩

theorem Guarded.trans {s t u : State} (h : Guarded s t) (k : Guarded t u) : Guarded s u := fun hs =>
  have ht := h hs
  have hu := k ht.1
  ⟨hu.1, fun r => hu.2 (ht.2 r)⟩

/-- Nothing of the doors, the door table or the permit has changed. -/
theorem Guarded.same {s t : State} (hd : t.doors = s.doors) (hp : t.line.permit = s.line.permit)
    (hm : t.mgmt.working.door = s.mgmt.working.door) : Guarded s t := by
  unfold Guarded State.doorsSound State.releaseSafe
  rw [hd, hp, hm]
  exact fun h => ⟨h, fun r => r⟩

theorem Guarded.quiet {s t : State} (q : Quiet s t) : Guarded s t := .same q.doors (by rw [q.line]) (by rw [q.mgmt])

/-- What an event on the sides leaves, with door-derate as it stood before (R99, R101). -/
theorem State.afterSides_guards {b : Doors} {s : State} (h1 : s.doors.side1.sound s.mgmt.working.door.count1 = true)
    (h2 : s.doors.side2.sound s.mgmt.working.door.count2 = true) (hb : s.doors.derate = !(b.side1.shut && b.side2.shut)) :
    (s.afterSides b).doorsSound = true := by
  rw [State.doorsSound_iff, State.afterSides_mgmt, State.afterSides_doors]
  cases hm : b.moved s.doors
  · simp only [Doors.moved, Bool.not_eq_false', decide_eq_true_eq] at hm
    exact ⟨h1, h2, by simp only [Bool.false_eq_true, if_false, hb, DoorSide.shut, hm.1, hm.2]⟩
  · exact ⟨h1, h2, rfl⟩

theorem State.afterSides_releaseSafe (b : Doors) (s : State) : (s.afterSides b).releaseSafe = s.releaseSafe := by
  unfold State.releaseSafe
  rw [State.afterSides_line, State.afterSides_doors]
  split <;> rfl

/-- An act on both sides that keeps each (R92, R91). -/
theorem State.afterSides_kept {s t : State} (hb : t.doors.derate = s.doors.derate) (hp : t.line.permit = s.line.permit)
    (h : s.doorsSound = true →
      SideKept s.doors.side1 t.doors.side1 s.mgmt.working.door.count1 t.mgmt.working.door.count1
        ∧ SideKept s.doors.side2 t.doors.side2 s.mgmt.working.door.count2 t.mgmt.working.door.count2) :
    Guarded s (t.afterSides s.doors) := by
  intro hs
  obtain ⟨k1, k2⟩ := h hs
  obtain ⟨_, _, hd⟩ := s.doorsSound_iff.mp hs
  refine ⟨State.afterSides_guards k1.sound k2.sound (hb.trans hd), fun r => ?_⟩
  rw [State.afterSides_releaseSafe, State.releaseSafe_iff, hp]
  intro z
  obtain ⟨r1, r2⟩ := s.releaseSafe_iff.mp r z
  exact ⟨Bool.eq_false_iff.mpr fun c => by simp [k1.rel c] at r1, Bool.eq_false_iff.mpr fun c => by simp [k2.rel c] at r2⟩

/-- An act on one side that keeps it, with what is counted and raised before the sides are judged (log 32). -/
theorem State.changeSide_kept_quiet {s u : State} {sd : Side} {f : DoorSide → DoorSide} (q : Quiet (s.changeSide sd f) u)
    (h : (s.doors.side sd).sound (s.mgmt.working.door.count sd) = true →
      SideKept (s.doors.side sd) (f (s.doors.side sd)) (s.mgmt.working.door.count sd) (s.mgmt.working.door.count sd)) :
    Guarded s (u.afterSides s.doors) := by
  refine State.afterSides_kept (by rw [q.doors]; simp) (by rw [q.line]; simp) fun hs => ?_
  obtain ⟨h1, h2, _⟩ := s.doorsSound_iff.mp hs
  rw [q.doors, q.mgmt]
  cases sd
  · exact ⟨h h1, SideKept.refl h2⟩
  · exact ⟨SideKept.refl h1, h h2⟩

/-- An act on one side that keeps it. -/
theorem State.changeSide_kept {s : State} {sd : Side} {f : DoorSide → DoorSide}
    (h : (s.doors.side sd).sound (s.mgmt.working.door.count sd) = true →
      SideKept (s.doors.side sd) (f (s.doors.side sd)) (s.mgmt.working.door.count sd) (s.mgmt.working.door.count sd)) :
    Guarded s ((s.changeSide sd f).afterSides s.doors) := State.changeSide_kept_quiet (Quiet.refl _) h

/-- An act on one side that keeps it and its state. -/
theorem State.changeSide_notes {s : State} {sd : Side} {f : DoorSide → DoorSide} (hst : ∀ x, (f x).st = x.st)
    (h : ∀ x n, x.sound n = true → SideKept x (f x) n n) : Guarded s (s.changeSide sd f) := by
  have hu : s.doors.moved (s.changeSide sd f).doors = false := by
    cases sd <;> simp [Doors.moved, State.changeSide, hst]
  have := State.changeSide_kept (s := s) (sd := sd) (f := f) fun k => h _ _ k
  rwa [State.afterSides_unmoved hu] at this

theorem State.withdrawBoth_guarded (c : Cause) (s : State) : Guarded s (s.withdrawBoth c) := by
  rw [State.withdrawBoth_eq]
  refine State.afterSides_kept rfl rfl fun hs => ?_
  obtain ⟨h1, h2, _⟩ := s.doorsSound_iff.mp hs
  exact ⟨DoorSide.withdraw_kept h1 _ c, DoorSide.withdraw_kept h2 _ c⟩

theorem State.withdrawSide_guarded (sd : Side) (c : Cause) (s : State) : Guarded s (s.withdrawSide sd c) :=
  State.changeSide_kept fun h => DoorSide.withdraw_kept h _ c

/-- A withdrawal with ZERO_SPEED_LOST ends every release (R93). -/
theorem State.withdrawBoth_zeroSpeed {s : State} (h : s.doorsSound = true) : (s.withdrawBoth .zeroSpeedLost).releaseSafe = true := by
  obtain ⟨h1, h2, _⟩ := s.doorsSound_iff.mp h
  rw [State.releaseSafe_iff]
  exact fun _ => ⟨(congrArg DoorSide.rel (State.withdrawBoth_side .zeroSpeedLost s .one)).trans (DoorSide.withdraw_zeroSpeed h1 _),
    (congrArg DoorSide.rel (State.withdrawBoth_side .zeroSpeedLost s .two)).trans (DoorSide.withdraw_zeroSpeed h2 _)⟩

/-- Forming the permit keeps the doors: where it falls, every release ends (R70, R93). -/
theorem State.formPermit_guarded (s : State) : Guarded s s.formPermit := by
  intro hs
  have hl : ({ s with line := s.line.formed } : State).doorsSound = true := hs
  rcases s.formPermit_cases with ⟨_, _, e⟩ | ⟨hp, e⟩ <;> rw [e]
  · exact ⟨(State.withdrawBoth_guarded _ _ hl).1, fun _ => State.withdrawBoth_zeroSpeed hl⟩
  · refine ⟨hl, fun r => (State.releaseSafe_iff _).mpr fun z => ?_⟩
    rcases hp with hp | hp
    · exact s.releaseSafe_iff.mp r hp
    · exact absurd z (by simp [hp])

/-! ## The line and the census -/

theorem Guarded.line {s : State} {l : Supervisor} (h : l.permit = s.line.permit) : Guarded s { s with line := l } := .same rfl h rfl

theorem Guarded.inner (c : Census) (x : Summary) (h : Heater) (a : Allocator) (n : Nat) (s : State) :
    Guarded s { s with census := c, summary := x, heater := h, alloc := a, freeCount := n } := .same rfl rfl rfl

theorem Guarded.census (c : Census) (s : State) : Guarded s { s with census := c } := .same rfl rfl rfl

theorem State.superviseAsMember_guarded (flag : Bool) (s : State) : Guarded s (s.superviseAsMember flag) :=
  Guarded.trans (t := { s with line := { s.line with sup := .none, timer := some Config.supervisionMs, flag := flag } }) (Guarded.line rfl)
    (State.formPermit_guarded _)

theorem State.superviseAsLead_guarded (s : State) : Guarded s s.superviseAsLead :=
  Guarded.trans (t := { s with line := { s.line with sup := .live, timer := none, flag := s.line.zsp, beaconOn := true } }) (Guarded.line rfl)
    (State.formPermit_guarded _)

theorem State.endSupervision_guarded (s : State) : Guarded s s.endSupervision :=
  Guarded.trans (t := { s with line := { s.line with sup := .none, timer := none, flag := false } }) (Guarded.line rfl)
    (State.formPermit_guarded _)

theorem State.acceptBeacon_guarded (flag : Bool) (s : State) : Guarded s (s.acceptBeacon flag) :=
  Guarded.trans (t := { s with line := { s.line with sup := .live, timer := some Config.supervisionMs, flag := flag } }) (Guarded.line rfl)
    (State.formPermit_guarded _)

theorem State.zspChange_guarded (level : Bool) (s : State) : Guarded s (s.zspChange level) := by
  unfold State.zspChange
  split
  · exact Guarded.refl s
  · exact Guarded.trans (t := { s with line := { s.line with zsp := level, flag := if s.holding then level else s.line.flag } })
      (Guarded.line rfl) (State.formPermit_guarded _)

theorem State.supervisionExpiry_guarded (s : State) : Guarded s s.supervisionExpiry := by
  unfold State.supervisionExpiry
  split
  · exact (((Guarded.trans (t := { s with line := { s.line with sup := .lost, timer := none } }) (Guarded.line rfl)
      (Guarded.quiet (State.count_quiet _ _))).trans (Guarded.quiet (State.raise_quiet _ _))).trans
      (State.withdrawBoth_guarded _ _)).trans (State.formPermit_guarded _)
  · exact Guarded.refl s

theorem State.leaveSettled_guarded (s : State) : Guarded s s.leaveSettled :=
  (State.withdrawBoth_guarded _ s).trans (State.endSupervision_guarded _)

theorem State.enterCensus_guarded (cs : CensusState) (s : State) : Guarded s (s.enterCensus cs) := by
  by_cases h : s.census.cs = .settled ∧ cs ≠ .settled
  · rw [State.enterCensus_leaves h]; exact (Guarded.census _ s).trans (State.leaveSettled_guarded _)
  · rw [State.enterCensus_stays h]; exact Guarded.census _ s

theorem State.fallBack_guarded (s : State) : Guarded s s.fallBack := State.enterCensus_guarded _ _

theorem State.enterLead_guarded (lead : LeadState) (s : State) : Guarded s (s.enterLead lead) :=
  .same (State.enterLead_doors lead s) (by rw [State.enterLead_line]; split <;> rfl) (by rw [State.enterLead_mgmt])

theorem State.failCensus_guarded (r : Failure) (s : State) : Guarded s (s.failCensus r) :=
  .same (State.failCensus_doors r s) (by rw [State.failCensus_line]) (by rw [(State.failCensus_eventful r s).mgmt])

/-- Old orders dropped (R56, R81). -/
theorem State.dropOldEpoch_guarded (s : State) : Guarded s s.dropOldEpoch := by
  have hx : ∀ (x : DoorSide) (e : Nat), x.dropOldOrder e = { x with order := (x.dropOldOrder e).order } := fun x e => by
    unfold DoorSide.dropOldOrder
    split
    · split <;> rfl
    · rfl
  have hs : ∀ (x : DoorSide) (e n : Nat), (x.dropOldOrder e).sound n = x.sound n := fun x e n => by rw [hx]; rfl
  have hd : ∀ (x : DoorSide) (e : Nat), (x.dropOldOrder e).shut = x.shut := fun x e => by rw [hx]; rfl
  have hr : ∀ (x : DoorSide) (e : Nat), (x.dropOldOrder e).rel = x.rel := fun x e => by rw [hx]
  unfold Guarded State.doorsSound State.releaseSafe
  simp only [State.dropOldEpoch, hs, hd, hr]
  exact fun h => ⟨h, fun r => r⟩

theorem State.held_guarded (es : List Entry) (s : State) : Guarded s (s.held es) :=
  (((Guarded.census _ s).trans (State.dropOldEpoch_guarded _)).trans (State.superviseAsLead_guarded _)).trans (.same rfl rfl rfl)

theorem State.acceptReturn_guarded (tag : Tag) (es : List Entry) (s : State) : Guarded s (s.acceptReturn tag es) :=
  (State.held_guarded es s).trans (Guarded.quiet (State.originate_quiet _ _ _))

theorem State.calling_guarded (ctr : Nat) (s : State) : Guarded s (s.calling ctr) :=
  ((Guarded.census _ s).trans (State.enterLead_guarded _ _)).trans (State.enterCensus_guarded _ _)

theorem State.startAttempt_guarded (ctr : Nat) (s : State) : Guarded s (s.startAttempt ctr) := by
  cases h : s.mated s.nonCabPort
  · rw [State.startAttempt_alone h]; exact (s.calling_guarded ctr).trans (State.acceptReturn_guarded _ _ _)
  · rw [State.startAttempt_mated h]
    exact ((s.calling_guarded ctr).trans (Guarded.quiet (State.sendCall_quiet _ _ _ _))).trans (Guarded.census _ _)

theorem State.enterBlocked_guarded (r : Failure) (s : State) : Guarded s (s.enterBlocked r) :=
  (((State.enterLead_guarded _ s).trans (Guarded.census _ _)).trans (State.fallBack_guarded _)).trans (State.failCensus_guarded _ _)

theorem State.loseRole_guarded (coupled : Bool) (s : State) : Guarded s (s.loseRole coupled) := by
  have hd : Guarded s s.dismissed := (State.enterLead_guarded _ s).trans (Guarded.census _ _)
  have hs : Guarded s s.stripped := by
    unfold State.stripped
    split
    · exact hd.trans (State.superviseAsMember_guarded _ _)
    · exact hd.trans (State.fallBack_guarded _)
    · exact hd
    · exact hd
  rw [State.loseRole_eq]
  split
  · exact hs.trans (State.failCensus_guarded _ _)
  · exact hs

theorem State.restartCensus_guarded (s : State) : Guarded s s.restartCensus :=
  (Guarded.quiet (State.seeTopology_quiet s)).trans (State.startAttempt_guarded _ _)

theorem State.judgeRole_guarded (s : State) : Guarded s s.judgeRole := by
  unfold State.judgeRole
  split
  · split
    · exact (Guarded.census _ s).trans (State.failCensus_guarded _ _)
    · exact State.startAttempt_guarded _ _
  · exact Guarded.refl s

theorem State.cabAssertion_guarded (s : State) : Guarded s s.cabAssertion := by
  unfold State.cabAssertion
  split
  · exact Guarded.refl s
  · exact (Guarded.census _ s).trans (State.judgeRole_guarded _)

theorem State.cabRelease_guarded (s : State) : Guarded s s.cabRelease := by
  unfold State.cabRelease
  split
  · dsimp only
    split
    · exact (Guarded.census _ s).trans (State.loseRole_guarded _ _)
    · exact Guarded.census _ s
  · exact Guarded.refl s

theorem State.censusTimeout_guarded (s : State) : Guarded s s.censusTimeout := by
  unfold State.censusTimeout
  split
  · split
    · exact State.startAttempt_guarded _ _
    · exact State.enterBlocked_guarded _ _
  · exact Guarded.refl s

theorem State.takeReturn_guarded (r : ReturnIn) (s : State) : Guarded s (s.takeReturn r) := by
  unfold State.takeReturn
  split
  · split
    · split
      · exact State.acceptReturn_guarded _ _ _
      · exact Guarded.refl s
    · exact State.enterBlocked_guarded _ _
    · exact State.enterBlocked_guarded _ _
    · exact State.enterBlocked_guarded _ _
    · exact Guarded.refl s
  · exact Guarded.refl s

theorem State.topologyReport_guarded (k : TopologyKind) (s : State) : Guarded s (s.seeTopology.sendTopologyChange k) :=
  Guarded.quiet ((State.seeTopology_quiet s).trans (State.sendTopologyChange_quiet _ _))

theorem State.memberReport_guarded (k : TopologyKind) (s : State) : Guarded s (s.memberReport k) := by
  rw [State.memberReport_eq]
  split
  · exact (State.enterCensus_guarded _ s).trans (State.topologyReport_guarded k _)
  · exact State.topologyReport_guarded k s

theorem State.matedReport_guarded (on : Bool) (e : EndNo) (s : State) : Guarded s (s.matedReport on e) := by
  unfold State.matedReport
  split
  · split
    · split
      · exact State.loseRole_guarded _ _
      · exact Guarded.refl s
    · exact State.restartCensus_guarded s
  · exact State.memberReport_guarded _ _

theorem State.mappingReport_guarded (k : TopologyKind) (s : State) : Guarded s (s.mappingReport k) := by
  unfold State.mappingReport
  split
  · split
    · exact State.loseRole_guarded _ _
    · exact State.restartCensus_guarded s
  · exact State.memberReport_guarded _ _

theorem State.sendReturn_guarded (tag : Tag) (status : Nat) (es : List Entry) (p : Port) (s : State) :
    Guarded s (s.sendReturn tag status es p) :=
  Guarded.trans (t := { s with freeCount := s.freeCount + 1 }) (.same rfl rfl rfl) (Guarded.quiet (State.sendReturn_quiet _ _ _ _ s))

theorem State.takeCall_guarded (x : EndNo) (c : CallIn) (s : State) : Guarded s (s.takeCall x c) := by
  have hs : ∀ n, Guarded s (s.surveyed x c.tag n) := fun n => (Guarded.census _ s).trans (State.enterCensus_guarded _ _)
  rw [State.takeCall_eq]
  split
  · exact State.sendReturn_guarded _ _ _ _ _
  · split
    · exact State.sendReturn_guarded _ _ _ _ _
    · split
      · exact State.sendReturn_guarded _ _ _ _ _
      · dsimp only
        split
        · exact (hs _).trans (Guarded.quiet (State.sendCall_quiet _ _ _ _))
        · exact (hs _).trans (State.sendReturn_guarded _ _ _ _ _)

theorem State.surveyTimeout_guarded (s : State) : Guarded s s.surveyTimeout := by
  unfold State.surveyTimeout
  split
  · dsimp only
    split
    · exact (Guarded.census _ s).trans (State.fallBack_guarded _)
    · exact ((Guarded.census _ s).trans (State.fallBack_guarded _)).trans (Guarded.census _ _)
  · exact Guarded.refl s

theorem State.takeAnnounce_guarded (a : AnnounceIn) (s : State) : Guarded s (s.takeAnnounce a) := by
  rw [State.takeAnnounce_eq]
  split
  · split
    · exact ((Guarded.census _ s).trans (State.dropOldEpoch_guarded _)).trans (State.superviseAsMember_guarded _ _)
    · exact ((Guarded.census _ s).trans (State.fallBack_guarded _)).trans (State.topologyReport_guarded _ _)
  · exact Guarded.refl s

theorem State.censusBeacon_guarded (epoch : Nat) (s : State) : Guarded s (s.censusBeacon epoch) := by
  unfold State.censusBeacon
  split
  · exact Guarded.refl s
  · split
    · split
      · exact Guarded.refl s
      · exact (State.enterCensus_guarded _ s).trans (State.topologyReport_guarded _ _)
    · split
      · exact (State.topologyReport_guarded _ s).trans (Guarded.census _ _)
      · exact Guarded.refl s
    · split
      · exact (State.topologyReport_guarded _ s).trans (Guarded.census _ _)
      · exact Guarded.refl s
    · exact Guarded.refl s

/-! ## Door events -/

theorem State.refuseOrder_guarded (sd : Side) (r : DoorRefusal) (s : State) : Guarded s (s.refuseOrder sd r) := by
  have hx : Guarded s (s.changeSide sd fun x => { x with refusal := r }) :=
    State.changeSide_notes (fun _ => rfl) fun _ _ h => SideKept.notes h rfl
  exact hx.trans (Guarded.quiet ((State.count_quiet _ _).trans (State.raise_quiet _ _)))

/-- The checks that an accepted order has passed (R79). -/
theorem State.checkOrder_none {sd : Side} {a : DoorAction} {epoch : Nat} {s : State} (h : s.checkOrder sd a epoch = .none) :
    s.settled = true ∧ epoch = s.census.epoch ∧ s.mgmt.working.door.count sd ≠ 0 ∧ (a = .release → s.line.permit = true) := by
  unfold State.checkOrder at h
  split at h
  · cases h
  · split at h
    · cases h
    · split at h
      · cases h
      · split at h
        · cases h
        · simp_all

/-- A RELEASE accepted opens a side with doors while the permit is on (R79, R85). -/
theorem State.acceptRelease_guarded {sd : Side} {epoch : Nat} {s : State} (hn : s.mgmt.working.door.count sd ≠ 0)
    (hp : s.line.permit = true) : Guarded s (s.acceptOrder sd .release epoch) := by
  intro hs
  obtain ⟨h1, h2, hd⟩ := s.doorsSound_iff.mp hs
  have hx : ∀ x : DoorSide, x.sound (s.mgmt.working.door.count sd) = true →
      (({ x with refusal := .none, order := some (.release, epoch) } : DoorSide).acceptRelease s.mgmt.working.door).sound
        (s.mgmt.working.door.count sd) = true := fun x h =>
    DoorSide.acceptRelease_sound (x := { x with refusal := .none, order := some (.release, epoch) }) h hn _
  refine ⟨State.afterSides_guards ?_ ?_ ((State.derate_changeSide _ _ s).trans hd), fun _ => ?_⟩
  · cases sd
    · exact hx _ h1
    · exact h1
  · cases sd
    · exact h2
    · exact hx _ h2
  · rw [State.acceptOrder, State.afterSides_releaseSafe, State.releaseSafe_iff]
    simp [hp]

theorem State.takeOrder_guarded (o : OrderIn) (s : State) : Guarded s (s.takeOrder o).2 := by
  rcases s.takeOrder_cases o with h | ⟨sd, a, _, h⟩ | ⟨sd, a, hc, h⟩ <;> rw [h]
  · exact Guarded.refl s
  · exact State.refuseOrder_guarded _ _ s
  · obtain ⟨_, _, hn, hp⟩ := State.checkOrder_none hc
    cases a with
    | release => exact State.acceptRelease_guarded hn (hp rfl)
    | close =>
      refine State.changeSide_kept fun k => ?_
      have hc := DoorSide.acceptClose_kept (x := { s.doors.side sd with refusal := .none, order := some (.close, o.epoch) }) k
        s.mgmt.working.door
      exact ⟨hc.sound, hc.rel⟩

theorem State.loopChange_guarded (sd : Side) (made : Bool) (s : State) : Guarded s (s.loopChange sd made) := by
  unfold State.loopChange
  dsimp only
  split
  · exact Guarded.refl s
  · refine State.changeSide_kept_quiet (sd := sd) (f := fun y => y.loopTo made) ?_ fun h => DoorSide.loopTo_kept h made
    split
    · exact (State.count_quiet _ _).trans (State.raise_quiet _ _)
    · exact Quiet.refl _

theorem State.releaseTimeout_guarded (sd : Side) (s : State) : Guarded s (s.releaseTimeout sd) := by
  unfold State.releaseTimeout
  dsimp only
  split
  · exact State.withdrawSide_guarded _ _ s
  · exact Guarded.refl s

theorem State.warningTimeout_guarded (sd : Side) (s : State) : Guarded s (s.warningTimeout sd) := by
  unfold State.warningTimeout
  dsimp only
  split
  · rename_i h; exact State.changeSide_kept fun k => DoorSide.toClosing_kept k h.1 _
  · exact Guarded.refl s

theorem State.closeTimeout_guarded (sd : Side) (s : State) : Guarded s (s.closeTimeout sd) := by
  unfold State.closeTimeout
  dsimp only
  split
  · rename_i h
    exact State.changeSide_kept_quiet (sd := sd) (f := fun y => y.rest .fault) ((State.count_quiet _ _).trans (State.raise_quiet _ _))
      fun k => DoorSide.fault_kept k h.1
  · exact Guarded.refl s

theorem State.phaseChange_guarded (sd : Side) (s : State) : Guarded s (s.changeSide sd DoorSide.phaseChange) :=
  State.changeSide_notes (fun x => by unfold DoorSide.phaseChange; split <;> rfl) fun _ _ h => DoorSide.phaseChange_kept h

theorem State.takeDoorReport_guarded (p : List Byte) (s : State) : Guarded s (s.takeDoorReport p) := by
  have hx : ∀ (u : State) (sd : Side) (d : Nat) (l : List Byte), Guarded u (u.changeSide sd fun x => x.takeReport d l) := fun u sd d l =>
    State.changeSide_notes (fun _ => rfl) fun _ _ h => SideKept.notes h rfl
  unfold State.takeDoorReport
  split
  · split
    · exact (hx s .one _ _).trans (hx _ .two _ _)
    · exact Guarded.quiet (State.count_quiet _ _)
  · exact Guarded.quiet (State.count_quiet _ _)

theorem State.takeDoorCommand_guarded (p : List Byte) (s : State) : Guarded s (s.takeDoorCommand p) := by
  rcases s.takeDoorCommand_cases p with ⟨st, why, h⟩ | ⟨side, a, f, l, _, h⟩ <;> rw [h]
  · exact Guarded.quiet (State.pushMessage_quiet _ _)
  · exact ((State.takeOrder_guarded _ s).trans (Guarded.quiet (State.originate_quiet _ _ _))).trans
      (Guarded.quiet (State.pushMessage_quiet _ _))

theorem Event.act_guarded (e : Event) (s : State) : Guarded s (e.act s) := by
  have recorded : ∀ pos a b p, Guarded s (s.recordDoors pos a b p) := fun _ _ _ _ => .same rfl rfl rfl
  cases e with
  | mated on x => exact State.matedReport_guarded on x s
  | call d =>
    rcases d.callAct_cases s with h | ⟨_, h⟩ <;> rw [Event.act, h]
    · exact Guarded.refl s
    · exact State.takeCall_guarded _ _ s
  | censusReturn d =>
    rcases d.returnAct_cases s with h | ⟨_, h⟩ <;> rw [Event.act, h]
    · exact Guarded.refl s
    · exact State.takeReturn_guarded _ s
  | announce d =>
    rcases d.announceAct_cases s with h | ⟨_, h⟩ <;> rw [Event.act, h]
    · exact Guarded.refl s
    · exact State.takeAnnounce_guarded _ s
  | topology p =>
    rcases s.takeTopologyChange_cases p with h | ⟨_, h⟩ <;> rw [Event.act, h]
    · exact Guarded.refl s
    · exact State.restartCensus_guarded s
  | order d =>
    rcases d.orderAct_cases s with h | ⟨_, h⟩ <;> rw [Event.act, h]
    · exact Guarded.refl s
    · exact State.takeOrder_guarded _ s
  | doorState d =>
    rcases d.doorStateAct_cases s with h | ⟨_, _, _, _, _, h⟩ <;> rw [Event.act, h]
    · exact Guarded.refl s
    · exact recorded _ _ _ _
  | heatDemand d =>
    rcases d.demandAct_cases s with h | ⟨_, _, _, _, h⟩ <;> rw [Event.act, h]
    · exact Guarded.refl s
    · exact .same rfl rfl rfl
  | heatGrant d =>
    rcases d.grantAct_cases s with h | ⟨_, h⟩ <;> rw [Event.act, h]
    · exact Guarded.refl s
    · exact .same rfl rfl rfl
  | cabAssertion => exact s.cabAssertion_guarded
  | cabRelease => exact s.cabRelease_guarded
  | censusTimeout => exact s.censusTimeout_guarded
  | surveyTimeout => exact s.surveyTimeout_guarded
  | zsp level => exact s.zspChange_guarded level
  | supervisionExpiry => exact s.supervisionExpiry_guarded
  | doorCommand p => exact s.takeDoorCommand_guarded p
  | doorReport p => exact s.takeDoorReport_guarded p
  | loop sd made => exact s.loopChange_guarded sd made
  | releaseTimeout sd => exact s.releaseTimeout_guarded sd
  | warningTimeout sd => exact s.warningTimeout_guarded sd
  | closeTimeout sd => exact s.closeTimeout_guarded sd
  | phase sd => exact s.phaseChange_guarded sd

/-! ## The clock -/

theorem Guarded.heated {s t : State} (h : Heated s t) : Guarded s t := .same h.doors (by rw [h.line]) (by rw [h.mgmt])

theorem State.indexWork_keeps_doors (s : State) : s.indexWork.doors = s.doors ∧ s.indexWork.line = s.line := by
  unfold State.indexWork
  split
  · exact ⟨by simp, by simp⟩
  · split
    · unfold State.demandWork
      split
      · exact ⟨rfl, rfl⟩
      · split
        · exact ⟨by simp, by simp⟩
        · exact ⟨rfl, rfl⟩
    · split
      · exact ⟨by simp [State.compute], by simp [State.compute]⟩
      · exact ⟨rfl, rfl⟩

theorem State.indexEntry_guarded (s : State) : Guarded s s.indexEntry := by
  unfold State.indexEntry
  split
  · have hm : Guarded s s.marked := .same rfl rfl rfl
    have ha : ∀ u : State, Guarded u u.ageSummary := fun u => .same (by simp) (by simp) (by simp)
    rw [State.cycleStart_eq]
    exact (hm.trans (Guarded.heated (State.heaterCycleStart_heated _ _))).trans (ha _)
  · obtain ⟨hd, hl⟩ := s.readSlot.indexWork_keeps_doors
    exact .same hd (by rw [hl]; rfl) (by rw [(State.indexWork_eventful _).mgmt]; rfl)

theorem State.realign_guarded (b : BeaconIn) (s : State) : Guarded s (s.realign b) := by
  have hl : Guarded s { s with line := { s.line with idx := b.idx, cyc := b.cyc, tick := 0 } } := Guarded.line rfl
  unfold State.realign
  dsimp only
  split
  · exact hl.trans (Guarded.heated (State.readSlot_heated _))
  · exact hl.trans (State.indexEntry_guarded _)

theorem State.takeBeacon_guarded (f : Frame) (s : State) : Guarded s (s.takeBeacon f) := by
  unfold State.takeBeacon
  split
  · rename_i b _
    refine Guarded.trans ?_ (State.censusBeacon_guarded _ _)
    rcases s.supervisorBeacon_cases f.epoch b with e | ⟨_, _, e⟩ | ⟨_, _, _, _, e⟩ <;> rw [e]
    · exact Guarded.refl s
    · exact State.realign_guarded b s
    · exact (State.realign_guarded b s).trans (State.acceptBeacon_guarded _ _)
  · exact Guarded.refl s

theorem State.cycleTick_guarded (s : State) : Guarded s s.cycleTick := by
  have hl : Guarded s { s with line := s.line.advance } := Guarded.line (by unfold Supervisor.advance; split <;> rfl)
  exact (hl.trans (State.indexEntry_guarded _)).trans (Guarded.quiet (State.sendBeacon_quiet _))

theorem State.slotBoundary_guarded (s : State) : Guarded s s.slotBoundary := by
  rcases s.slotBoundary_cases with e | ⟨tick, e⟩ <;> rw [e]
  · exact Guarded.refl s
  · have hl : Guarded s { s with line := { s.line with tick := tick } } := Guarded.line rfl
    exact hl.trans (Guarded.heated (State.readSlot_heated _))

/-! ## Requests and start-up -/

/-- The sides after a change of the door table (R91). -/
theorem State.applyDoors_guarded {s t : State} (hd : t.doors = s.doors) (hp : t.line.permit = s.line.permit) :
    Guarded s (t.applyDoors s.mgmt.working.door) := by
  have h := State.afterSides_kept (s := s) (t := { t with doors := { t.doors with
      side1 := t.doors.side1.countChange s.mgmt.working.door.count1 t.mgmt.working.door.count1
      side2 := t.doors.side2.countChange s.mgmt.working.door.count2 t.mgmt.working.door.count2 } }) (by rw [hd]) hp fun hs => by
    obtain ⟨h1, h2, _⟩ := s.doorsSound_iff.mp hs
    simp only [hd]
    exact ⟨DoorSide.countChange_kept h1 _, DoorSide.countChange_kept h2 _⟩
  rw [← hd] at h
  exact h

theorem State.applyHeat_guarded (old : HeatTable) (s : State) : Guarded s (s.applyHeat old) := by
  rw [State.applyHeat_eq]
  exact .same rfl rfl rfl

theorem State.applyEnds_guarded (old : CoachTable) (s : State) : Guarded s (s.applyEnds old) := by
  have report : ∀ (k : TopologyKind) (c : Prop) [Decidable c] (t : State), Guarded t (if c then t else t.mappingReport k) := by
    intro k c _ t
    split
    · exact Guarded.refl t
    · exact State.mappingReport_guarded k t
  exact (report .numbering _ s).trans (report .cabEnd _ _)

theorem State.applyRole_guarded (old : CoachTable) (s : State) : Guarded s (s.applyRole old) := by
  unfold State.applyRole
  split
  · exact Guarded.refl s
  · split
    · split
      · exact State.judgeRole_guarded s
      · exact Guarded.refl s
    · split
      · exact State.loseRole_guarded _ s
      · exact Guarded.refl s

theorem State.switchTables_guarded (s : State) : Guarded s s.switchTables := by
  rw [State.switchTables_eq, State.applyArray_eq]
  generalize ht : State.mk .. = t
  have hd : Guarded s (t.applyDoors s.mgmt.working.door) := State.applyDoors_guarded (by rw [← ht]) (by rw [← ht])
  exact ((hd.trans (State.applyHeat_guarded _ _)).trans (State.applyEnds_guarded _ _)).trans (State.applyRole_guarded _ _)

theorem State.clearGroups_guarded (ks : List Nat) (s : State) :
    Guarded s (ks.foldl (fun acc k => State.clearGroupFault k acc) s) := by
  induction ks generalizing s with
  | nil => exact Guarded.refl s
  | cons k ks ih => exact Guarded.trans (.same (by simp) (by simp) (by simp)) (ih (State.clearGroupFault k s))

theorem Effect.guarded {s t : State} (e : Effect s t) : Guarded s t := by
  cases e with
  | routed r => exact .same r.doors (by rw [r.line]) (by rw [r.mgmt])
  | loaded name n vs => obtain ⟨g, k, e⟩ := s.loadFields_cases name n vs; rw [e]; exact .same rfl rfl rfl
  | switched _ => exact s.switchTables_guarded
  | settings args v _ _ =>
    have q := s.changeSense_quiet v
    exact .same (by rw [q.doors]; rfl) (by rw [q.line]; rfl) (by rw [q.mgmt]; rfl)
  | groups ks _ => exact (State.clearGroups_guarded ks s).trans (.same rfl rfl rfl)
  | recensus _ => exact s.startAttempt_guarded 0
  | stored | budget | sampled | captureOn | captureOff | captureRead | restart => exact .same rfl rfl rfl

/-- The door sides right after a start-up (R72). -/
theorem startSide_sound (count : Nat) (loop : Bool) :
    (startSide count loop).sound count = true ∧ (startSide count loop).rel = false := by
  unfold startSide
  split
  · simp_all [DoorSide.sound, DoorSide.reset]
  · cases loop <;> simp_all [DoorSide.sound, DoorSide.reset]

theorem State.blank_doorsSound (pins : ResetPins) (keep : Bool) (ev : Events) (s : State) :
    (s.blank pins keep ev).doorsSound = true ∧ (s.blank pins keep ev).releaseSafe = true := by
  have h1 := startSide_sound (startTables s.mgmt.soundImage).door.count1 pins.loop1
  have h2 := startSide_sound (startTables s.mgmt.soundImage).door.count2 pins.loop2
  have hd : ∀ (count : Nat) (loop : Bool), (startSide count loop).shut = !decide ((startSide count loop).st = .fault) := by
    intro count loop
    unfold startSide
    split
    · rfl
    · cases loop <;> rfl
  refine ⟨(State.doorsSound_iff _).mpr ⟨h1.1, h2.1, ?_⟩, (State.releaseSafe_iff _).mpr fun _ => ⟨h1.2, h2.2⟩⟩
  show decide (_ ∨ _) = !(DoorSide.shut (startSide _ _) && DoorSide.shut (startSide _ _))
  rw [hd, hd, Bool.decide_or, Bool.not_and, Bool.not_not, Bool.not_not]

/-- The doors sound, and safe where `b` asks for it. -/
def State.DoorsKept (b : Prop) (s : State) : Prop := s.doorsSound = true ∧ (b → s.releaseSafe = true)

theorem Guarded.kept {b : Prop} {s t : State} (g : Guarded s t) (h : s.DoorsKept b) : t.DoorsKept b :=
  ⟨(g h.1).1, fun x => (g h.1).2 (h.2 x)⟩

/-- Every command keeps the doors sound and safe. -/
theorem doors_kept (b : Prop) : Kept (State.DoorsKept b) where
  routed r := (Guarded.same r.doors (by rw [r.line]) (by rw [r.mgmt])).kept
  event e s := (e.act_guarded s).kept
  beacon f s := (s.takeBeacon_guarded f).kept
  tick s := s.cycleTick_guarded.kept
  slot s := s.slotBoundary_guarded.kept
  demand _ _ := (Guarded.same rfl rfl rfl).kept
  demandHold s := by rcases s.demandTimeout_cases with e | e <;> rw [e] <;> exact (Guarded.same rfl rfl rfl).kept
  pacer s := by rw [s.pacerTick_eq]; exact (Guarded.same rfl rfl rfl).kept
  conversion code s := by
    obtain ⟨c, q⟩ := s.conversionDone_quiet code
    exact (Guarded.same q.doors (by rw [q.line]) (by rw [q.mgmt])).kept
  effect e := e.guarded.kept
  written _ _ _ _ _ := (Guarded.same rfl rfl rfl).kept
  started pins keep ev s _ := ⟨(s.blank_doorsSound pins keep ev).1, fun _ => (s.blank_doorsSound pins keep ev).2⟩
  lost _ _ := ⟨rfl, fun _ => rfl⟩

theorem DoorSide.passMs_sound (x : DoorSide) (n : Nat) : x.passMs.sound n = x.sound n := by
  unfold DoorSide.sound DoorSide.passMs
  cases x.st <;> simp

theorem State.passMs_guarded (s : State) : Guarded s s.passMs := by
  unfold State.passMs
  split
  · unfold Guarded State.doorsSound State.releaseSafe
    simp only [DoorSide.passMs_sound]
    exact fun h => ⟨h, fun r => r⟩
  · exact Guarded.refl s

end Sys2Proof.Machine
end

section
open Sys2Proof Sys2Proof.Machine

/-- Settles O5: every command and every millisecond keeps the sides sound, and with them no door is released without the permit. -/
theorem stepKeepsDoorsSafe : Obligations.StepKeepsDoorsSafe := by
  intro s t hs h
  exact (doors_kept (s.releaseSafe = true)).step (fun _ _ k => k) (fun s => s.passMs_guarded.kept) h ⟨hs, id⟩

end

section
/-! PROOFS. Every step keeps the permit as R70 forms it, PROVEN as R111 judges it, and the door summary and the demand table of the size
that the lead census state gives (O7). -/

namespace Sys2Proof.Machine

/-! ## The conditions -/

theorem State.permitSound_iff (s : State) : s.permitSound = true ↔ s.line.permit = permitOf s.line.sup s.line.zsp s.line.flag := by
  simp [State.permitSound]

theorem State.provenSound_iff (s : State) : s.provenSound = true ↔
    s.summary.proven = (s.holding && s.summary.recs.all SummaryRecord.proves) := by simp [State.provenSound]

theorem State.summarySound_iff (s : State) : s.summarySound = true ↔
    if s.holding then s.summary.recs.length = s.tableSize ∧ s.alloc.recs.length = s.tableSize ∧ 1 ≤ s.tableSize
    else s.summary.recs = [] ∧ s.alloc.recs = [] ∧ s.alloc.last = none := by
  unfold State.summarySound
  split <;> simp [and_assoc]

/-- The permit stays formed, PROVEN judged, and summary and demand table of their size. -/
structure Judged (s t : State) : Prop where
  permit : s.permitSound = true → t.permitSound = true
  proven : s.provenSound = true → t.provenSound = true
  sizes : s.summarySound = true → t.summarySound = true

theorem Judged.refl (s : State) : Judged s s := ⟨id, id, id⟩

theorem Judged.trans {s t u : State} (h : Judged s t) (k : Judged t u) : Judged s u :=
  ⟨fun x => k.permit (h.permit x), fun x => k.proven (h.proven x), fun x => k.sizes (h.sizes x)⟩

/-- A change that leaves what the three conditions speak of. -/
theorem Judged.same {s t : State} (hl : t.line = { t.line with sup := s.line.sup, zsp := s.line.zsp, flag := s.line.flag, permit := s.line.permit })
    (hc : t.census.lead = s.census.lead) (ht : t.census.table = s.census.table ∨ s.census.lead ≠ .holding)
    (hs : t.summary = s.summary) (hr : t.alloc.recs.length = s.alloc.recs.length)
    (ha : t.alloc.last = s.alloc.last ∨ s.census.lead = .holding) : Judged s t := by
  have hh : t.holding = s.holding := by simp only [State.holding, hc]
  refine ⟨fun h => ?_, fun h => ?_, fun h => ?_⟩
  · rw [State.permitSound_iff] at h ⊢
    rw [hl]; exact h
  · rw [State.provenSound_iff] at h ⊢
    rw [hs, hh]; exact h
  · rw [State.summarySound_iff] at h ⊢
    rw [hh, hs, hr]
    cases hhold : s.holding
    · rw [hhold] at h
      obtain ⟨h1, h2, h3⟩ := h
      have hn : s.census.lead ≠ .holding := by simpa [State.holding] using hhold
      exact ⟨h1, List.length_eq_zero_iff.mp (by rw [hr, h2]; rfl), (ha.resolve_right hn).trans h3⟩
    · have hn : s.census.lead = .holding := by simpa [State.holding] using hhold
      have hsize : t.tableSize = s.tableSize := by simp only [State.tableSize, ht.resolve_right (not_not_intro hn)]
      rw [hhold] at h
      rw [hsize]; exact h

/-- A change of doors, heater, converter, ports, counters, flags, tables and coach link. -/
theorem Judged.blocks {s t : State} (hl : t.line = s.line) (hc : t.census = s.census) (hs : t.summary = s.summary) (ha : t.alloc = s.alloc) :
    Judged s t := .same (by rw [hl]) (by rw [hc]) (.inl (by rw [hc])) hs (by rw [ha]) (.inl (by rw [ha]))

theorem Judged.quiet {s t : State} (q : Quiet s t) : Judged s t := .blocks q.line q.census q.summary q.alloc

/-- A change of the census record that leaves the lead census state and the table. -/
theorem Judged.census (c : Census) (s : State) (hc : c.lead = s.census.lead := by rfl) (ht : c.table = s.census.table := by rfl) :
    Judged s { s with census := c } := .same rfl hc (.inl ht) rfl rfl (.inl rfl)

/-! ## The summary -/

/-- A change of the records that keeps their number, with PROVEN judged after it (R108, R110). -/
theorem Judged.records {s t : State} {recs : List SummaryRecord} (hr : recs.length = s.summary.recs.length)
    (ht : t = ({ s with summary := { s.summary with recs := recs } } : State).judgeProven) : Judged s t := by
  subst ht
  refine ⟨id, fun _ => ?_, fun h => ?_⟩
  · rw [State.provenSound_iff]; rfl
  · rw [State.summarySound_iff] at h ⊢
    show if s.holding = true then recs.length = s.tableSize ∧ _ else recs = [] ∧ _
    split <;> rename_i hh
    · rw [if_pos hh] at h
      exact ⟨hr.trans h.1, h.2⟩
    · rw [if_neg hh] at h
      exact ⟨List.length_eq_zero_iff.mp (by rw [hr, h.1]; rfl), h.2⟩

theorem State.recordDoors_judged (pos : Nat) (a b : SideReport) (p : Bool) (s : State) : Judged s (s.recordDoors pos a b p) :=
  .records (List.length_map _) rfl

theorem State.ageSummary_judged (s : State) : Judged s s.ageSummary := by
  unfold State.ageSummary
  split
  · exact Judged.refl s
  · exact .records (List.length_map _) rfl

theorem State.doorStateWork_judged (s : State) : Judged s s.doorStateWork := by
  by_cases h : s.settled = true ∧ s.holding = true
  · rw [State.doorStateWork_lead h]; exact State.recordDoors_judged _ _ _ _ _
  · exact Judged.quiet (State.doorStateWork_quiet h)

theorem State.afterSides_judged (b : Doors) (s : State) : Judged s (s.afterSides b) := by
  cases h : b.moved s.doors
  · rw [State.afterSides_unmoved h]; exact Judged.refl s
  · rw [State.afterSides_moved h]
    exact Judged.trans (t := s.formDerate) (.blocks rfl rfl rfl rfl) (State.doorStateWork_judged _)

theorem State.changeSide_judged (sd : Side) (f : DoorSide → DoorSide) (s : State) : Judged s (s.changeSide sd f) :=
  .blocks (by simp) (by simp) (by simp) (by simp)

theorem State.withdrawBoth_judged (c : Cause) (s : State) : Judged s (s.withdrawBoth c) := by
  rw [State.withdrawBoth_eq]
  exact Judged.trans (t := { s with doors := s.doors.withdrawn s.mgmt.working.door c }) (.blocks rfl rfl rfl rfl)
    (State.afterSides_judged _ _)

theorem State.withdrawSide_judged (sd : Side) (c : Cause) (s : State) : Judged s (s.withdrawSide sd c) :=
  (State.changeSide_judged _ _ s).trans (State.afterSides_judged _ _)

/-! ## The permit -/

/-- The permit formed afresh after any change of the line supervisor (R70). -/
theorem State.formPermit_judged (l : Supervisor) (s : State) : Judged s ({ s with line := l } : State).formPermit := by
  have hl : ∀ m : Supervisor, (s.provenSound = true → ({ s with line := m } : State).provenSound = true)
      ∧ (s.summarySound = true → ({ s with line := m } : State).summarySound = true) := fun m => ⟨id, id⟩
  refine ⟨fun _ => ?_, fun h => ?_, fun h => ?_⟩
  · rw [State.permitSound_iff, State.formPermit_line]; rfl
  · rcases ({ s with line := l } : State).formPermit_cases with ⟨_, _, e⟩ | ⟨_, e⟩ <;> rw [e]
    · exact (State.withdrawBoth_judged _ { s with line := l.formed }).proven ((hl _).1 h)
    · exact (hl _).1 h
  · rcases ({ s with line := l } : State).formPermit_cases with ⟨_, _, e⟩ | ⟨_, e⟩ <;> rw [e]
    · exact (State.withdrawBoth_judged _ { s with line := l.formed }).sizes ((hl _).2 h)
    · exact (hl _).2 h

theorem State.superviseAsMember_judged (flag : Bool) (s : State) : Judged s (s.superviseAsMember flag) := State.formPermit_judged _ s
theorem State.superviseAsLead_judged (s : State) : Judged s s.superviseAsLead := State.formPermit_judged _ s
theorem State.endSupervision_judged (s : State) : Judged s s.endSupervision := State.formPermit_judged _ s
theorem State.acceptBeacon_judged (flag : Bool) (s : State) : Judged s (s.acceptBeacon flag) := State.formPermit_judged _ s

theorem State.zspChange_judged (level : Bool) (s : State) : Judged s (s.zspChange level) := by
  unfold State.zspChange
  split
  · exact Judged.refl s
  · exact State.formPermit_judged _ s

theorem State.supervisionExpiry_judged (s : State) : Judged s s.supervisionExpiry := by
  unfold State.supervisionExpiry
  split
  · generalize hu : ({ s with line := { s.line with sup := .lost, timer := none } } : State) = u
    have q := (State.count_quiet 7 u).trans (State.raise_quiet .lineLost _)
    have hw := (Judged.quiet q).trans (State.withdrawBoth_judged .lineLost _)
    have hj := hw.trans (State.formPermit_judged (((u.count 7).raise .lineLost).withdrawBoth .lineLost).line _)
    exact ⟨fun _ => by rw [State.permitSound_iff, State.formPermit_line]; rfl, fun h => hj.proven (hu ▸ h), fun h => hj.sizes (hu ▸ h)⟩
  · exact Judged.refl s

/-! ## The census -/

theorem State.leaveSettled_judged (s : State) : Judged s s.leaveSettled :=
  (State.withdrawBoth_judged _ s).trans (State.endSupervision_judged _)

theorem State.enterCensus_judged (cs : CensusState) (s : State) : Judged s (s.enterCensus cs) := by
  by_cases h : s.census.cs = .settled ∧ cs ≠ .settled
  · rw [State.enterCensus_leaves h]; exact (Judged.census _ _).trans (State.leaveSettled_judged _)
  · rw [State.enterCensus_stays h]; exact Judged.census _ _

theorem State.fallBack_judged (s : State) : Judged s s.fallBack := State.enterCensus_judged _ _

/-- The lead census state moves to one other than HOLDING (R58, R112, R125). -/
theorem State.enterLead_judged {lead : LeadState} (hn : lead ≠ .holding) (s : State) : Judged s (s.enterLead lead) := by
  by_cases e : s.census.lead = .holding
  · rw [State.enterLead_leaves ⟨e, hn⟩]
    have hh : ∀ u : State, u.census.lead = lead → u.holding = false := fun u x => by simp [State.holding, x, hn]
    exact ⟨id, fun _ => by rw [State.provenSound_iff, hh _ rfl]; rfl, fun _ => by rw [State.summarySound_iff, hh _ rfl]; exact ⟨rfl, rfl, rfl⟩⟩
  · rw [State.enterLead_stays fun x => e x.1]
    have hh : ({ s with census := { s.census with lead := lead } } : State).holding = s.holding := by simp [State.holding, e, hn]
    have hs : s.holding = false := by simp [State.holding, e]
    refine ⟨id, fun h => ?_, fun h => ?_⟩
    · rw [State.provenSound_iff] at h ⊢
      rw [hh]; exact h
    · rw [State.summarySound_iff] at h ⊢
      rw [hs] at h
      rw [hh, hs]; exact h

theorem State.failCensus_judged (r : Failure) (s : State) : Judged s (s.failCensus r) :=
  .same (by rw [State.failCensus_line]) (by simp) (.inl (by simp)) (by simp) (by simp) (.inl (by simp))

/-- An accepted return fills summary and demand table (R105, R123). -/
theorem State.held_judged {es : List Entry} (he : 1 ≤ es.length) (s : State) : Judged s (s.held es) := by
  have hh : (s.held es).holding = true := by simp [State.holding, Census.accepted]
  refine ⟨fun _ => ?_, fun _ => ?_, fun _ => ?_⟩
  · rw [State.permitSound_iff, State.held_line]
    simp [Supervisor.asLead, permitOf]
  · rw [State.provenSound_iff, hh, State.held_summary]; rfl
  · rw [State.summarySound_iff, hh, State.held_summary, State.held_alloc]
    have hs : (s.held es).tableSize = es.length := by simp [State.tableSize, Census.accepted, Census.installed]
    rw [hs]
    simp [demandRecords, he]

theorem State.acceptReturn_judged {es : List Entry} (he : 1 ≤ es.length) (tag : Tag) (s : State) : Judged s (s.acceptReturn tag es) :=
  (State.held_judged he s).trans (Judged.quiet (State.originate_quiet _ _ _))

theorem State.calling_judged (ctr : Nat) (s : State) : Judged s (s.calling ctr) :=
  ((Judged.census _ _).trans (State.enterLead_judged (by decide) _)).trans (State.enterCensus_judged _ _)

theorem State.startAttempt_judged (ctr : Nat) (s : State) : Judged s (s.startAttempt ctr) := by
  cases h : s.mated s.nonCabPort
  · rw [State.startAttempt_alone h]; exact (s.calling_judged ctr).trans (State.acceptReturn_judged (by simp) _ _)
  · rw [State.startAttempt_mated h]
    exact ((s.calling_judged ctr).trans (Judged.quiet (State.sendCall_quiet _ _ _ _))).trans (Judged.census _ _)

theorem State.enterBlocked_judged (r : Failure) (s : State) : Judged s (s.enterBlocked r) :=
  (((State.enterLead_judged (by decide) s).trans (Judged.census _ _)).trans (State.fallBack_judged _)).trans (State.failCensus_judged _ _)

theorem State.loseRole_judged (coupled : Bool) (s : State) : Judged s (s.loseRole coupled) := by
  have hd : Judged s s.dismissed := (State.enterLead_judged (by decide) s).trans (Judged.census _ _)
  have hs : Judged s s.stripped := by
    unfold State.stripped
    split
    · exact hd.trans (State.superviseAsMember_judged _ _)
    · exact hd.trans (State.fallBack_judged _)
    · exact hd
    · exact hd
  rw [State.loseRole_eq]
  split
  · exact hs.trans (State.failCensus_judged _ _)
  · exact hs

theorem State.restartCensus_judged (s : State) : Judged s s.restartCensus :=
  (Judged.quiet (State.seeTopology_quiet s)).trans (State.startAttempt_judged _ _)

theorem State.judgeRole_judged (s : State) : Judged s s.judgeRole := by
  unfold State.judgeRole
  split
  · split
    · exact (Judged.census _ _).trans (State.failCensus_judged _ _)
    · exact State.startAttempt_judged _ _
  · exact Judged.refl s

theorem State.cabAssertion_judged (s : State) : Judged s s.cabAssertion := by
  unfold State.cabAssertion
  split
  · exact Judged.refl s
  · exact (Judged.census _ _).trans (State.judgeRole_judged _)

theorem State.cabRelease_judged (s : State) : Judged s s.cabRelease := by
  unfold State.cabRelease
  split
  · dsimp only
    split
    · exact (Judged.census _ _).trans (State.loseRole_judged _ _)
    · exact Judged.census _ _
  · exact Judged.refl s

theorem State.censusTimeout_judged (s : State) : Judged s s.censusTimeout := by
  unfold State.censusTimeout
  split
  · split
    · exact State.startAttempt_judged _ _
    · exact State.enterBlocked_judged _ _
  · exact Judged.refl s

/-- What the list of a sound OK return holds (R38). -/
theorem State.soundReturn_length {r : ReturnIn} {s : State} (h : s.soundReturn r = true) :
    1 ≤ r.entries.length ∧ r.entries.length ≤ 32 := by
  simp only [State.soundReturn, Bool.and_eq_true, decide_eq_true_eq] at h
  exact ⟨h.1.1.1.2, h.1.1.2⟩

theorem State.takeReturn_judged (r : ReturnIn) (s : State) : Judged s (s.takeReturn r) := by
  unfold State.takeReturn
  split
  · split
    · split
      · rename_i h; exact State.acceptReturn_judged (State.soundReturn_length h).1 _ _
      · exact Judged.refl s
    · exact State.enterBlocked_judged _ _
    · exact State.enterBlocked_judged _ _
    · exact State.enterBlocked_judged _ _
    · exact Judged.refl s
  · exact Judged.refl s

theorem State.topologyReport_judged (k : TopologyKind) (s : State) : Judged s (s.seeTopology.sendTopologyChange k) :=
  Judged.quiet ((State.seeTopology_quiet s).trans (State.sendTopologyChange_quiet _ _))

theorem State.memberReport_judged (k : TopologyKind) (s : State) : Judged s (s.memberReport k) := by
  rw [State.memberReport_eq]
  split
  · exact (State.enterCensus_judged _ s).trans (State.topologyReport_judged k _)
  · exact State.topologyReport_judged k s

theorem State.matedReport_judged (on : Bool) (e : EndNo) (s : State) : Judged s (s.matedReport on e) := by
  unfold State.matedReport
  split
  · split
    · split
      · exact State.loseRole_judged _ _
      · exact Judged.refl s
    · exact State.restartCensus_judged s
  · exact State.memberReport_judged _ _

theorem State.mappingReport_judged (k : TopologyKind) (s : State) : Judged s (s.mappingReport k) := by
  unfold State.mappingReport
  split
  · split
    · exact State.loseRole_judged _ _
    · exact State.restartCensus_judged s
  · exact State.memberReport_judged _ _

theorem State.sendReturn_judged (tag : Tag) (status : Nat) (es : List Entry) (p : Port) (s : State) :
    Judged s (s.sendReturn tag status es p) :=
  Judged.trans (t := { s with freeCount := s.freeCount + 1 }) (.blocks rfl rfl rfl rfl) (Judged.quiet (State.sendReturn_quiet _ _ _ _ s))

theorem State.takeCall_judged (x : EndNo) (c : CallIn) (s : State) : Judged s (s.takeCall x c) := by
  have hs : ∀ n, Judged s (s.surveyed x c.tag n) := fun n => (Judged.census _ _).trans (State.enterCensus_judged _ _)
  rw [State.takeCall_eq]
  split
  · exact State.sendReturn_judged _ _ _ _ _
  · split
    · exact State.sendReturn_judged _ _ _ _ _
    · split
      · exact State.sendReturn_judged _ _ _ _ _
      · dsimp only
        split
        · exact (hs _).trans (Judged.quiet (State.sendCall_quiet _ _ _ _))
        · exact (hs _).trans (State.sendReturn_judged _ _ _ _ _)

theorem State.surveyTimeout_judged (s : State) : Judged s s.surveyTimeout := by
  unfold State.surveyTimeout
  split
  · dsimp only
    split
    · exact (Judged.census _ _).trans (State.fallBack_judged _)
    · exact ((Judged.census _ _).trans (State.fallBack_judged _)).trans (Judged.census _ _)
  · exact Judged.refl s

/-- A member installs an announced table (R48); its summary and demand table stay empty. -/
theorem State.joined_judged {s : State} (h : s.census.lead = .off) (epoch : Nat) (es : List Entry) : Judged s (s.joined epoch es) := by
  have hd : Judged s ({ s with census := s.census.joined epoch es } : State).dropOldEpoch :=
    .same rfl rfl (.inr (by simp [h])) rfl rfl (.inl rfl)
  exact hd.trans (State.superviseAsMember_judged _ _)

theorem State.takeAnnounce_judged (a : AnnounceIn) (s : State) : Judged s (s.takeAnnounce a) := by
  rw [State.takeAnnounce_eq]
  split
  · rename_i h
    split
    · exact State.joined_judged h.2 _ _
    · exact ((Judged.census _ _).trans (State.fallBack_judged _)).trans (State.topologyReport_judged _ _)
  · exact Judged.refl s

theorem State.censusBeacon_judged (epoch : Nat) (s : State) : Judged s (s.censusBeacon epoch) := by
  unfold State.censusBeacon
  split
  · exact Judged.refl s
  · split
    · split
      · exact Judged.refl s
      · exact (State.enterCensus_judged _ s).trans (State.topologyReport_judged _ _)
    · split
      · exact (State.topologyReport_judged _ s).trans (Judged.census _ _)
      · exact Judged.refl s
    · split
      · exact (State.topologyReport_judged _ s).trans (Judged.census _ _)
      · exact Judged.refl s
    · exact Judged.refl s

/-! ## Events -/

theorem State.takeOrder_judged (o : OrderIn) (s : State) : Judged s (s.takeOrder o).2 := by
  rcases s.takeOrder_cases o with h | ⟨sd, a, _, h⟩ | ⟨sd, a, _, h⟩ <;> rw [h]
  · exact Judged.refl s
  · exact (State.changeSide_judged _ _ s).trans (Judged.quiet ((State.count_quiet _ _).trans (State.raise_quiet _ _)))
  · exact (State.changeSide_judged _ _ s).trans (State.afterSides_judged _ _)

theorem State.loopChange_judged (sd : Side) (made : Bool) (s : State) : Judged s (s.loopChange sd made) := by
  have hx := State.changeSide_judged sd (fun y => y.loopTo made) s
  unfold State.loopChange
  dsimp only
  split
  · exact Judged.refl s
  · refine Judged.trans ?_ (State.afterSides_judged _ _)
    split
    · exact hx.trans (Judged.quiet ((State.count_quiet _ _).trans (State.raise_quiet _ _)))
    · exact hx

theorem State.releaseTimeout_judged (sd : Side) (s : State) : Judged s (s.releaseTimeout sd) := by
  unfold State.releaseTimeout
  dsimp only
  split
  · exact State.withdrawSide_judged _ _ s
  · exact Judged.refl s

theorem State.warningTimeout_judged (sd : Side) (s : State) : Judged s (s.warningTimeout sd) := by
  unfold State.warningTimeout
  dsimp only
  split
  · exact (State.changeSide_judged _ _ s).trans (State.afterSides_judged _ _)
  · exact Judged.refl s

theorem State.closeTimeout_judged (sd : Side) (s : State) : Judged s (s.closeTimeout sd) := by
  unfold State.closeTimeout
  dsimp only
  split
  · exact ((State.changeSide_judged sd (fun y => y.rest .fault) s).trans
      (Judged.quiet ((State.count_quiet _ _).trans (State.raise_quiet _ _)))).trans (State.afterSides_judged _ _)
  · exact Judged.refl s

theorem State.takeDoorReport_judged (p : List Byte) (s : State) : Judged s (s.takeDoorReport p) := by
  unfold State.takeDoorReport
  split
  · split
    · exact (State.changeSide_judged _ _ s).trans (State.changeSide_judged _ _ _)
    · exact Judged.quiet (State.count_quiet _ _)
  · exact Judged.quiet (State.count_quiet _ _)

theorem State.takeDoorCommand_judged (p : List Byte) (s : State) : Judged s (s.takeDoorCommand p) := by
  rcases s.takeDoorCommand_cases p with ⟨st, why, h⟩ | ⟨side, a, f, l, _, h⟩ <;> rw [h]
  · exact Judged.quiet (State.pushMessage_quiet _ _)
  · exact ((State.takeOrder_judged _ s).trans (Judged.quiet (State.originate_quiet _ _ _))).trans
      (Judged.quiet (State.pushMessage_quiet _ _))

theorem State.recordDemand_judged (pos r d : Nat) (p : Bool) (s : State) : Judged s (s.recordDemand pos r d p) :=
  .same rfl rfl (.inl rfl) rfl (List.length_map _) (.inl rfl)

theorem Event.act_judged (e : Event) (s : State) : Judged s (e.act s) := by
  cases e with
  | mated on x => exact State.matedReport_judged on x s
  | call d =>
    rcases d.callAct_cases s with h | ⟨_, h⟩ <;> rw [Event.act, h]
    · exact Judged.refl s
    · exact State.takeCall_judged _ _ s
  | censusReturn d =>
    rcases d.returnAct_cases s with h | ⟨_, h⟩ <;> rw [Event.act, h]
    · exact Judged.refl s
    · exact State.takeReturn_judged _ s
  | announce d =>
    rcases d.announceAct_cases s with h | ⟨_, h⟩ <;> rw [Event.act, h]
    · exact Judged.refl s
    · exact State.takeAnnounce_judged _ s
  | topology p =>
    rcases s.takeTopologyChange_cases p with h | ⟨_, h⟩ <;> rw [Event.act, h]
    · exact Judged.refl s
    · exact State.restartCensus_judged s
  | order d =>
    rcases d.orderAct_cases s with h | ⟨_, h⟩ <;> rw [Event.act, h]
    · exact Judged.refl s
    · exact State.takeOrder_judged _ s
  | doorState d =>
    rcases d.doorStateAct_cases s with h | ⟨_, _, _, _, _, h⟩ <;> rw [Event.act, h]
    · exact Judged.refl s
    · exact State.recordDoors_judged _ _ _ _ s
  | heatDemand d =>
    rcases d.demandAct_cases s with h | ⟨_, _, _, _, h⟩ <;> rw [Event.act, h]
    · exact Judged.refl s
    · exact State.recordDemand_judged _ _ _ _ s
  | heatGrant d =>
    rcases d.grantAct_cases s with h | ⟨_, h⟩ <;> rw [Event.act, h]
    · exact Judged.refl s
    · exact .blocks rfl rfl rfl rfl
  | cabAssertion => exact s.cabAssertion_judged
  | cabRelease => exact s.cabRelease_judged
  | censusTimeout => exact s.censusTimeout_judged
  | surveyTimeout => exact s.surveyTimeout_judged
  | zsp level => exact s.zspChange_judged level
  | supervisionExpiry => exact s.supervisionExpiry_judged
  | doorCommand p => exact s.takeDoorCommand_judged p
  | doorReport p => exact s.takeDoorReport_judged p
  | loop sd made => exact s.loopChange_judged sd made
  | releaseTimeout sd => exact s.releaseTimeout_judged sd
  | warningTimeout sd => exact s.warningTimeout_judged sd
  | closeTimeout sd => exact s.closeTimeout_judged sd
  | phase sd => exact s.changeSide_judged sd _

/-! ## The clock -/

theorem Judged.heated {s t : State} (h : Heated s t) : Judged s t := .blocks h.line h.census h.summary h.alloc

/-- A change of the clock alone. -/
theorem Judged.clock (i c k : Nat) (m : Option Nat) (s : State) :
    Judged s { s with line := { s.line with idx := i, cyc := c, tick := k, lastStart := m } } :=
  .same rfl rfl (.inl rfl) rfl rfl (.inl rfl)

theorem State.allocation_length (c : Nat) (s : State) : (s.allocation c).recs.length = s.alloc.recs.length := List.length_map _

theorem State.compute_judged {s : State} (h : s.holding = true) : Judged s s.compute := by
  have ha : Judged s { s with alloc := s.allocation (nextCycle s.line.cyc) } :=
    .same rfl rfl (.inl rfl) rfl (s.allocation_length _) (.inr (by simpa [State.holding] using h))
  exact (ha.trans (Judged.quiet (State.originate_quiet _ _ _))).trans (.blocks rfl rfl rfl rfl)

theorem State.indexWork_judged (s : State) : Judged s s.indexWork := by
  unfold State.indexWork
  split
  · exact s.doorStateWork_judged
  · split
    · unfold State.demandWork
      split
      · exact State.recordDemand_judged _ _ _ _ s
      · split
        · exact Judged.quiet (State.toLead_quiet _ s)
        · exact Judged.refl s
    · split
      · rename_i h; exact State.compute_judged h.2
      · exact Judged.refl s

theorem State.indexEntry_judged (s : State) : Judged s s.indexEntry := by
  unfold State.indexEntry
  split
  · rw [State.cycleStart_eq]
    exact ((Judged.clock _ _ _ _ s).trans (Judged.heated (State.heaterCycleStart_heated _ s.marked))).trans (State.ageSummary_judged _)
  · exact (Judged.heated (State.readSlot_heated s)).trans (State.indexWork_judged _)

theorem State.realign_judged (b : BeaconIn) (s : State) : Judged s (s.realign b) := by
  unfold State.realign
  dsimp only
  split
  · exact (Judged.clock _ _ _ _ s).trans (Judged.heated (State.readSlot_heated _))
  · exact (Judged.clock _ _ _ _ s).trans (State.indexEntry_judged _)

theorem State.takeBeacon_judged (f : Frame) (s : State) : Judged s (s.takeBeacon f) := by
  unfold State.takeBeacon
  split
  · rename_i b _
    refine Judged.trans ?_ (State.censusBeacon_judged _ _)
    rcases s.supervisorBeacon_cases f.epoch b with e | ⟨_, _, e⟩ | ⟨_, _, _, _, e⟩ <;> rw [e]
    · exact Judged.refl s
    · exact State.realign_judged b s
    · exact (State.realign_judged b s).trans (State.acceptBeacon_judged _ _)
  · exact Judged.refl s

theorem State.cycleTick_judged (s : State) : Judged s s.cycleTick := by
  have hl : Judged s { s with line := s.line.advance } := by
    unfold Supervisor.advance
    split <;> exact Judged.clock _ _ _ _ s
  exact (hl.trans (State.indexEntry_judged _)).trans (Judged.quiet (State.sendBeacon_quiet _))

theorem State.slotBoundary_judged (s : State) : Judged s s.slotBoundary := by
  rcases s.slotBoundary_cases with e | ⟨tick, e⟩ <;> rw [e]
  · exact Judged.refl s
  · exact (Judged.clock _ _ tick _ s).trans (Judged.heated (State.readSlot_heated _))

/-! ## Requests -/

theorem State.applyDoors_judged (old : DoorTable) (s : State) : Judged s (s.applyDoors old) := by
  unfold State.applyDoors
  exact Judged.trans (t := { s with doors := { s.doors with
      side1 := s.doors.side1.countChange old.count1 s.mgmt.working.door.count1
      side2 := s.doors.side2.countChange old.count2 s.mgmt.working.door.count2 } }) (.blocks rfl rfl rfl rfl) (State.afterSides_judged _ _)

theorem State.applyEnds_judged (old : CoachTable) (s : State) : Judged s (s.applyEnds old) := by
  have report : ∀ (k : TopologyKind) (c : Prop) [Decidable c] (t : State), Judged t (if c then t else t.mappingReport k) := by
    intro k c _ t
    split
    · exact Judged.refl t
    · exact State.mappingReport_judged k t
  exact (report .numbering _ s).trans (report .cabEnd _ _)

theorem State.applyRole_judged (old : CoachTable) (s : State) : Judged s (s.applyRole old) := by
  unfold State.applyRole
  split
  · exact Judged.refl s
  · split
    · split
      · exact State.judgeRole_judged s
      · exact Judged.refl s
    · split
      · exact State.loseRole_judged _ s
      · exact Judged.refl s

theorem State.applyHeat_judged (old : HeatTable) (s : State) : Judged s (s.applyHeat old) := by
  rw [State.applyHeat_eq]
  exact .same rfl rfl (.inl rfl) rfl rfl (.inl rfl)

theorem State.switchTables_judged (s : State) : Judged s s.switchTables := by
  rw [State.switchTables_eq, State.applyArray_eq]
  generalize ht : State.mk .. = t
  have h : Judged s t := .blocks (by rw [← ht]) (by rw [← ht]) (by rw [← ht]) (by rw [← ht])
  exact (((h.trans (State.applyDoors_judged _ _)).trans (State.applyHeat_judged _ _)).trans (State.applyEnds_judged _ _)).trans
    (State.applyRole_judged _ _)

theorem State.clearGroups_judged (ks : List Nat) (s : State) :
    Judged s (ks.foldl (fun acc k => State.clearGroupFault k acc) s) := by
  induction ks generalizing s with
  | nil => exact Judged.refl s
  | cons k ks ih => exact Judged.trans (.blocks (by simp) (by simp) (by simp) (by simp)) (ih (State.clearGroupFault k s))

theorem Effect.judged {s t : State} (e : Effect s t) : Judged s t := by
  cases e with
  | routed r => exact .blocks r.line r.census r.summary r.alloc
  | loaded name n vs => obtain ⟨g, k, e⟩ := s.loadFields_cases name n vs; rw [e]; exact .blocks rfl rfl rfl rfl
  | switched _ => exact s.switchTables_judged
  | budget b => exact .same rfl rfl (.inl rfl) rfl rfl (.inl rfl)
  | settings args v _ _ =>
    have q := s.changeSense_quiet v
    exact .blocks q.line q.census q.summary q.alloc
  | groups ks _ => exact (State.clearGroups_judged ks s).trans (.blocks rfl rfl rfl rfl)
  | recensus _ => exact s.startAttempt_judged 0
  | stored | sampled | captureOn | captureOff | captureRead | restart => exact .blocks rfl rfl rfl rfl

/-- Permit, PROVEN and sizes, each where its premise asks for it. -/
def State.JudgedKept (a b c : Prop) (s : State) : Prop :=
  (a → s.permitSound = true) ∧ (b → s.provenSound = true) ∧ (c → s.summarySound = true)

theorem Judged.kept {a b c : Prop} {s t : State} (j : Judged s t) (h : s.JudgedKept a b c) : t.JudgedKept a b c :=
  ⟨fun x => j.permit (h.1 x), fun x => j.proven (h.2.1 x), fun x => j.sizes (h.2.2 x)⟩

/-- Every command keeps permit, PROVEN and sizes. -/
theorem judged_kept (a b c : Prop) : Kept (State.JudgedKept a b c) where
  routed r := (Judged.blocks r.line r.census r.summary r.alloc).kept
  event e s := (e.act_judged s).kept
  beacon f s := (s.takeBeacon_judged f).kept
  tick s := s.cycleTick_judged.kept
  slot s := s.slotBoundary_judged.kept
  demand _ _ := (Judged.blocks rfl rfl rfl rfl).kept
  demandHold s := by rcases s.demandTimeout_cases with e | e <;> rw [e] <;> exact (Judged.blocks rfl rfl rfl rfl).kept
  pacer s := by rw [s.pacerTick_eq]; exact (Judged.blocks rfl rfl rfl rfl).kept
  conversion code s := by
    obtain ⟨c, q⟩ := s.conversionDone_quiet code
    exact (Judged.blocks q.line q.census q.summary q.alloc).kept
  effect e := e.judged.kept
  written _ _ _ _ _ := (Judged.blocks rfl rfl rfl rfl).kept
  started _ _ _ _ _ := ⟨fun _ => rfl, fun _ => rfl, fun _ => rfl⟩
  lost _ _ := ⟨fun _ => rfl, fun _ => rfl, fun _ => rfl⟩

theorem State.passMs_judged (s : State) : Judged s s.passMs := by
  unfold State.passMs
  split
  · exact .same rfl rfl (.inl rfl) rfl rfl (.inl rfl)
  · exact Judged.refl s

end Sys2Proof.Machine
end

section
open Sys2Proof Sys2Proof.Machine

/-- Settles O7: every command and every millisecond keeps the permit formed, PROVEN judged, and summary and demand table of their size. -/
theorem stepKeepsPermitAndProven : Obligations.StepKeepsPermitAndProven := by
  intro s t h
  have hk := (judged_kept (s.permitSound = true) (s.provenSound = true) (s.summarySound = true)).step (fun _ _ k => k)
    (fun s => s.passMs_judged.kept) h ⟨id, id, id⟩
  exact ⟨fun hp => t.permitSound_iff.mp (hk.1 (s.permitSound_iff.mpr hp)), hk.2.1, hk.2.2⟩

end

section
/-! PROOFS. Every step keeps lead census state, census state, their timers and the table in the combinations of 3.3 and 3.1, and the
supervision with them (O6). -/

namespace Sys2Proof.Machine

/-! ## The conditions -/

/-- The census record holds one of the combinations of 3.3 and 3.1. -/
structure Census.Sound (c : Census) : Prop where
  calling : c.lead = .calling → c.cs = .survey
  holding : c.lead = .holding → c.cs = .settled
  blocked : c.lead = .blocked → c.cs = .stale ∨ c.cs = .detached
  timer : c.timer.isSome = decide (c.lead = .calling)
  hold : c.hold.isSome = (decide (c.cs = .survey) && decide (c.lead = .off))
  table : c.cs = .settled ∨ c.cs = .stale → c.table.isSome = true
  bare : c.cs = .detached → c.table = none

/-- The line supervisor fits the census record (R61, R64, R66 to R69). -/
structure Supervisor.Fits (l : Supervisor) (c : Census) : Prop where
  beacon : l.beaconOn = decide (c.lead = .holding)
  lead : c.lead = .holding → l.sup = .live ∧ l.timer = none ∧ l.flag = l.zsp
  member : c.lead ≠ .holding → c.cs = .settled → l.timer.isNone = decide (l.sup = .lost)
  free : c.lead ≠ .holding → c.cs ≠ .settled → l.sup = .none ∧ l.timer = none ∧ l.flag = false

theorem State.censusSound_iff (s : State) : s.censusSound = true ↔ s.census.Sound := by
  simp only [State.censusSound, Bool.and_eq_true, beq_iff_eq, Bool.or_eq_true, Bool.not_eq_true', decide_eq_false_iff_not,
    Option.isNone_iff_eq_none]
  constructor
  · rintro ⟨⟨⟨⟨h1, h2⟩, h3⟩, h4⟩, h5⟩
    refine ⟨fun e => ?_, fun e => ?_, fun e => ?_, h2, h3, fun e => h4.resolve_left (not_not_intro e), fun e => h5.resolve_left (not_not_intro e)⟩
    all_goals simpa [e] using h1
  · intro h
    refine ⟨⟨⟨⟨?_, h.timer⟩, h.hold⟩, ?_⟩, ?_⟩
    · split <;> rename_i e
      · rfl
      · exact decide_eq_true (h.calling e)
      · exact decide_eq_true (h.holding e)
      · exact decide_eq_true (h.blocked e)
    · by_cases e : s.census.cs = .settled ∨ s.census.cs = .stale
      · exact .inr (h.table e)
      · exact .inl e
    · by_cases e : s.census.cs = .detached
      · exact .inr (h.bare e)
      · exact .inl e

theorem State.supervisionSound_iff (s : State) : s.supervisionSound = true ↔ s.line.Fits s.census := by
  simp only [State.supervisionSound, State.holding, State.settled, Bool.and_eq_true, beq_iff_eq, decide_eq_true_eq]
  constructor
  · rintro ⟨h1, h2⟩
    refine ⟨h1, fun e => ?_, fun e k => ?_, fun e k => ?_⟩
    · simpa [e, and_assoc] using h2
    · simpa [e, k] using h2
    · simpa [e, k, and_assoc] using h2
  · intro h
    refine ⟨h.beacon, ?_⟩
    split <;> rename_i e
    · simpa [and_assoc] using h.lead e
    · split <;> rename_i k
      · simpa using h.member e k
      · simpa [and_assoc] using h.free e k

/-- The census stays sound, and the supervision with it. -/
def Stands (s t : State) : Prop := s.census.Sound → t.census.Sound ∧ (s.line.Fits s.census → t.line.Fits t.census)

theorem Stands.refl (s : State) : Stands s s := fun h => ⟨h, id⟩

theorem Stands.trans {s t u : State} (h : Stands s t) (k : Stands t u) : Stands s u := fun hs =>
  ⟨(k (h hs).1).1, fun x => (k (h hs).1).2 ((h hs).2 x)⟩

/-- Neither the census record nor the supervision has changed. -/
theorem Stands.same {s t : State} (hc : t.census = s.census)
    (hl : t.line = { t.line with sup := s.line.sup, timer := s.line.timer, flag := s.line.flag, zsp := s.line.zsp, beaconOn := s.line.beaconOn }) :
    Stands s t := by
  intro h
  rw [hc]
  refine ⟨h, fun k => ?_⟩
  rw [hl]
  exact ⟨k.beacon, k.lead, k.member, k.free⟩

theorem Stands.blocks {s t : State} (hc : t.census = s.census) (hl : t.line = s.line) : Stands s t := .same hc (by rw [hl])

theorem Stands.quiet {s t : State} (q : Quiet s t) : Stands s t := .blocks q.census q.line

/-- What the conditions do not speak of has changed in the census record. -/
theorem Stands.record {s t : State} (hc : t.census = { t.census with
      cs := s.census.cs, lead := s.census.lead, table := s.census.table, timer := s.census.timer, hold := s.census.hold })
    (hl : t.line = s.line) : Stands s t := by
  intro h
  rw [hc, hl]
  exact ⟨⟨h.calling, h.holding, h.blocked, h.timer, h.hold, h.table, h.bare⟩, fun k => ⟨k.beacon, k.lead, k.member, k.free⟩⟩

/-! ## The census at the lead -/

/-- A line supervisor outside SETTLED and HOLDING. -/
theorem Supervisor.fits_free {l : Supervisor} {c : Census} (h1 : c.lead ≠ .holding) (h2 : c.cs ≠ .settled) (hb : l.beaconOn = false)
    (hs : l.sup = .none) (ht : l.timer = none) (hf : l.flag = false) : l.Fits c :=
  ⟨by simp [hb, h1], fun e => absurd e h1, fun _ e => absurd e h2, fun _ _ => ⟨hs, ht, hf⟩⟩

/-- The line supervisor of a lead in HOLDING. -/
theorem Supervisor.asLead_fits {l : Supervisor} {c : Census} (h : c.lead = .holding) : l.asLead.Fits c :=
  ⟨by simp [Supervisor.asLead, h], fun _ => ⟨rfl, rfl, rfl⟩, fun e => absurd h e, fun e => absurd h e⟩

/-- The line supervisor of a SETTLED member that begins its supervision. -/
theorem Supervisor.asMember_fits {l : Supervisor} {c : Census} (h1 : c.lead ≠ .holding) (h2 : c.cs = .settled) (hb : l.beaconOn = false)
    (flag : Bool) : (l.asMember flag).Fits c :=
  ⟨by simp [Supervisor.asMember, hb, h1], fun e => absurd e h1, fun _ _ => rfl, fun _ e => absurd h2 e⟩

/-- The line supervisor after supervision and beacon sending have ended where they ran (R58, R69). -/
theorem Supervisor.left_fits {l : Supervisor} {c c' : Census} (hc : c.Sound) (h1 : c'.lead ≠ .holding) (h2 : c'.cs ≠ .settled)
    (k : l.Fits c) :
    Supervisor.Fits (if c.cs = .settled then (if c.lead = .holding then { l with beaconOn := false } else l).ended
      else if c.lead = .holding then { l with beaconOn := false } else l) c' := by
  by_cases hs : c.cs = .settled
  · rw [if_pos hs]
    refine Supervisor.fits_free h1 h2 ?_ rfl rfl rfl
    by_cases hl : c.lead = .holding
    · rw [if_pos hl]; rfl
    · rw [if_neg hl]; simpa [hl, Supervisor.ended] using k.beacon
  · have hl : c.lead ≠ .holding := fun e => hs (hc.holding e)
    rw [if_neg hs, if_neg hl]
    obtain ⟨a, b, d⟩ := k.free hl hs
    exact Supervisor.fits_free h1 h2 (by simpa [hl] using k.beacon) a b d

theorem Census.accepted_sound {c : Census} (h : c.hold = none) (es : List Entry) (e : EndNo) : (c.accepted es e).Sound := by
  constructor <;> simp [Census.accepted, Census.installed, h]

theorem Census.Sound.hold_lead {c : Census} (h : c.Sound) (hl : c.lead ≠ .off) : c.hold = none := by
  simpa [hl] using h.hold

theorem State.startAttempt_stands (ctr : Nat) (s : State) : Stands s (s.startAttempt ctr) := by
  intro h
  rw [State.startAttempt_census, State.startAttempt_line, State.calling_line]
  cases s.mated s.nonCabPort
  · exact ⟨Census.accepted_sound rfl _ _, fun _ => Supervisor.asLead_fits rfl⟩
  · refine ⟨?_, fun k => Supervisor.left_fits h (c' := { s.census.calling _ _ _ with timer := _ }) nofun nofun k⟩
    constructor <;> simp [Census.calling]

theorem State.acceptReturn_stands {s : State} (hl : s.census.lead ≠ .off) (tag : Tag) (es : List Entry) : Stands s (s.acceptReturn tag es) := by
  intro h
  rw [State.acceptReturn_census, State.acceptReturn_line]
  exact ⟨Census.accepted_sound (h.hold_lead hl) _ _, fun _ => Supervisor.asLead_fits rfl⟩

theorem Census.standing_sound (c : Census) :
    (c.standing = .settled ∨ c.standing = .stale → c.table.isSome = true) ∧ (c.standing = .detached → c.table = none)
      ∧ c.standing ≠ .survey := by
  unfold Census.standing
  split <;> simp_all

theorem State.enterBlocked_stands {s : State} (hl : s.census.lead ≠ .off) (r : Failure) : Stands s (s.enterBlocked r) := by
  intro h
  have hs := s.census.standing_sound
  have hb : s.census.standing = .stale ∨ s.census.standing = .detached := by unfold Census.standing; split <;> simp
  rw [State.enterBlocked_census, State.enterBlocked_line]
  refine ⟨⟨nofun, nofun, fun _ => hb, rfl, ?_, hs.1, hs.2.1⟩, fun k => Supervisor.left_fits h nofun s.census.standing_ne_settled k⟩
  have := h.hold_lead hl
  simp [Census.blocked, Census.entering, this]

theorem Census.dismissed_sound {c : Census} (h : c.Sound) (hl : c.lead ≠ .calling) : c.dismissed.Sound := by
  refine ⟨nofun, nofun, nofun, rfl, ?_, h.table, h.bare⟩
  have hh := h.hold
  cases hc : c.lead
  · rw [hc] at hh; exact hh
  · exact absurd hc hl
  · simpa [Census.dismissed, hc, h.holding hc] using hh
  · rcases h.blocked hc with e | e <;> simpa [Census.dismissed, hc, e] using hh

theorem State.stripped_stands (s : State) : Stands s s.stripped := by
  intro h
  rw [State.stripped_census, State.stripped_line]
  cases hl : s.census.lead
  · refine ⟨Census.dismissed_sound h (by simp [hl]), fun k => ?_⟩
    exact ⟨by simpa [hl, Census.dismissed] using k.beacon, nofun, fun _ => k.member (by simp [hl]), fun _ => k.free (by simp [hl])⟩
  · have hs := s.census.standing_sound
    have hcs := h.calling hl
    refine ⟨⟨nofun, nofun, nofun, rfl, ?_, hs.1, hs.2.1⟩, fun k => ?_⟩
    · simp [Census.dismissed, Census.entering, hs.2.2, h.hold_lead (by simp [hl])]
    · obtain ⟨a, b, c⟩ := k.free (by simp [hl]) (by simp [hcs])
      simp only [hcs, reduceCtorEq, if_false]
      exact Supervisor.fits_free nofun s.census.standing_ne_settled (by simpa [hl] using k.beacon) a b c
  · exact ⟨Census.dismissed_sound h (by simp [hl]), fun _ =>
      Supervisor.asMember_fits (l := { s.line with beaconOn := false }) (c := s.census.dismissed) nofun (h.holding hl) rfl false⟩
  · refine ⟨Census.dismissed_sound h (by simp [hl]), fun k => ?_⟩
    exact ⟨by simpa [hl, Census.dismissed] using k.beacon, nofun, fun _ => k.member (by simp [hl]), fun _ => k.free (by simp [hl])⟩

theorem State.failCensus_stands (r : Failure) (s : State) : Stands s (s.failCensus r) := .record (by simp) (by simp)

theorem State.loseRole_stands (coupled : Bool) (s : State) : Stands s (s.loseRole coupled) := by
  rw [State.loseRole_eq]
  split
  · exact s.stripped_stands.trans (State.failCensus_stands _ _)
  · exact s.stripped_stands

theorem State.restartCensus_stands (s : State) : Stands s s.restartCensus :=
  (Stands.quiet (State.seeTopology_quiet s)).trans (State.startAttempt_stands _ _)

theorem State.judgeRole_stands (s : State) : Stands s s.judgeRole := by
  unfold State.judgeRole
  split
  · split
    · exact Stands.trans (t := { s with census := { s.census with cabRefused := true } }) (.record rfl rfl) (State.failCensus_stands _ _)
    · exact State.startAttempt_stands _ _
  · exact Stands.refl s

theorem State.cabAssertion_stands (s : State) : Stands s s.cabAssertion := by
  unfold State.cabAssertion
  split
  · exact Stands.refl s
  · exact Stands.trans (t := { s with census := { s.census with cab := true, cabRefused := false } }) (.record rfl rfl)
      (State.judgeRole_stands _)

theorem State.cabRelease_stands (s : State) : Stands s s.cabRelease := by
  have hc : Stands s { s with census := { s.census with cab := false, cabRefused := false } } := .record rfl rfl
  unfold State.cabRelease
  split
  · dsimp only
    split
    · exact hc.trans (State.loseRole_stands _ _)
    · exact hc
  · exact Stands.refl s

theorem State.censusTimeout_stands (s : State) : Stands s s.censusTimeout := by
  unfold State.censusTimeout
  split
  · rename_i h
    split
    · exact State.startAttempt_stands _ _
    · exact State.enterBlocked_stands (by simp [h.1]) _
  · exact Stands.refl s

theorem State.takeReturn_stands (r : ReturnIn) (s : State) : Stands s (s.takeReturn r) := by
  unfold State.takeReturn
  split
  · rename_i h
    have hl : s.census.lead ≠ .off := by simp [h.1]
    split
    · split
      · exact State.acceptReturn_stands hl _ _
      · exact Stands.refl s
    · exact State.enterBlocked_stands hl _
    · exact State.enterBlocked_stands hl _
    · exact State.enterBlocked_stands hl _
    · exact Stands.refl s
  · exact Stands.refl s

/-! ## Members -/

theorem State.topologyReport_stands (k : TopologyKind) (s : State) : Stands s (s.seeTopology.sendTopologyChange k) :=
  Stands.quiet ((State.seeTopology_quiet s).trans (State.sendTopologyChange_quiet _ _))

/-- A SETTLED member goes to STALE (R51, R52, R57). -/
theorem State.enterStale_stands {s : State} (hl : s.census.lead = .off) (hs : s.census.cs = .settled) : Stands s (s.enterCensus .stale) := by
  intro h
  rw [State.enterCensus_census, State.enterCensus_line, if_pos ⟨hs, nofun⟩]
  have hh := h.hold
  refine ⟨⟨fun e => by simp [Census.entering, hl] at e, fun e => by simp [Census.entering, hl] at e,
    fun e => by simp [Census.entering, hl] at e, h.timer, by simpa [Census.entering, hs] using hh, fun _ => h.table (.inl hs), nofun⟩, fun k => ?_⟩
  exact Supervisor.fits_free (by simp [Census.entering, hl]) nofun (by simpa [hl, Supervisor.ended] using k.beacon) rfl rfl rfl

theorem State.isLead_false {s : State} (h : ¬s.isLead = true) : s.census.lead = .off := by simpa [State.isLead] using h

theorem State.memberReport_stands {s : State} (hl : s.census.lead = .off) (k : TopologyKind) : Stands s (s.memberReport k) := by
  rw [State.memberReport_eq]
  split
  · rename_i h
    exact (State.enterStale_stands hl (by simpa [State.settled] using h)).trans (State.topologyReport_stands k _)
  · exact State.topologyReport_stands k s

theorem State.matedReport_stands (on : Bool) (e : EndNo) (s : State) : Stands s (s.matedReport on e) := by
  unfold State.matedReport
  split
  · split
    · split
      · exact State.loseRole_stands _ _
      · exact Stands.refl s
    · exact State.restartCensus_stands s
  · rename_i h; exact State.memberReport_stands (State.isLead_false h) _

theorem State.mappingReport_stands (k : TopologyKind) (s : State) : Stands s (s.mappingReport k) := by
  unfold State.mappingReport
  split
  · split
    · exact State.loseRole_stands _ _
    · exact State.restartCensus_stands s
  · rename_i h; exact State.memberReport_stands (State.isLead_false h) _

theorem State.sendReturn_stands (tag : Tag) (status : Nat) (es : List Entry) (p : Port) (s : State) :
    Stands s (s.sendReturn tag status es p) :=
  Stands.trans (t := { s with freeCount := s.freeCount + 1 }) (.blocks rfl rfl) (Stands.quiet (State.sendReturn_quiet _ _ _ _ s))

theorem State.surveyed_stands {s : State} (hl : s.census.lead = .off) (x : EndNo) (tag : Tag) (n : Nat) : Stands s (s.surveyed x tag n) := by
  intro h
  rw [State.surveyed_census, State.surveyed_line]
  refine ⟨⟨fun _ => rfl, fun e => by simp [Census.called, hl] at e, fun e => by simp [Census.called, hl] at e, h.timer,
    by simp [Census.called, hl], nofun, nofun⟩, fun k => ?_⟩
  have := Supervisor.left_fits (c' := { s.census.called x tag n with cs := .survey }) h (by simp [Census.called, hl]) nofun k
  simpa [hl] using this

theorem State.takeCall_stands (x : EndNo) (c : CallIn) (s : State) : Stands s (s.takeCall x c) := by
  rw [State.takeCall_eq]
  split
  · exact State.sendReturn_stands _ _ _ _ _
  · rename_i h
    have hl : s.census.lead = .off := by
      simp only [State.refusesCall, Bool.or_eq_true, not_or] at h
      exact State.isLead_false h.1
    split
    · exact State.sendReturn_stands _ _ _ _ _
    · split
      · exact State.sendReturn_stands _ _ _ _ _
      · dsimp only
        split
        · exact (State.surveyed_stands hl _ _ _).trans (Stands.quiet (State.sendCall_quiet _ _ _ _))
        · exact (State.surveyed_stands hl _ _ _).trans (State.sendReturn_stands _ _ _ _ _)

/-- A member gives its survey up (R47, R49). -/
theorem State.givenUp_stands {s : State} (hs : s.census.cs = .survey) (hl : s.census.lead = .off) :
    Stands s ({ s with census := s.census.givenUp } : State).fallBack := by
  intro h
  have ht := s.census.standing_sound
  have hn := s.census.standing_ne_settled
  rw [State.fallBack_eq, State.enterCensus_census, State.enterCensus_line]
  rw [show ({ s with census := s.census.givenUp } : State).census.standing = s.census.standing from rfl]
  have hc : ¬(({ s with census := s.census.givenUp } : State).census.cs = .settled ∧ s.census.standing ≠ .settled) := by
    simp [Census.givenUp, hs]
  rw [if_neg hc]
  refine ⟨⟨fun e => by simp [Census.givenUp, Census.entering, hl] at e, fun e => by simp [Census.givenUp, Census.entering, hl] at e,
    fun e => by simp [Census.givenUp, Census.entering, hl] at e, h.timer, by simp [Census.givenUp, Census.entering, ht.2.2], ht.1, ht.2.1⟩,
    fun k => ?_⟩
  obtain ⟨a, b, c⟩ := k.free (by simp [hl]) (by simp [hs])
  exact Supervisor.fits_free (by simp [Census.givenUp, Census.entering, hl]) hn (by simpa [hl] using k.beacon) a b c

theorem State.surveyTimeout_stands (s : State) : Stands s s.surveyTimeout := by
  unfold State.surveyTimeout
  split
  · rename_i h
    intro hs
    have hl : s.census.lead = .off := by
      have := hs.hold
      rw [h.1, Option.isSome_iff_ne_none.mpr h.2] at this
      simpa using this.symm
    have hg := State.givenUp_stands h.1 hl
    dsimp only
    split
    · exact hg hs
    · exact hg.trans (.record rfl rfl) hs
  · exact Stands.refl s

theorem State.joined_stands {s : State} (hl : s.census.lead = .off) (epoch : Nat) (es : List Entry) : Stands s (s.joined epoch es) := by
  intro h
  rw [State.joined_census, State.joined_line]
  refine ⟨⟨fun e => by simp [Census.joined, Census.installed, hl] at e, fun _ => rfl, fun e => by simp [Census.joined, Census.installed, hl] at e,
    h.timer, rfl, fun _ => rfl, nofun⟩, fun k => ?_⟩
  exact Supervisor.asMember_fits (by simp [Census.joined, Census.installed, hl]) rfl (by simpa [hl] using k.beacon) _

theorem State.takeAnnounce_stands (a : AnnounceIn) (s : State) : Stands s (s.takeAnnounce a) := by
  rw [State.takeAnnounce_eq]
  split
  · rename_i h
    split
    · exact State.joined_stands h.2 _ _
    · exact (State.givenUp_stands h.1 h.2).trans (State.topologyReport_stands _ _)
  · exact Stands.refl s

theorem State.censusBeacon_stands (epoch : Nat) (s : State) : Stands s (s.censusBeacon epoch) := by
  have disarm : ∀ u : State, Stands u { u with census := { u.census with staleArmed := false } } := fun u => .record rfl rfl
  unfold State.censusBeacon
  split
  · exact Stands.refl s
  · rename_i hl
    split
    · rename_i hs
      split
      · exact Stands.refl s
      · exact (State.enterStale_stands (State.isLead_false hl) hs).trans (State.topologyReport_stands _ _)
    · split
      · exact (State.topologyReport_stands _ s).trans (disarm _)
      · exact Stands.refl s
    · split
      · exact (State.topologyReport_stands _ s).trans (disarm _)
      · exact Stands.refl s
    · exact Stands.refl s

/-! ## The line -/

theorem State.zspChange_stands (level : Bool) (s : State) : Stands s (s.zspChange level) := by
  intro h
  rw [State.zspChange_census, State.zspChange_line]
  refine ⟨h, fun k => ?_⟩
  split
  · exact k
  · refine ⟨k.beacon, fun e => ?_, k.member, fun e z => ?_⟩
    · have hh : s.holding = true := by simp [State.holding, e]
      simpa [Supervisor.formed, hh] using ⟨(k.lead e).1, (k.lead e).2.1⟩
    · have hh : s.holding = false := by simp [State.holding, e]
      simpa [Supervisor.formed, hh] using k.free e z

theorem State.supervisionExpiry_stands (s : State) : Stands s s.supervisionExpiry := by
  intro h
  rw [State.supervisionExpiry_census, State.supervisionExpiry_line]
  refine ⟨h, fun k => ?_⟩
  split
  · rename_i e
    have hl : s.census.lead ≠ .holding := fun z => e.1 (k.lead z).2.1
    exact ⟨k.beacon, fun z => absurd z hl, fun _ _ => rfl, fun _ z => absurd (by simpa [State.settled] using e.2) z⟩
  · exact k

theorem State.acceptBeacon_stands {s : State} (hs : s.settled = true) (hl : s.census.lead = .off) (flag : Bool) :
    Stands s (s.acceptBeacon flag) := by
  intro h
  rw [State.acceptBeacon_census, State.acceptBeacon_line]
  have hcs : s.census.cs = .settled := by simpa [State.settled] using hs
  exact ⟨h, fun k => ⟨k.beacon, fun e => by simp [hl] at e, fun _ _ => rfl, fun _ e => absurd hcs e⟩⟩

/-! ## Events and the clock -/

/-- An event whose operation touches neither census nor line. -/
theorem State.takeOrder_stands (o : OrderIn) (s : State) : Stands s (s.takeOrder o).2 := by
  rcases s.takeOrder_cases o with h | ⟨sd, a, _, h⟩ | ⟨sd, a, _, h⟩ <;> rw [h]
  · exact Stands.refl s
  · exact .blocks (by simp [State.refuseOrder]) (by simp [State.refuseOrder])
  · exact .blocks (by simp [State.acceptOrder]) (by simp [State.acceptOrder])

theorem State.loopChange_stands (sd : Side) (made : Bool) (s : State) : Stands s (s.loopChange sd made) := by
  unfold State.loopChange
  dsimp only
  split
  · exact Stands.refl s
  · split <;> exact .blocks (by simp) (by simp)

theorem State.sideTimeouts_stand (sd : Side) (s : State) :
    Stands s (s.releaseTimeout sd) ∧ Stands s (s.warningTimeout sd) ∧ Stands s (s.closeTimeout sd) := by
  refine ⟨?_, ?_, ?_⟩
  · unfold State.releaseTimeout
    dsimp only
    split
    · exact .blocks (by simp [State.withdrawSide]) (by simp [State.withdrawSide])
    · exact Stands.refl s
  · unfold State.warningTimeout
    dsimp only
    split
    · exact .blocks (by simp) (by simp)
    · exact Stands.refl s
  · unfold State.closeTimeout
    dsimp only
    split
    · exact .blocks (by simp) (by simp)
    · exact Stands.refl s

theorem State.takeDoorReport_stands (p : List Byte) (s : State) : Stands s (s.takeDoorReport p) := by
  unfold State.takeDoorReport
  split
  · split <;> exact .blocks (by simp) (by simp)
  · exact .blocks (by simp) (by simp)

theorem State.takeDoorCommand_stands (p : List Byte) (s : State) : Stands s (s.takeDoorCommand p) := by
  rcases s.takeDoorCommand_cases p with ⟨st, why, h⟩ | ⟨side, a, f, l, _, h⟩ <;> rw [h]
  · exact Stands.quiet (State.pushMessage_quiet _ _)
  · exact ((State.takeOrder_stands _ s).trans (Stands.quiet (State.originate_quiet _ _ _))).trans
      (Stands.quiet (State.pushMessage_quiet _ _))

theorem Event.act_stands (e : Event) (s : State) : Stands s (e.act s) := by
  cases e with
  | mated on x => exact State.matedReport_stands on x s
  | call d =>
    rcases d.callAct_cases s with h | ⟨_, h⟩ <;> rw [Event.act, h]
    · exact Stands.refl s
    · exact State.takeCall_stands _ _ s
  | censusReturn d =>
    rcases d.returnAct_cases s with h | ⟨_, h⟩ <;> rw [Event.act, h]
    · exact Stands.refl s
    · exact State.takeReturn_stands _ s
  | announce d =>
    rcases d.announceAct_cases s with h | ⟨_, h⟩ <;> rw [Event.act, h]
    · exact Stands.refl s
    · exact State.takeAnnounce_stands _ s
  | topology p =>
    rcases s.takeTopologyChange_cases p with h | ⟨_, h⟩ <;> rw [Event.act, h]
    · exact Stands.refl s
    · exact State.restartCensus_stands s
  | order d =>
    rcases d.orderAct_cases s with h | ⟨_, h⟩ <;> rw [Event.act, h]
    · exact Stands.refl s
    · exact State.takeOrder_stands _ s
  | doorState d =>
    rcases d.doorStateAct_cases s with h | ⟨_, _, _, _, _, h⟩ <;> rw [Event.act, h]
    · exact Stands.refl s
    · exact .blocks rfl rfl
  | heatDemand d =>
    rcases d.demandAct_cases s with h | ⟨_, _, _, _, h⟩ <;> rw [Event.act, h]
    · exact Stands.refl s
    · exact .blocks rfl rfl
  | heatGrant d =>
    rcases d.grantAct_cases s with h | ⟨_, h⟩ <;> rw [Event.act, h]
    · exact Stands.refl s
    · exact .blocks rfl rfl
  | cabAssertion => exact s.cabAssertion_stands
  | cabRelease => exact s.cabRelease_stands
  | censusTimeout => exact s.censusTimeout_stands
  | surveyTimeout => exact s.surveyTimeout_stands
  | zsp level => exact s.zspChange_stands level
  | supervisionExpiry => exact s.supervisionExpiry_stands
  | doorCommand p => exact s.takeDoorCommand_stands p
  | doorReport p => exact s.takeDoorReport_stands p
  | loop sd made => exact s.loopChange_stands sd made
  | releaseTimeout sd => exact (s.sideTimeouts_stand sd).1
  | warningTimeout sd => exact (s.sideTimeouts_stand sd).2.1
  | closeTimeout sd => exact (s.sideTimeouts_stand sd).2.2
  | phase sd => exact .blocks (by simp [Event.act]) (by simp [Event.act])

/-- The work of an index touches neither census nor line (R99, R120, R128). -/
theorem State.indexWork_stands (s : State) : Stands s s.indexWork := by
  refine .blocks ?_ s.indexWork_keeps_doors.2
  unfold State.indexWork
  split
  · simp
  · split
    · unfold State.demandWork
      split
      · rfl
      · split
        · simp
        · rfl
    · split
      · simp [State.compute]
      · rfl

/-- A change of the clock alone. -/
theorem Stands.clock (i c k : Nat) (m : Option Nat) (s : State) :
    Stands s { s with line := { s.line with idx := i, cyc := c, tick := k, lastStart := m } } := .same rfl rfl

theorem Stands.heated {s t : State} (h : Heated s t) : Stands s t := .blocks h.census h.line

theorem State.indexEntry_stands (s : State) : Stands s s.indexEntry := by
  unfold State.indexEntry
  split
  · have ha : ∀ u : State, Stands u u.ageSummary := fun u => .blocks (by simp) (by simp)
    rw [State.cycleStart_eq]
    exact ((Stands.clock _ _ _ _ s).trans (Stands.heated (State.heaterCycleStart_heated _ s.marked))).trans (ha _)
  · exact (Stands.heated (State.readSlot_heated s)).trans (State.indexWork_stands _)

theorem State.realign_stands (b : BeaconIn) (s : State) : Stands s (s.realign b) := by
  unfold State.realign
  dsimp only
  split
  · exact (Stands.clock _ _ _ _ s).trans (Stands.heated (State.readSlot_heated _))
  · exact (Stands.clock _ _ _ _ s).trans (State.indexEntry_stands _)

theorem State.takeBeacon_stands (f : Frame) (s : State) : Stands s (s.takeBeacon f) := by
  unfold State.takeBeacon
  split
  · rename_i b _
    refine Stands.trans ?_ (State.censusBeacon_stands _ _)
    rcases s.supervisorBeacon_cases f.epoch b with e | ⟨_, _, e⟩ | ⟨_, _, hs, hl, e⟩ <;> rw [e]
    · exact Stands.refl s
    · exact State.realign_stands b s
    · exact (State.realign_stands b s).trans (State.acceptBeacon_stands hs hl _)
  · exact Stands.refl s

theorem State.cycleTick_stands (s : State) : Stands s s.cycleTick := by
  have hl : Stands s { s with line := s.line.advance } := by
    unfold Supervisor.advance
    split <;> exact Stands.clock _ _ _ _ s
  exact (hl.trans (State.indexEntry_stands _)).trans (Stands.quiet (State.sendBeacon_quiet _))

theorem State.slotBoundary_stands (s : State) : Stands s s.slotBoundary := by
  rcases s.slotBoundary_cases with e | ⟨tick, e⟩ <;> rw [e]
  · exact Stands.refl s
  · exact (Stands.clock _ _ tick _ s).trans (Stands.heated (State.readSlot_heated _))

/-! ## Requests -/

theorem State.applyEnds_stands (old : CoachTable) (s : State) : Stands s (s.applyEnds old) := by
  have report : ∀ (k : TopologyKind) (c : Prop) [Decidable c] (t : State), Stands t (if c then t else t.mappingReport k) := by
    intro k c _ t
    split
    · exact Stands.refl t
    · exact State.mappingReport_stands k t
  exact (report .numbering _ s).trans (report .cabEnd _ _)

theorem State.applyRole_stands (old : CoachTable) (s : State) : Stands s (s.applyRole old) := by
  unfold State.applyRole
  split
  · exact Stands.refl s
  · split
    · split
      · exact State.judgeRole_stands s
      · exact Stands.refl s
    · split
      · exact State.loseRole_stands _ s
      · exact Stands.refl s

theorem State.switchTables_stands (s : State) : Stands s s.switchTables := by
  rw [State.switchTables_eq, State.applyArray_eq]
  generalize ht : State.mk .. = t
  have h : Stands s t := .blocks (by rw [← ht]) (by rw [← ht])
  have hd : Stands t (t.applyDoors s.mgmt.working.door) := .blocks (by simp [State.applyDoors]) (by simp [State.applyDoors])
  have hh : ∀ u : State, Stands u (u.applyHeat s.mgmt.working.heat) := fun u => by rw [State.applyHeat_eq]; exact .blocks rfl rfl
  exact (((h.trans hd).trans (hh _)).trans (State.applyEnds_stands _ _)).trans (State.applyRole_stands _ _)

theorem State.clearGroups_stands (ks : List Nat) (s : State) :
    Stands s (ks.foldl (fun acc k => State.clearGroupFault k acc) s) := by
  induction ks generalizing s with
  | nil => exact Stands.refl s
  | cons k ks ih => exact Stands.trans (.blocks (by simp) (by simp)) (ih (State.clearGroupFault k s))

theorem Effect.stands {s t : State} (e : Effect s t) : Stands s t := by
  cases e with
  | routed r => exact .blocks r.census r.line
  | loaded name n vs => obtain ⟨g, k, e⟩ := s.loadFields_cases name n vs; rw [e]; exact .blocks rfl rfl
  | switched _ => exact s.switchTables_stands
  | settings args v _ _ => exact .blocks (s.changeSense_quiet v).census (s.changeSense_quiet v).line
  | groups ks _ => exact (State.clearGroups_stands ks s).trans (.blocks rfl rfl)
  | recensus _ => exact s.startAttempt_stands 0
  | stored | budget | sampled | captureOn | captureOff | captureRead | restart => exact .blocks rfl rfl

/-- The census sound, and the supervision where `b` asks for it. -/
def State.StandsKept (b : Prop) (s : State) : Prop := s.census.Sound ∧ (b → s.line.Fits s.census)

theorem Stands.kept {b : Prop} {s t : State} (g : Stands s t) (h : s.StandsKept b) : t.StandsKept b :=
  ⟨(g h.1).1, fun x => (g h.1).2 (h.2 x)⟩

theorem State.reset_stands {b : Prop} {s : State} (hc : s.census = Census.reset) (hl : s.line = Supervisor.reset) : s.StandsKept b := by
  have h : State.reset.census.Sound ∧ State.reset.line.Fits State.reset.census :=
    ⟨(State.censusSound_iff _).mp (by decide), (State.supervisionSound_iff _).mp (by decide)⟩
  unfold State.StandsKept
  rw [hc, hl]
  exact ⟨h.1, fun _ => h.2⟩

/-- Every command keeps census and supervision sound. -/
theorem stands_kept (b : Prop) : Kept (State.StandsKept b) where
  routed r := (Stands.blocks r.census r.line).kept
  event e s := (e.act_stands s).kept
  beacon f s := (s.takeBeacon_stands f).kept
  tick s := s.cycleTick_stands.kept
  slot s := s.slotBoundary_stands.kept
  demand _ _ := (Stands.blocks rfl rfl).kept
  demandHold s := by rcases s.demandTimeout_cases with e | e <;> rw [e] <;> exact (Stands.blocks rfl rfl).kept
  pacer s := by rw [s.pacerTick_eq]; exact (Stands.blocks rfl rfl).kept
  conversion code s := by
    obtain ⟨c, q⟩ := s.conversionDone_quiet code
    exact (Stands.blocks q.census q.line).kept
  effect e := e.stands.kept
  written _ _ _ _ _ := (Stands.blocks rfl rfl).kept
  started _ _ _ _ _ := State.reset_stands rfl rfl
  lost _ _ := State.reset_stands rfl rfl

theorem State.passMs_stands (s : State) : Stands s s.passMs := by
  have hk : ∀ o : Option Nat, (countdown o).isSome = o.isSome ∧ (countdown o).isNone = o.isNone ∧ (o = none → countdown o = none) := by
    intro o
    cases o <;> simp [countdown]
  unfold State.passMs
  split
  · intro h
    refine ⟨⟨h.calling, h.holding, h.blocked, (hk _).1.trans h.timer, (hk _).1.trans h.hold, h.table, h.bare⟩, fun k => ?_⟩
    exact ⟨k.beacon, fun e => ⟨(k.lead e).1, (hk _).2.2 (k.lead e).2.1, (k.lead e).2.2⟩, fun e z => (hk _).2.1.trans (k.member e z),
      fun e z => ⟨(k.free e z).1, (hk _).2.2 (k.free e z).2.1, (k.free e z).2.2⟩⟩
  · exact Stands.refl s

end Sys2Proof.Machine
end

section
open Sys2Proof Sys2Proof.Machine

/-- Settles O6: every command and every millisecond keeps the census in the combinations allowed, and the supervision with it. -/
theorem stepKeepsCensusSound : Obligations.StepKeepsCensusSound := by
  intro s t hs h
  rw [State.censusSound_iff] at hs ⊢
  rw [State.supervisionSound_iff, State.supervisionSound_iff]
  exact (stands_kept (s.line.Fits s.census)).step (fun _ _ k => k) (fun s => s.passMs_stands.kept) h ⟨hs, id⟩

end

section
/-! PROOFS. The loadable tables keep their ranges in staging, in force and in store; the windows, the capture FIFO and the pacer of the
sense converter keep theirs (the tables and the converter of O11). -/

namespace Sys2Proof.Machine

/-! ## Fields of the tables -/

theorem clamp_bounds {lo hi : Nat} (h : lo ≤ hi) (v : Nat) : lo ≤ clamp lo hi v ∧ clamp lo hi v ≤ hi := by
  unfold clamp
  omega

theorem CoachTable.set_sound {t : CoachTable} (h : t.sound = true) (n v : Nat) : (t.set n v).sound = true := by
  unfold CoachTable.set
  split <;> try exact h
  have := clamp_bounds (lo := 16) (hi := 64) (by decide) v
  simp [CoachTable.sound, this]

theorem clampRelease_bounds (v : Nat) : clampRelease v = 0 ∨ (10 ≤ clampRelease v ∧ clampRelease v ≤ 600) := by
  unfold clampRelease
  split
  · exact .inl rfl
  · exact .inr (clamp_bounds (by decide) v)

theorem DoorTable.set_sound {t : DoorTable} (h : t.sound = true) (n v : Nat) : (t.set n v).sound = true := by
  have hw := clamp_bounds (lo := 5) (hi := 100) (by decide) v
  have hc := clamp_bounds (lo := 1) (hi := 30) (by decide) v
  have hr := clampRelease_bounds v
  simp only [DoorTable.sound, Bool.and_eq_true, Bool.or_eq_true, decide_eq_true_eq, and_assoc] at h ⊢
  obtain ⟨h1, h2, h3, h4, h5, h6, h7⟩ := h
  unfold DoorTable.set
  split
  · exact ⟨Nat.min_le_left .., h2, h3, h4, h5, h6, h7⟩
  · exact ⟨h1, Nat.min_le_left .., h3, h4, h5, h6, h7⟩
  · exact ⟨h1, h2, hw.1, hw.2, h5, h6, h7⟩
  · exact ⟨h1, h2, h3, h4, h5, h6, h7⟩
  · exact ⟨h1, h2, h3, h4, hc.1, hc.2, h7⟩
  · exact ⟨h1, h2, h3, h4, h5, h6, hr⟩
  · exact ⟨h1, h2, h3, h4, h5, h6, h7⟩

theorem HeatTable.set_sound {t : HeatTable} (h : t.sound = true) (n v : Nat) : (t.set n v).sound = true := by
  simp only [HeatTable.sound, Bool.and_eq_true, decide_eq_true_eq, and_assoc] at h ⊢
  obtain ⟨h1, h2, h3, h4, h5, h6, h7, h8⟩ := h
  unfold HeatTable.set
  split <;> simp_all

theorem ClassEntry.set_sound {e : ClassEntry} (h : e.sound = true) (f v : Nat) : (e.set f v).sound = true := by
  unfold ClassEntry.set
  split <;> try exact h
  by_cases hv : 16 ≤ v ∧ v ≤ 63 <;> simp [ClassEntry.sound, hv]

theorem clampGain_good (v : Nat) : goodGain (clampGain v) = true := by
  have h : clampGain v = 1 ∨ clampGain v = 2 ∨ clampGain v = 4 ∨ clampGain v = 8 := by
    unfold clampGain
    repeat' split
    all_goals omega
  exact decide_eq_true h

theorem List.all_set {α : Type} {p : α → Bool} {l : List α} (h : l.all p = true) (k : Nat) {a : α} (ha : p a = true) :
    (l.set k a).all p = true := by
  rw [List.all_eq_true] at h ⊢
  intro x hx
  rcases List.mem_or_eq_of_mem_set hx with hx | rfl
  · exact h x hx
  · exact ha

theorem List.all_modify {α : Type} {p : α → Bool} {f : α → α} {l : List α} (h : l.all p = true) (k : Nat)
    (hf : ∀ a, p a = true → p (f a) = true) : (l.modify k f).all p = true := by
  rw [List.all_eq_true] at h ⊢
  intro x hx
  obtain ⟨i, hi, rfl⟩ := List.getElem_of_mem hx
  rw [List.getElem_modify]
  have hm := h _ (List.getElem_mem (by simpa using hi))
  split
  · exact hf _ hm
  · exact hm

/-- A SENSE field keeps the ranges; a pacer interval is given as one byte (R158; log 10). -/
theorem SenseTable.set_sound {t : SenseTable} (h : t.sound = true) {n v : Nat} (hv : n = 3 → v ≤ 255) : (t.set n v).sound = true := by
  simp only [SenseTable.sound, Bool.and_eq_true, decide_eq_true_eq, and_assoc] at h ⊢
  obtain ⟨h1, h2, h3, h4, h5, h6⟩ := h
  unfold SenseTable.set
  split
  · exact ⟨h1, h2, h3, h4, h5, h6⟩
  · exact ⟨Nat.min_le_left .., h2, h3, h4, h5, h6⟩
  · exact ⟨h1, Nat.min_le_left .., h3, h4, h5, h6⟩
  · exact ⟨h1, h2, Nat.le_max_left .., Nat.max_le.mpr ⟨by decide, hv rfl⟩, h5, h6⟩
  · exact ⟨h1, h2, h3, h4, by rw [List.length_set]; exact h5, List.all_set h6 _ (clampGain_good v)⟩

theorem Tables.set_sound {t : Tables} (h : t.sound = true) {name : TableName} {n v : Nat} (hv : name = .sense → n = 3 → v ≤ 255) :
    (t.set name n v).sound = true := by
  simp only [Tables.sound, Bool.and_eq_true, decide_eq_true_eq, and_assoc] at h ⊢
  obtain ⟨h1, h2, h3, h4, h5, h6⟩ := h
  cases name with
  | coach => exact ⟨CoachTable.set_sound h1 n v, h2, h3, h4, h5, h6⟩
  | door => exact ⟨h1, DoorTable.set_sound h2 n v, h3, h4, h5, h6⟩
  | heat => exact ⟨h1, h2, HeatTable.set_sound h3 n v, h4, h5, h6⟩
  | cls => exact ⟨h1, h2, h3, by simpa [Tables.set] using h4, List.all_modify h5 _ fun _ he => ClassEntry.set_sound he _ v, h6⟩
  | sense => exact ⟨h1, h2, h3, h4, h5, SenseTable.set_sound h6 (hv rfl)⟩

theorem Tables.default_sound : Tables.default.sound = true := by decide

/-! ## The tables held -/

/-- The tables of the management unit keep their ranges. -/
structure Mgmt.TablesFit (m : Mgmt) : Prop where
  working : m.working.sound = true
  staging : m.staging.sound = true
  image : ∀ i, m.image = some i → i.tables.sound = true
  writing : ∀ i o tag, m.store = .writing i o tag → i.tables.sound = true

theorem State.tablesSound_iff (s : State) : s.tablesSound = true ↔ s.mgmt.TablesFit := by
  simp only [State.tablesSound, Bool.and_eq_true]
  constructor
  · rintro ⟨⟨⟨h1, h2⟩, h3⟩, h4⟩
    exact ⟨h1, h2, fun i hi => by rw [hi] at h3; exact h3, fun i o tag hi => by rw [hi] at h4; exact h4⟩
  · intro h
    refine ⟨⟨⟨h.working, h.staging⟩, ?_⟩, ?_⟩
    · split
      · exact h.image _ ‹_›
      · rfl
    · split
      · exact h.writing _ _ _ ‹_›
      · rfl

theorem State.loadField_tables {s : State} (h : s.mgmt.TablesFit) (name : TableName) (n v : Nat) : (s.loadField name n v).mgmt.TablesFit := by
  unfold State.loadField
  split
  · refine ⟨h.working, Tables.set_sound h.staging fun _ _ => ?_, h.image, h.writing⟩
    exact Nat.le_of_lt_succ (BitVec.isLt _)
  · rename_i hv
    exact ⟨h.working, Tables.set_sound h.staging fun e1 e2 => by simp_all, h.image, h.writing⟩

theorem State.loadFields_tables (name : TableName) (n : Nat) (vs : List Nat) {s : State} (h : s.mgmt.TablesFit) :
    (s.loadFields name n vs).mgmt.TablesFit := by
  induction vs generalizing n s with
  | nil => exact h
  | cons v vs ih => exact ih (n + 1) (State.loadField_tables h name n v)

@[simp] theorem State.applyHeat_mgmt (old : HeatTable) (s : State) : (s.applyHeat old).mgmt = s.mgmt := by
  rw [State.applyHeat_eq]; rfl

@[simp] theorem State.applyArray_mgmt (old : Tables) (s : State) : (s.applyArray old).mgmt = s.mgmt := by
  rw [State.applyArray_eq]

/-- An APPLY switches staging into working and touches nothing else of the management unit (R175). -/
theorem State.switchTables_mgmt (s : State) : s.switchTables.mgmt = { s.mgmt with working := s.mgmt.staging } := by
  rw [State.switchTables_eq, (State.applyRole_eventful _ _).mgmt, (State.applyEnds_eventful _ _).mgmt, State.applyHeat_mgmt,
    (State.applyDoors_eventful _ _).mgmt, State.applyArray_mgmt]

theorem Mgmt.soundImage_sound {m : Mgmt} (h : m.TablesFit) {i : Image} (hi : m.soundImage = some i) : i.tables.sound = true := by
  unfold Mgmt.soundImage at hi
  split at hi
  · exact h.image i hi
  · exact absurd hi nofun

theorem startTables_sound {m : Mgmt} (h : m.TablesFit) : (startTables m.soundImage).sound = true := by
  unfold startTables
  split
  · exact Mgmt.soundImage_sound h ‹_›
  · exact Tables.default_sound

theorem Effect.tables {s t : State} (e : Effect s t) (h : s.mgmt.TablesFit) : t.mgmt.TablesFit := by
  cases e with
  | routed r => rw [r.mgmt]; exact h
  | loaded name n vs => exact State.loadFields_tables name n vs h
  | switched _ => rw [State.switchTables_mgmt]; exact ⟨h.staging, h.staging, h.image, h.writing⟩
  | stored o tag => exact ⟨h.working, h.staging, (fun _ e => by cases e), (fun i _ _ hi => by cases hi; exact h.working)⟩
  | settings args v _ _ => rw [(s.changeSense_quiet v).mgmt]; exact h
  | groups ks _ =>
    have hm : ∀ (ks : List Nat) (s : State), (ks.foldl (fun acc k => State.clearGroupFault k acc) s).mgmt = s.mgmt := by
      intro ks
      induction ks with
      | nil => intro s; rfl
      | cons k ks ih => intro s; exact (ih _).trans (by simp)
    rw [State.formR_mgmt, hm]; exact h
  | recensus _ => rw [(s.startAttempt_eventful 0).mgmt]; exact h
  | budget | sampled | captureOn | captureOff | captureRead => exact h
  | restart => exact ⟨h.working, h.staging, h.image, h.writing⟩

@[simp] theorem State.takeDemand_mgmt (b : Byte) (s : State) : (s.takeDemand [b]).mgmt = s.mgmt := by
  simp only [State.takeDemand, State.formD_mgmt]

@[simp] theorem State.takeDemand_sense (b : Byte) (s : State) : (s.takeDemand [b]).sense = s.sense := by
  simp only [State.takeDemand, State.formD_sense]

@[simp] theorem State.demandTimeout_mgmt (s : State) : s.demandTimeout.mgmt = s.mgmt := by
  unfold State.demandTimeout
  split
  · rfl
  · rw [State.formD_mgmt]

@[simp] theorem State.demandTimeout_sense (s : State) : s.demandTimeout.sense = s.sense := by
  unfold State.demandTimeout
  split
  · rfl
  · rw [State.formD_sense]

@[simp] theorem State.pacerTick_mgmt (s : State) : s.pacerTick.mgmt = s.mgmt := by
  unfold State.pacerTick
  split <;> rfl

/-- Every command keeps the tables in their ranges. -/
theorem tables_kept : Kept fun s => s.mgmt.TablesFit where
  routed r h := by rw [r.mgmt]; exact h
  event e s h := by rw [(e.act_eventful s).mgmt]; exact h
  beacon f s h := by rw [(s.takeBeacon_sameFrame f).2.2.2.1]; exact h
  tick s h := by rw [s.cycleTick_sameFrame.2.2.2.1]; exact h
  slot s h := by rw [s.slotBoundary_sameFrame.2.2.2.1]; exact h
  demand b s h := by rw [State.takeDemand_mgmt]; exact h
  demandHold s h := by rw [State.demandTimeout_mgmt]; exact h
  pacer s h := by rw [State.pacerTick_mgmt]; exact h
  conversion code s h := by obtain ⟨c, q⟩ := s.conversionDone_quiet code; rw [q.mgmt]; exact h
  effect e h := e.tables h
  written _ _ _ _ hw h := ⟨h.working, h.staging, fun i hi => by cases hi; exact h.writing _ _ _ hw, fun _ _ _ e => by cases e⟩
  started _ _ _ _ h := ⟨startTables_sound h, startTables_sound h, fun _ hi => Mgmt.soundImage_sound h hi, fun _ _ _ e => by cases e⟩
  lost _ h := ⟨Tables.default_sound, Tables.default_sound, fun _ hi => Mgmt.soundImage_sound h hi, fun _ _ _ e => by cases e⟩

theorem State.passMs_tables {s : State} (h : s.mgmt.TablesFit) : s.passMs.mgmt.TablesFit := by
  unfold State.passMs
  split
  · exact ⟨h.working, h.staging, h.image, h.writing⟩
  · exact h

/-! ## The converter -/

/-- An on-window holds at most 8 codes and counts at most 255 on-samples (R154). -/
def OnWindow.fits (w : OnWindow) : Bool := decide (w.window.length ≤ Config.windowCodes) && decide (w.count ≤ 255)

/-- A channel holds at most 8 codes, and an age exactly with a code (R154, R155). -/
def Channel.fits (ch : Channel) : Bool := decide (ch.window.length ≤ Config.windowCodes) && (ch.window.isEmpty == ch.age.isNone)

/-- The pacer runs in the continuous modes, and otherwise only during a SCAN (R152, R153). -/
def Sense.paced (c : Sense) : Bool :=
  match c.mode with
  | .single => c.pacer.isNone && c.scan.isNone
  | .singleCont => c.pacer.isSome && c.scan.isNone
  | .scanCont => c.pacer.isSome && c.scan.isNone
  | .scan => c.pacer.isSome == c.scan.isSome

/-- The converter keeps its windows, its FIFO and its pacer. -/
structure Sense.Fits (c : Sense) : Prop where
  channels : c.channels.length = 8
  onWins : c.onWins.length = 4
  codes : c.channels.all Channel.fits = true
  wins : c.onWins.all OnWindow.fits = true
  fifo : c.fifo.length ≤ Config.fifoEntries
  lost : c.lost ≤ 65535
  paced : c.paced = true

theorem State.senseSound_iff (s : State) : s.senseSound = true ↔ s.sense.Fits := by
  simp only [State.senseSound, Bool.and_eq_true, decide_eq_true_eq]
  constructor
  · rintro ⟨⟨⟨⟨⟨⟨h1, h2⟩, h3⟩, h4⟩, h5⟩, h6⟩, h7⟩
    exact ⟨h1, h2, h3, h4, h5, h6, h7⟩
  · intro h
    exact ⟨⟨⟨⟨⟨⟨h.channels, h.onWins⟩, h.codes⟩, h.wins⟩, h.fifo⟩, h.lost⟩, h.paced⟩

/-- Only the on-windows may have changed, and they fit where they fitted. -/
structure Windowed (s t : State) : Prop where
  sense : t.sense = { s.sense with onWins := t.sense.onWins }
  length : t.sense.onWins.length = s.sense.onWins.length
  wins : s.sense.onWins.all OnWindow.fits = true → t.sense.onWins.all OnWindow.fits = true

theorem Windowed.same {s t : State} (h : t.sense = s.sense) : Windowed s t := ⟨by rw [h], by rw [h], by rw [h]; exact id⟩

theorem Windowed.refl (s : State) : Windowed s s := .same rfl

theorem Windowed.trans {s t u : State} (h : Windowed s t) (k : Windowed t u) : Windowed s u :=
  ⟨by rw [k.sense, h.sense], k.length.trans h.length, fun x => k.wins (h.wins x)⟩

/-- The converter is the same at the other start. -/
theorem Windowed.from {s t u : State} (k : Windowed t u) (h : t.sense = s.sense) : Windowed s u := Windowed.trans (.same h) k

/-- The converter is the same at the other end. -/
theorem Windowed.to {s t u : State} (k : Windowed s t) (h : u.sense = t.sense) : Windowed s u := k.trans (.same h)

theorem Windowed.quiet {s t u : State} (k : Windowed s t) (q : Quiet t u) : Windowed s u := k.to q.sense

theorem Windowed.fits {s t : State} (w : Windowed s t) (h : s.sense.Fits) : t.sense.Fits := by
  rw [w.sense]
  exact ⟨h.channels, w.length.trans h.onWins, h.codes, w.wins h.wins, h.fifo, h.lost, h.paced⟩

theorem handLevels_fits (gs : List Group) {ws : List OnWindow} (h : ws.all OnWindow.fits = true) :
    (handLevels gs ws).all OnWindow.fits = true := by
  induction gs generalizing ws with
  | nil => cases ws <;> exact h
  | cons g gs ih =>
    cases ws with
    | nil => rfl
    | cons w ws =>
      simp only [List.all_cons, Bool.and_eq_true] at h
      simp only [handLevels, List.all_cons, Bool.and_eq_true]
      exact ⟨h.1, ih h.2⟩

theorem State.setOutputs_windowed (s : State) : Windowed s s.setOutputs := ⟨rfl, handLevels_length _ _, handLevels_fits _⟩

theorem State.readSlot_windowed (s : State) : Windowed s s.readSlot :=
  (State.setOutputs_windowed { s with heater := { s.heater with slot := s.line.slotPosition } }).from rfl

theorem State.strikeTest_windowed (k : Nat) (fails : Bool) (s : State) : Windowed s (s.strikeTest k fails) := by
  unfold State.strikeTest
  split
  · split
    · exact (((State.setOutputs_windowed _).quiet (State.count_quiet 11 _)).quiet (State.raise_quiet .groupFailed _)).from rfl
    · exact .same rfl
  · exact .same rfl

theorem State.openTest_windowed (k : Nat) (fails : Bool) (s : State) : Windowed s (s.openTest k fails) := by
  unfold State.openTest
  split
  · split
    · exact Windowed.refl s
    · exact (((Windowed.refl _).quiet (State.count_quiet 12 _)).quiet (State.raise_quiet .groupOpen _)).from rfl
  · exact .same rfl

theorem State.testGroup_windowed (k : Nat) (s : State) : Windowed s (s.testGroup k) := by
  unfold State.testGroup
  dsimp only
  split
  · split
    · exact (State.strikeTest_windowed _ _ s).trans (State.openTest_windowed _ _ _)
    · exact Windowed.refl s
  · exact Windowed.refl s

theorem State.testGroups_windowed (ks : List Nat) (s : State) : Windowed s (ks.foldl (fun acc k => State.testGroup k acc) s) := by
  induction ks generalizing s with
  | nil => exact Windowed.refl s
  | cons k ks ih => exact (State.testGroup_windowed k s).trans (ih _)

theorem State.chooseGrant_windowed (c : Nat) (s : State) : Windowed s (s.chooseGrant c) := by
  have missed : ∀ s : State, Windowed s s.missedGrant := fun s => by
    unfold State.missedGrant
    split
    · exact ((Windowed.refl (s.applyGrant s.heater.applied .held (s.heater.missed + 1))).quiet (State.count_quiet 13 _)).from rfl
    · exact ((Windowed.refl (s.applyGrant s.fallbackGrant .fallback 3)).quiet (State.count_quiet 13 _)).from rfl
  unfold State.chooseGrant
  split
  · split
    · split
      · exact .same rfl
      · split
        · exact ((Windowed.refl (s.applyGrant _ .late 0)).quiet (State.count_quiet 14 _)).from rfl
        · exact missed s
    · exact missed s
  · exact .same rfl

theorem State.endCycleStart_windowed (s : State) : Windowed s s.endCycleStart := by
  refine ⟨rfl, List.length_map _, fun h => ?_⟩
  show (s.sense.onWins.map fun w => { w with count := 0 }).all OnWindow.fits = true
  simp only [List.all_map, Function.comp_apply, List.all_eq_true, OnWindow.fits, Bool.and_eq_true, decide_eq_true_eq] at h ⊢
  exact fun w hw => ⟨(h w hw).1, Nat.zero_le 255⟩

theorem State.heaterCycleStart_windowed (c : Nat) (s : State) : Windowed s (s.heaterCycleStart c) := by
  rw [State.heaterCycleStart_eq]
  have ht : Windowed s s.tested := (State.testGroups_windowed [0, 1, 2, 3] s).to (State.formR_sense _)
  have hd : Windowed s (s.tested.chooseGrant c).formDuty :=
    (ht.trans (State.chooseGrant_windowed c s.tested)).to (State.formDuty_sense _)
  exact (hd.trans (State.readSlot_windowed _)).trans (State.endCycleStart_windowed _)

theorem State.indexEntry_windowed (s : State) : Windowed s s.indexEntry := by
  unfold State.indexEntry
  split
  · rw [State.cycleStart_eq]
    exact ((State.heaterCycleStart_windowed s.line.cyc s.marked).to (State.ageSummary_eventful _).sense).from rfl
  · exact (State.readSlot_windowed s).to (State.indexWork_eventful _).sense

theorem State.realign_windowed (b : BeaconIn) (s : State) : Windowed s (s.realign b) := by
  unfold State.realign
  dsimp only
  split
  · exact (State.readSlot_windowed { s with line := _ }).from rfl
  · exact (State.indexEntry_windowed { s with line := _ }).from rfl

theorem State.takeBeacon_windowed (f : Frame) (s : State) : Windowed s (s.takeBeacon f) := by
  unfold State.takeBeacon
  split
  · rename_i b _
    refine Windowed.to ?_ (State.censusBeacon_eventful _ _).sense
    rcases s.supervisorBeacon_cases f.epoch b with e | ⟨_, _, e⟩ | ⟨_, _, _, _, e⟩ <;> rw [e]
    · exact Windowed.refl s
    · exact State.realign_windowed b s
    · exact (State.realign_windowed b s).to (State.acceptBeacon_eventful _ _).sense
  · exact Windowed.refl s

theorem State.cycleTick_windowed (s : State) : Windowed s s.cycleTick :=
  ((State.indexEntry_windowed { s with line := s.line.advance }).quiet (State.sendBeacon_quiet _)).from rfl

theorem State.slotBoundary_windowed (s : State) : Windowed s s.slotBoundary := by
  rcases s.slotBoundary_cases with e | ⟨tick, e⟩ <;> rw [e]
  · exact Windowed.refl s
  · exact (State.readSlot_windowed { s with line := _ }).from rfl

/-! ## Conversions (R152 to R154) -/

theorem pushCode_length (w : List Code) (c : Code) (h : w.length ≤ Config.windowCodes) :
    (pushCode w c).length ≤ Config.windowCodes ∧ (pushCode w c).isEmpty = false := by
  have h8 : Config.windowCodes = 8 := rfl
  rw [h8] at h ⊢
  unfold pushCode
  split <;> simp <;> omega

theorem Channel.take_fits {ch : Channel} (h : ch.fits = true) (c : Code) : (ch.take c).fits = true := by
  simp only [Channel.fits, Bool.and_eq_true, decide_eq_true_eq] at h ⊢
  obtain ⟨a, b⟩ := pushCode_length ch.window c h.1
  exact ⟨a, by rw [Channel.take, b]; rfl⟩

theorem OnWindow.take_fits {w : OnWindow} (h : w.fits = true) (c : Code) : (w.take c).fits = true := by
  unfold OnWindow.take
  split
  · simp only [OnWindow.fits, Bool.and_eq_true, decide_eq_true_eq] at h ⊢
    exact ⟨(pushCode_length _ c h.1).1, Nat.min_le_left ..⟩
  · exact h

/-- A tick of the running pacer keeps the converter fit (R152, R153). -/
theorem Sense.tick_fits {c : Sense} (h : c.Fits) : c.tick.Fits := by
  have hk := h.paced
  unfold Sense.paced at hk
  unfold Sense.tick
  split <;> rename_i hm <;> simp only [hm] at hk
  · exact h
  · exact ⟨h.channels, h.onWins, h.codes, h.wins, h.fifo, h.lost, by simp_all [Sense.paced]⟩
  · exact ⟨h.channels, h.onWins, h.codes, h.wins, h.fifo, h.lost, by simp_all [Sense.paced]⟩
  · split
    · exact ⟨h.channels, h.onWins, h.codes, h.wins, h.fifo, h.lost, by simp [Sense.paced, hm]⟩
    · exact h

theorem Sense.offerCapture_fits {c : Sense} (h : c.Fits) (e : Captured) : (c.offerCapture e).Fits := by
  unfold Sense.offerCapture
  split
  · split
    · exact ⟨h.channels, h.onWins, h.codes, h.wins, by rw [List.length_append]; exact ‹_›, h.lost, h.paced⟩
    · exact ⟨h.channels, h.onWins, h.codes, h.wins, h.fifo, Nat.min_le_left .., h.paced⟩
  · exact h

theorem Sense.endScan_fits {c : Sense} (h : c.Fits) (ch : Nat) : (c.endScan ch).Fits := by
  unfold Sense.endScan
  split
  · rename_i hm; exact ⟨h.channels, h.onWins, h.codes, h.wins, h.fifo, h.lost, by simp [Sense.paced, hm.1]⟩
  · exact h

theorem Sense.sample_fits {c : Sense} (h : c.Fits) (e : Captured) : (c.sample e).Fits := by
  unfold Sense.sample
  refine Sense.endScan_fits (Sense.offerCapture_fits ?_ e) e.channel
  exact ⟨by simpa using h.channels, by simpa using h.onWins, List.all_modify h.codes _ fun _ x => Channel.take_fits x _,
    List.all_modify h.wins _ fun _ x => OnWindow.take_fits x _, h.fifo, h.lost, h.paced⟩

theorem State.conversionDone_fits {s : State} (h : s.sense.Fits) (code : Code) : (s.conversionDone code).sense.Fits := by
  unfold State.conversionDone
  split
  · dsimp only
    split
    · rw [State.raise_sense]; exact Sense.sample_fits h _
    · exact Sense.sample_fits h _
  · exact h

theorem Sense.sampleRequest_fits {c : Sense} (h : c.Fits) : c.sampleRequest.2.Fits := by
  unfold Sense.sampleRequest
  split <;> rename_i hm
  · split
    · exact ⟨h.channels, h.onWins, h.codes, h.wins, h.fifo, h.lost, h.paced⟩
    · exact h
  · split
    · exact ⟨h.channels, h.onWins, h.codes, h.wins, h.fifo, h.lost, by simp [Sense.paced, hm]⟩
    · exact h
  · exact h
  · exact h

theorem Sense.startCapture_fits {c : Sense} (h : c.Fits) : c.startCapture.Fits := by
  unfold Sense.startCapture
  split
  · exact h
  · exact ⟨h.channels, h.onWins, h.codes, h.wins, Nat.zero_le _, Nat.zero_le _, h.paced⟩

/-- The settings of a request have a gain for each of the 8 channels (12.10). -/
theorem readSettings_gains {args : List Byte} {v : SenseSettings} (hl : args.length = 12) (h : readSettings args = some v) :
    v.gains.length = 8 := by
  unfold readSettings at h
  split at h
  · split at h
    · split at h
      · cases h
        simpa using hl
      · exact absurd h nofun
    · exact absurd h nofun
  · exact absurd h nofun

theorem Sense.change_fits {c : Sense} (h : c.Fits) {v : SenseSettings} (hv : v.gains.length = 8) : (c.change v).Fits := by
  have hp : (c.change v).paced = true := by
    unfold Sense.paced Sense.change
    cases hm : v.mode <;> simp
  have hs : (c.change v).onWins.length = 4 := (c.change_onWins v).trans h.onWins
  cases he : c.emptiedBy v
  · exact ⟨by simpa [Sense.change, he] using h.channels, hs, by simpa [Sense.change, he] using h.codes,
      by simpa [Sense.change, he] using h.wins, h.fifo, h.lost, hp⟩
  · exact ⟨by simpa [Sense.change, he] using hv, hs, by simp [Sense.change, he, Channel.fits],
      by simp [Sense.change, he, OnWindow.fits], h.fifo, h.lost, hp⟩

theorem State.changeSense_fits {s : State} (h : s.sense.Fits) {v : SenseSettings} (hv : v.gains.length = 8) :
    (s.changeSense v).sense.Fits := by
  rw [(s.changeSense_quiet v).sense]
  exact (State.setOutputs_windowed { s with
    sense := s.sense.change v
    heater := { s.heater with groups := cutFrom s.sense (s.sense.change v) 0 s.heater.groups } }).fits (Sense.change_fits h hv)

theorem State.clearGroupFault_windowed (k : Nat) (s : State) : Windowed s (State.clearGroupFault k s) := by
  unfold State.clearGroupFault
  split
  · exact Windowed.refl s
  · exact ⟨rfl, List.length_modify .., fun h => List.all_modify h _ fun _ _ => rfl⟩

theorem State.clearGroups_windowed (ks : List Nat) (s : State) :
    Windowed s (ks.foldl (fun acc k => State.clearGroupFault k acc) s) := by
  induction ks generalizing s with
  | nil => exact Windowed.refl s
  | cons k ks ih => exact (State.clearGroupFault_windowed k s).trans (ih _)

theorem State.applyHeat_windowed (old : HeatTable) (s : State) : Windowed s (s.applyHeat old) := by
  rw [State.applyHeat_eq]
  have h := State.setOutputs_windowed { s with
    heater := { s.heater with groups := moveGroupsFrom old s.mgmt.working.heat 0 s.heater.groups } }
  exact Windowed.from (h.to rfl) rfl

theorem State.switchTables_windowed (s : State) : Windowed s s.switchTables := by
  rw [State.switchTables_eq]
  refine Windowed.to (Windowed.to ?_ (State.applyEnds_eventful _ _).sense) (State.applyRole_eventful _ _).sense
  rw [State.applyArray_eq]
  refine (State.applyHeat_windowed _ _).from ((State.applyDoors_eventful _ _).sense.trans rfl)

theorem Sense.reset_fits {t : SenseTable} (h : t.gains.length = 8) : (Sense.reset t).Fits := by
  refine ⟨by simpa [Sense.reset] using h, rfl, by simp [Sense.reset, Channel.fits], rfl, Nat.zero_le _, Nat.zero_le _, ?_⟩
  unfold Sense.paced Sense.reset
  cases t.mode <;> simp

theorem Tables.sense_gains {t : Tables} (h : t.sound = true) : t.sense.gains.length = 8 := by
  simp only [Tables.sound, SenseTable.sound, Bool.and_eq_true, decide_eq_true_eq] at h
  exact h.2.1.2

theorem Effect.sense {s t : State} (e : Effect s t) (h : s.sense.Fits) : t.sense.Fits := by
  cases e with
  | routed r => rw [r.sense]; exact h
  | loaded name n vs => obtain ⟨g, k, e⟩ := s.loadFields_cases name n vs; rw [e]; exact h
  | switched _ => exact s.switchTables_windowed.fits h
  | settings args v hl hv => exact State.changeSense_fits h (readSettings_gains hl hv)
  | sampled => exact Sense.sampleRequest_fits h
  | captureOn => exact Sense.startCapture_fits h
  | captureOff => exact ⟨h.channels, h.onWins, h.codes, h.wins, h.fifo, h.lost, h.paced⟩
  | captureRead => exact ⟨h.channels, h.onWins, h.codes, h.wins, by rw [List.length_drop]; exact (Nat.sub_le _ _).trans h.fifo, h.lost, h.paced⟩
  | groups ks _ => exact ((State.clearGroups_windowed ks s).to rfl).fits h
  | recensus _ => rw [(s.startAttempt_eventful 0).sense]; exact h
  | stored | budget | restart => exact h

/-- Every command keeps tables and converter. -/
theorem sense_kept : Kept fun s => s.mgmt.TablesFit ∧ s.sense.Fits where
  routed r h := ⟨tables_kept.routed r h.1, by rw [r.sense]; exact h.2⟩
  event e s h := ⟨tables_kept.event e s h.1, by rw [(e.act_eventful s).sense]; exact h.2⟩
  beacon f s h := ⟨tables_kept.beacon f s h.1, (s.takeBeacon_windowed f).fits h.2⟩
  tick s h := ⟨tables_kept.tick s h.1, s.cycleTick_windowed.fits h.2⟩
  slot s h := ⟨tables_kept.slot s h.1, s.slotBoundary_windowed.fits h.2⟩
  demand b s h := by rw [State.takeDemand_mgmt, State.takeDemand_sense]; exact h
  demandHold s h := by rw [State.demandTimeout_mgmt, State.demandTimeout_sense]; exact h
  pacer s h := by
    refine ⟨tables_kept.pacer s h.1, ?_⟩
    unfold State.pacerTick
    split
    · exact Sense.tick_fits h.2
    · exact h.2
  conversion code s h := ⟨tables_kept.conversion code s h.1, State.conversionDone_fits h.2 code⟩
  effect e h := ⟨e.tables h.1, e.sense h.2⟩
  written image o tag s hw h := ⟨tables_kept.written image o tag s hw h.1, h.2⟩
  started pins keep ev s h := ⟨tables_kept.started pins keep ev s h.1, Sense.reset_fits (Tables.sense_gains (startTables_sound h.1))⟩
  lost s h := ⟨tables_kept.lost s h.1, (State.senseSound_iff State.reset).mp (by decide)⟩

theorem Sense.passMs_fits {c : Sense} (h : c.Fits) : c.passMs.Fits := by
  refine ⟨by simpa [Sense.passMs] using h.channels, h.onWins, ?_, h.wins, h.fifo, h.lost, ?_⟩
  · have := h.codes
    simpa [Sense.passMs, Channel.fits] using this
  · have := h.paced
    unfold Sense.paced Sense.passMs at *
    simpa [countdown] using this

theorem State.passMs_sense_fits {s : State} (h : s.sense.Fits) : s.passMs.sense.Fits := by
  unfold State.passMs
  split
  · exact Sense.passMs_fits h
  · exact h

end Sys2Proof.Machine
end

section
/-! PROOFS. What travels: the end units, the frames held for sending, the counters and the coach link stay sound under counting, raising and
sending. -/

namespace Sys2Proof.Machine

/-! ## The conditions -/

/-- What the node puts into the frames it makes stays in the ranges of the line frame (12.2). -/
structure State.InRange (s : State) : Prop where
  position : s.census.position ≤ 32
  epoch : s.census.epoch ≤ 255
  lastEpoch : s.census.lastEpoch ≤ 255
  recs : s.alloc.recs.length ≤ 32

theorem State.InRange.congr {s t : State} (h : s.InRange) (hc : t.census = s.census) (ha : t.alloc = s.alloc) : t.InRange :=
  ⟨hc ▸ h.position, hc ▸ h.epoch, hc ▸ h.lastEpoch, ha ▸ h.recs⟩

/-- A message has a payload of at most 72 bytes (12.6). -/
def Message.fits (m : Message) : Bool := decide (m.payload.length ≤ Config.maxMessagePayload)

theorem State.framesFit_iff (s : State) : s.framesFit = true ↔
    s.portA.framesFit = true ∧ s.portB.framesFit = true ∧ s.InRange ∧ s.link.rx.all Message.fits = true := by
  simp only [State.framesFit, Bool.and_eq_true, decide_eq_true_eq]
  constructor
  · rintro ⟨⟨⟨⟨⟨⟨h1, h2⟩, h3⟩, h4⟩, h5⟩, h6⟩, h7⟩; exact ⟨h1, h2, ⟨h3, h4, h5, h6⟩, h7⟩
  · rintro ⟨h1, h2, h3, h7⟩; exact ⟨⟨⟨⟨⟨⟨h1, h2⟩, h3.position⟩, h3.epoch⟩, h3.lastEpoch⟩, h3.recs⟩, h7⟩

theorem State.framesFit_inRange {s : State} (h : s.framesFit = true) : s.InRange := (s.framesFit_iff.mp h).2.2.1

/-- The messages of the transmit side have payloads of at most 72 bytes (12.6). -/
structure Link.MessagesFit (l : Link) : Prop where
  txQ : l.txQ.all Message.fits = true
  backlog : l.backlog.all Message.fits = true
  sending : ∀ m, l.sending = some m → m.fits = true

theorem State.messagesFit_iff (s : State) : s.messagesFit = true ↔ s.link.MessagesFit := by
  simp only [State.messagesFit, Bool.and_eq_true]
  constructor
  · rintro ⟨⟨h1, h2⟩, h3⟩; exact ⟨h1, h2, fun m hm => by rw [hm] at h3; exact h3⟩
  · intro h
    refine ⟨⟨h.txQ, h.backlog⟩, ?_⟩
    split
    · exact h.sending _ ‹_›
    · rfl

/-- The coach link within its limits, with `n` places reserved. -/
structure Link.Fits (n : Nat) (l : Link) : Prop where
  places : l.txQ.length + l.reserved ≤ Config.txPlaces
  reserved : l.reserved = n
  idle : l.sending = none → l.txQ = [] ∧ l.backlog = []
  backlog : l.backlog = [] ∨ l.txQ.length = Config.txPlaces
  rx : l.rx.length ≤ Config.rxBuffers

theorem State.linkSound_iff (s : State) : s.linkSound = true ↔ s.link.Fits s.mgmt.keptPlaces := by
  simp only [State.linkSound, Bool.and_eq_true, decide_eq_true_eq, Bool.or_eq_true, List.isEmpty_iff, Option.isSome_iff_ne_none]
  constructor
  · rintro ⟨⟨⟨⟨h1, h2⟩, h3⟩, h4⟩, h5⟩
    exact ⟨h1, h2, fun e => h3.resolve_left fun n => n e, h4, h5⟩
  · intro h
    refine ⟨⟨⟨⟨h.places, h.reserved⟩, ?_⟩, h.backlog⟩, h.rx⟩
    by_cases e : s.link.sending = none
    · exact .inr (h.idle e)
    · exact .inl e

/-- A counter in its range (R164). -/
def Counter.fits (c : Counter) : Bool := decide (c.recent ≤ 65535) && decide (c.wide ≤ 65535)

/-- The counter array of a size, its counters in range (R163, R164). -/
structure Events.Fits (size : Nat) (e : Events) : Prop where
  size : e.counters.length = size
  counters : e.counters.all Counter.fits = true
  exceptions : e.exceptions ≤ 4294967295

theorem State.eventsSound_iff (s : State) : s.eventsSound = true ↔ s.events.Fits s.mgmt.working.coach.arraySize := by
  simp only [State.eventsSound, Bool.and_eq_true, decide_eq_true_eq]
  exact ⟨fun ⟨⟨h1, h2⟩, h3⟩ => ⟨h1, h2, h3⟩, fun h => ⟨⟨h.size, h.counters⟩, h.exceptions⟩⟩

/-! ## Carrying -/

/-- End units, frames, counters and coach link stay sound, where `a` places beside those of a STORE are reserved before and `b` after;
the frames where `q` holds. -/
structure Carries (a b : Nat) (s t : State) (q : Prop := True) : Prop where
  ports : s.portsSound = true → t.portsSound = true
  frames : q → s.framesFit = true → t.framesFit = true
  events : s.eventsSound = true → t.eventsSound = true
  messages : s.link.MessagesFit → t.link.MessagesFit
  link : ∀ r, s.link.Fits (s.mgmt.keptPlaces + (r + a)) → t.link.Fits (t.mgmt.keptPlaces + (r + b))

/-- End units, frames, counters and coach link stay sound. -/
abbrev Sends (s t : State) : Prop := Carries 0 0 s t

theorem Carries.refl (a : Nat) (s : State) : Carries a a s s := ⟨id, fun _ => id, id, id, fun _ => id⟩

theorem Sends.refl (s : State) : Sends s s := Carries.refl 0 s

/-- What holds of the frames in any case holds where `q` does. -/
theorem Carries.given {a b : Nat} {s t : State} (h : Carries a b s t) (q : Prop) : Carries a b s t q :=
  ⟨h.ports, fun _ => h.frames trivial, h.events, h.messages, h.link⟩

/-- What holds of the frames where `q` does holds where frames in range give `q`. -/
theorem Carries.discharge {a b : Nat} {s t : State} {q : Prop} (h : Carries a b s t q) (hq : s.framesFit = true → q) : Carries a b s t :=
  ⟨h.ports, fun _ x => h.frames (hq x) x, h.events, h.messages, h.link⟩

theorem Carries.trans {a b c : Nat} {s t u : State} {q : Prop} (h : Carries a b s t q) (k : Carries b c t u q) : Carries a c s u q :=
  ⟨fun x => k.ports (h.ports x), fun y x => k.frames y (h.frames y x), fun x => k.events (h.events x), fun x => k.messages (h.messages x),
    fun r x => k.link r (h.link r x)⟩

/-- Places reserved besides do no harm. -/
theorem Carries.more {a b : Nat} {s t : State} (h : Carries a b s t) (n : Nat) : Carries (n + a) (n + b) s t :=
  ⟨h.ports, h.frames, h.events, h.messages, fun r x => by
    have := h.link (r + n) (by rw [Nat.add_assoc]; exact x)
    rwa [Nat.add_assoc] at this⟩

theorem Sends.with {s t : State} (h : Sends s t) (n : Nat) : Carries n n s t := h.more n

theorem Sends.ite {c : Prop} [Decidable c] {s t u : State} (ht : Sends s t) (hu : Sends s u) : Sends s (if c then t else u) := by
  split
  · exact ht
  · exact hu

/-- Ports, counters, coach link and what the conditions read of the management unit have not changed. -/
structure Idle (s t : State) : Prop where
  portA : t.portA = s.portA
  portB : t.portB = s.portB
  events : t.events = s.events
  link : t.link = s.link
  kept : t.mgmt.keptPlaces = s.mgmt.keptPlaces
  size : t.mgmt.working.coach.arraySize = s.mgmt.working.coach.arraySize
  range : s.InRange → t.InRange

theorem Idle.same {s t : State} (hA : t.portA = s.portA := by rfl) (hB : t.portB = s.portB := by rfl)
    (he : t.events = s.events := by rfl) (hl : t.link = s.link := by rfl) (hm : t.mgmt = s.mgmt := by rfl)
    (hc : t.census = s.census := by rfl) (ha : t.alloc = s.alloc := by rfl) : Idle s t :=
  ⟨hA, hB, he, hl, by rw [hm], by rw [hm], fun h => h.congr hc ha⟩

theorem Idle.trans {s t u : State} (h : Idle s t) (k : Idle t u) : Idle s u :=
  ⟨k.portA.trans h.portA, k.portB.trans h.portB, k.events.trans h.events, k.link.trans h.link, k.kept.trans h.kept, k.size.trans h.size,
    fun x => k.range (h.range x)⟩

theorem Idle.sends {s t : State} (i : Idle s t) : Sends s t := by
  refine ⟨fun h => ?_, fun _ h => ?_, fun h => ?_, fun h => ?_, fun r h => ?_⟩
  · unfold State.portsSound; rw [i.portA, i.portB]; exact h
  · rw [State.framesFit_iff] at h ⊢
    rw [i.portA, i.portB, i.link]; exact ⟨h.1, h.2.1, i.range h.2.2.1, h.2.2.2⟩
  · rw [State.eventsSound_iff] at h ⊢
    rw [i.events, i.size]; exact h
  · rw [i.link]; exact h
  · rw [i.link, i.kept]; exact h

theorem Carries.from {a b : Nat} {s t u : State} (k : Carries a b t u) (i : Idle s t) : Carries a b s u := (i.sends.with a).trans k

theorem Carries.to {a b : Nat} {s t u : State} (k : Carries a b s t) (i : Idle t u) : Carries a b s u := k.trans (i.sends.with b)

/-! ## Ports and queues -/

/-- An end unit is sound but for frames queued behind an idle transmitter. -/
structure LinePort.Held (x : LinePort) : Prop where
  parted : x.pilot = .parted → x.good = 0 ∧ x.bad = 0
  mating : x.pilot = .mating → 1 ≤ x.good ∧ x.good ≤ 19 ∧ x.bad = 0
  mated : x.pilot = .mated → x.good = 0 ∧ x.bad ≤ 4
  empty : x.pilot ≠ .mated → x.tx = none ∧ x.rx = none ∧ x.urgentQ = [] ∧ x.normalQ = []
  urgent : x.urgentQ.length ≤ Config.urgentCapacity
  normal : x.normalQ.length ≤ Config.normalCapacity
  edges : x.edges = 0

theorem LinePort.sound_iff (x : LinePort) : x.sound = true ↔ x.Held ∧ (x.tx = none → x.urgentQ = [] ∧ x.normalQ = []) := by
  simp only [LinePort.sound, Bool.and_eq_true, Bool.or_eq_true, decide_eq_true_eq, List.isEmpty_iff, Option.isNone_iff_eq_none,
    Option.isSome_iff_ne_none]
  constructor
  · rintro ⟨⟨⟨⟨⟨h1, h2⟩, h3⟩, h4⟩, h5⟩, h6⟩
    refine ⟨⟨fun e => ?_, fun e => ?_, fun e => ?_, fun e => ?_, h4, h5, h6⟩, fun e => h3.resolve_left fun n => n e⟩
    · simpa [e] using h1
    · simpa [e, and_assoc] using h1
    · simpa [e] using h1
    · simpa [and_assoc] using h2.resolve_left e
  · rintro ⟨h, hi⟩
    refine ⟨⟨⟨⟨⟨?_, ?_⟩, ?_⟩, h.urgent⟩, h.normal⟩, h.edges⟩
    · split <;> rename_i e
      · simpa using h.parted e
      · simpa [and_assoc] using h.mating e
      · simpa using h.mated e
    · by_cases e : x.pilot = .mated
      · exact .inl e
      · obtain ⟨a, b, c, d⟩ := h.empty e; exact .inr ⟨⟨⟨a, b⟩, c⟩, d⟩
    · by_cases e : x.tx = none
      · exact .inr (hi e)
      · exact .inl e

theorem LinePort.framesFit_iff (x : LinePort) : x.framesFit = true ↔
    (∀ f, x.tx = some f → f.wellFormed = true) ∧ x.urgentQ.all Frame.wellFormed = true ∧ x.normalQ.all Frame.wellFormed = true := by
  simp only [LinePort.framesFit, Bool.and_eq_true]
  constructor
  · rintro ⟨⟨h1, h2⟩, h3⟩; exact ⟨fun f hf => by rw [hf] at h1; exact h1, h2, h3⟩
  · rintro ⟨h1, h2, h3⟩
    refine ⟨⟨?_, h2⟩, h3⟩
    split
    · exact h1 _ ‹_›
    · rfl

/-- Once an idle transmitter has taken the next frame, nothing waits behind an idle one (R28). -/
theorem LinePort.takeNext_sound {x : LinePort} (h : x.Held) : x.takeNext.sound = true := by
  rw [LinePort.sound_iff]
  unfold LinePort.takeNext
  by_cases hc : x.pilot = .mated ∧ x.tx = none
  · rw [if_pos hc]
    split
    · rename_i f q _ hu
      have hq := h.urgent
      rw [hu] at hq
      exact ⟨⟨h.parted, h.mating, h.mated, fun e => absurd hc.1 e, Nat.le_of_succ_le hq, h.normal, h.edges⟩, fun e => by cases e⟩
    · rename_i f q hu hn
      have hq := h.normal
      rw [hn] at hq
      exact ⟨⟨h.parted, h.mating, h.mated, fun e => absurd hc.1 e, h.urgent, Nat.le_of_succ_le hq, h.edges⟩, fun e => by cases e⟩
    · exact ⟨h, fun _ => ⟨‹_›, ‹_›⟩⟩
  · rw [if_neg hc]
    refine ⟨h, fun e => ?_⟩
    obtain ⟨_, _, c, d⟩ := h.empty fun m => hc ⟨m, e⟩
    exact ⟨c, d⟩

theorem LinePort.takeNext_framesFit {x : LinePort} (h : x.framesFit = true) : x.takeNext.framesFit = true := by
  rw [LinePort.framesFit_iff] at h ⊢
  obtain ⟨ht, hu, hn⟩ := h
  rcases x.takeNext_cases with e | ⟨_, _, f, q, hq, e⟩ | ⟨_, _, _, f, q, hq, e⟩ <;> rw [e]
  · exact ⟨ht, hu, hn⟩
  · simp only [hq, List.all_cons, Bool.and_eq_true] at hu
    exact ⟨fun g hg => by cases hg; exact hu.1, hu.2, hn⟩
  · simp only [hq, List.all_cons, Bool.and_eq_true] at hn
    exact ⟨fun g hg => by cases hg; exact hn.1, hu, hn.2⟩

theorem LinePort.enqueue_sound {x y : LinePort} {u : Bool} {f : Frame} (hm : x.pilot = .mated) (h : x.sound = true)
    (he : x.enqueue u f = some y) : y.sound = true := by
  obtain ⟨h, _⟩ := x.sound_iff.mp h
  unfold LinePort.enqueue at he
  split at he <;> split at he <;> simp only [Option.some.injEq, reduceCtorEq] at he <;> subst he
  · exact LinePort.takeNext_sound
      ⟨h.parted, h.mating, h.mated, fun e => absurd hm e, by rw [List.length_append]; exact ‹_›, h.normal, h.edges⟩
  · exact LinePort.takeNext_sound
      ⟨h.parted, h.mating, h.mated, fun e => absurd hm e, h.urgent, by rw [List.length_append]; exact ‹_›, h.edges⟩

theorem List.all_snoc {α : Type} {p : α → Bool} {l : List α} {a : α} (h : l.all p = true) (ha : p a = true) :
    (l ++ [a]).all p = true := by
  simp only [List.all_append, h, List.all_cons, ha, List.all_nil, Bool.and_self]

theorem LinePort.enqueue_framesFit {x y : LinePort} {u : Bool} {f : Frame} (h : x.framesFit = true) (hf : f.wellFormed = true)
    (he : x.enqueue u f = some y) : y.framesFit = true := by
  obtain ⟨ht, hu, hn⟩ := x.framesFit_iff.mp h
  unfold LinePort.enqueue at he
  split at he <;> split at he <;> simp only [Option.some.injEq, reduceCtorEq] at he <;> subst he
  · exact LinePort.takeNext_framesFit ((LinePort.framesFit_iff _).mpr ⟨ht, List.all_snoc hu hf, hn⟩)
  · exact LinePort.takeNext_framesFit ((LinePort.framesFit_iff _).mpr ⟨ht, hu, List.all_snoc hn hf⟩)

theorem State.portsSound_port {s : State} (h : s.portsSound = true) (p : Port) : (s.port p).sound = true := by
  simp only [State.portsSound, Bool.and_eq_true] at h
  cases p
  · exact h.1
  · exact h.2

theorem State.framesFit_port {s : State} (h : s.framesFit = true) (p : Port) : (s.port p).framesFit = true := by
  rw [State.framesFit_iff] at h
  cases p
  · exact h.1
  · exact h.2.1

/-- One port has changed and is sound as the port was. -/
theorem Sends.setPort {s : State} {p : Port} {x : LinePort} {q : Prop} (hp : (s.port p).sound = true → x.sound = true)
    (hf : q → s.framesFit = true → x.framesFit = true) : Carries 0 0 s (s.setPort p x) q := by
  refine ⟨fun h => ?_, fun y h => ?_, fun h => ?_, fun h => ?_, fun r h => ?_⟩
  · have hx := hp (State.portsSound_port h p)
    simp only [State.portsSound, Bool.and_eq_true] at h ⊢
    cases p
    · exact ⟨hx, h.2⟩
    · exact ⟨h.1, hx⟩
  · have hx := hf y h
    rw [State.framesFit_iff] at h ⊢
    obtain ⟨a, b, c, d⟩ := h
    cases p
    · exact ⟨hx, b, ⟨c.position, c.epoch, c.lastEpoch, c.recs⟩, d⟩
    · exact ⟨a, hx, ⟨c.position, c.epoch, c.lastEpoch, c.recs⟩, d⟩
  · cases p <;> exact h
  · cases p <;> exact h
  · cases p <;> exact h

/-! ## Counting, sending and raising -/

theorem Counter.up_fits {c : Counter} (h : c.fits = true) : c.up.fits = true := by
  simp only [Counter.fits, Bool.and_eq_true, decide_eq_true_eq] at h ⊢
  unfold Counter.up
  split
  · exact ⟨Nat.zero_le _, Nat.le_of_lt_succ (Nat.mod_lt _ (by decide))⟩
  · dsimp only; omega

theorem Events.bump_fits {n : Nat} {e : Events} (h : e.Fits n) (c : Nat) : (e.bump c).Fits n := by
  unfold Events.bump
  split
  · exact ⟨(List.length_modify ..).trans h.size, List.all_modify h.counters _ fun _ x => Counter.up_fits x, h.exceptions⟩
  · exact ⟨h.size, h.counters, Nat.le_of_lt_succ (Nat.mod_lt _ (by decide))⟩

/-- The counters alone have changed, and fit as they did. -/
theorem Sends.events {s : State} {e : Events} (h : ∀ n, s.events.Fits n → e.Fits n) : Sends s { s with events := e } :=
  ⟨id, fun _ => id, fun x => (State.eventsSound_iff _).mpr (h _ (s.eventsSound_iff.mp x)), id, fun _ => id⟩

/-- The coach link alone has changed: it fits with `b` places besides where it fitted with `a`. -/
theorem Carries.ofLink {a b : Nat} {s : State} {l : Link} (h : ∀ r, s.link.Fits (r + a) → l.Fits (r + b))
    (hm : s.link.MessagesFit → l.MessagesFit) (hr : s.link.rx.all Message.fits = true → l.rx.all Message.fits = true) :
    Carries a b s { s with link := l } := by
  refine ⟨id, fun _ x => ?_, id, hm, fun r x => ?_⟩
  · rw [State.framesFit_iff] at x ⊢
    exact ⟨x.1, x.2.1, x.2.2.1.congr rfl rfl, hr x.2.2.2⟩
  · have := h (s.mgmt.keptPlaces + r) (by rw [Nat.add_assoc]; exact x)
    rwa [Nat.add_assoc] at this

variable {count : Nat → State → State}

theorem State.offer_sends (hc : ∀ c s, Sends s (count c s)) {p : Port} {u : Bool} {f : Frame} {s : State} {q : Prop} (hm : s.mated p = true)
    (hf : q → s.InRange → f.wellFormed = true) : Carries 0 0 s (s.offer count p u f) q := by
  have hm' : (s.port p).pilot = .mated := by simpa [State.mated] using hm
  unfold State.offer
  split
  · rename_i h
    exact Sends.setPort (fun x => LinePort.enqueue_sound hm' x h)
      fun y x => LinePort.enqueue_framesFit (State.framesFit_port x p) (hf y (State.framesFit_inRange x)) h
  · exact (hc _ _).given q

theorem State.sendOne_sends (hc : ∀ c s, Sends s (count c s)) (p : Port) (u : Bool) {f : Frame} {s : State} {q : Prop}
    (hf : q → s.InRange → f.wellFormed = true) : Carries 0 0 s (s.sendOne count p u f) q := by
  unfold State.sendOne
  split
  · rename_i h; exact State.offer_sends hc h hf
  · split
    · exact (Sends.refl s).given q
    · exact (hc _ _).given q

theorem State.sendCopy_sends (hc : ∀ c s, Sends s (count c s)) (p : Port) (u : Bool) {f : Frame} {s : State} {q : Prop}
    (hf : q → s.InRange → f.wellFormed = true) : Carries 0 0 s (s.sendCopy count p u f) q := by
  unfold State.sendCopy
  split
  · rename_i h; exact State.offer_sends hc h hf
  · exact (Sends.refl s).given q

/-- What a block gives the relay unit makes a frame in range (12.2). -/
structure Sending.Fits (m : Sending) : Prop where
  cls : m.cls ≤ 31
  epoch : m.epoch ≤ 255
  payload : m.payload.length ≤ 264
  position : m.destKind = .position → 1 ≤ m.destVal.toNat ∧ m.destVal.toNat ≤ 32

theorem State.complete_wellFormed {s : State} {m : Sending} (hm : m.Fits) (h : s.InRange) : (s.complete m).wellFormed = true := by
  have hp : s.shownPosition ≤ 32 := by
    unfold State.shownPosition
    split
    · exact h.position
    · exact Nat.zero_le _
  simp only [Frame.wellFormed, Bool.and_eq_true, decide_eq_true_eq, Bool.or_eq_true, bne_iff_ne]
  refine ⟨⟨⟨⟨⟨hm.cls, Nat.zero_le _⟩, hm.epoch⟩, hp⟩, hm.payload⟩, ?_⟩
  by_cases e : m.destKind = .position
  · exact .inr (hm.position e)
  · exact .inl e

theorem State.originateWith_sends (hc : ∀ c s, Sends s (count c s)) (hq : ∀ c s, Quiet s (count c s)) {m : Sending} (l : Leave) {s : State}
    (hm : s.InRange → m.Fits) : Sends s (s.originateWith count m l) := by
  have hf : True → s.InRange → (s.complete m).wellFormed = true := fun _ h => State.complete_wellFormed (hm h) h
  unfold State.originateWith
  split
  · exact Sends.refl s
  · dsimp only
    split
    · exact State.sendOne_sends hc _ _ hf
    · refine (State.sendCopy_sends hc _ _ hf).trans (State.sendCopy_sends hc _ _ fun y h => hf y ?_)
      have q := State.sendCopy_quiet hq (s.endPort .one) (s.complete m).urgent (s.complete m) s
      exact h.congr q.census.symm q.alloc.symm

/-- What the oldest message leaves as it begins (R179, R180). -/
theorem Link.start_cases (l : Link) :
    (l.start = l ∧ (l.sending ≠ none ∨ l.txQ = []))
      ∨ (∃ m q, l.sending = none ∧ l.txQ = m :: q ∧ l.backlog = [] ∧ l.start = { l with sending := some m, txQ := q })
      ∨ (∃ m q b bs, l.sending = none ∧ l.txQ = m :: q ∧ l.backlog = b :: bs
          ∧ l.start = { l with sending := some m, txQ := q ++ [b], backlog := bs }) := by
  unfold Link.start
  split
  · rename_i m q hs hq
    split
    · exact .inr (.inl ⟨m, q, hs, hq, ‹_›, rfl⟩)
    · exact .inr (.inr ⟨m, q, _, _, hs, hq, ‹_›, rfl⟩)
  · rename_i h
    refine .inl ⟨rfl, ?_⟩
    by_cases hs : l.sending = none
    · cases hq : l.txQ with
      | nil => exact .inr rfl
      | cons m q => exact absurd hq (h m q hs)
    · exact .inl hs

theorem Link.start_messagesFit {l : Link} (h : l.MessagesFit) : l.start.MessagesFit := by
  obtain ⟨hq, hb, hs⟩ := h
  rcases l.start_cases with ⟨e, _⟩ | ⟨m, q, _, eq, _, e⟩ | ⟨m, q, b, bs, _, eq, eb, e⟩ <;> rw [e]
  · exact ⟨hq, hb, hs⟩
  · simp only [eq, List.all_cons, Bool.and_eq_true] at hq
    exact ⟨hq.2, hb, fun x hx => by cases hx; exact hq.1⟩
  · simp only [eq, eb, List.all_cons, Bool.and_eq_true] at hq hb
    exact ⟨List.all_snoc hq.2 hb.1, hb.2, fun x hx => by cases hx; exact hq.1⟩

/-- The coach link fits once the oldest message has begun, where parts wait behind a full queue alone. -/
theorem Link.start_fits {n : Nat} {l : Link} (hp : l.txQ.length + l.reserved ≤ Config.txPlaces) (hr : l.reserved = n)
    (hb : l.backlog = [] ∨ l.txQ.length = Config.txPlaces) (hx : l.rx.length ≤ Config.rxBuffers) : l.start.Fits n := by
  have h8 : Config.txPlaces = 8 := rfl
  rcases l.start_cases with ⟨e, hs⟩ | ⟨m, q, _, eq, eb, e⟩ | ⟨m, q, b, bs, _, eq, eb, e⟩ <;> rw [e]
  · refine ⟨hp, hr, fun x => ?_, hb, hx⟩
    have hq : l.txQ = [] := hs.resolve_left fun y => y x
    exact ⟨hq, hb.resolve_right (by simp [hq, h8])⟩
  · rw [eq] at hp
    simp only [List.length_cons] at hp
    exact ⟨by dsimp only; omega, hr, fun x => (by cases x), .inl eb, hx⟩
  · have hf := hb.resolve_left (by simp [eb])
    rw [eq] at hp hf
    simp only [List.length_cons] at hp hf
    refine ⟨?_, hr, fun x => (by cases x), .inr ?_, hx⟩ <;> simp only [List.length_append, List.length_singleton] <;> omega

theorem Link.free_pos {n : Nat} {l : Link} (h : l.Fits n) (hf : 0 < l.free) :
    l.txQ.length + l.reserved < Config.txPlaces ∧ l.backlog = [] := by
  have h8 : Config.txPlaces = 8 := rfl
  unfold Link.free at hf
  refine ⟨by omega, h.backlog.resolve_right ?_⟩
  omega

theorem State.offerMessage_sends (hc : ∀ c s, Sends s (count c s)) {m : Message} (hm : m.fits = true) (s : State) :
    Sends s (s.offerMessage count m) := by
  unfold State.offerMessage
  split
  · rename_i hf
    refine Carries.ofLink (fun r h => ?_) (fun h => Link.start_messagesFit ⟨List.all_snoc h.txQ hm, h.backlog, h.sending⟩)
      (fun h => by rw [Link.enter, (Link.start_keeps _).2.1]; exact h)
    obtain ⟨hp, hb⟩ := Link.free_pos h hf
    exact Link.start_fits (by simp only [List.length_append, List.length_singleton]; omega) h.reserved (.inl hb) h.rx
  · exact hc _ _

theorem State.noticeMessage_fits (f : Flag) (s : State) : (s.noticeMessage f).fits = true := rfl

theorem State.noticeSending_fits (f : Flag) {s : State} (h : s.InRange) : (s.noticeSending f).Fits := by
  refine ⟨show 11 ≤ 31 by decide, ?_, show 4 ≤ 264 by decide, fun e => by cases e⟩
  show s.shownEpoch ≤ 255
  unfold State.shownEpoch
  split
  · exact h.epoch
  · exact Nat.zero_le _

theorem State.sendNotice_sends (hc : ∀ c s, Sends s (count c s)) (hq : ∀ c s, Quiet s (count c s)) (f : Flag) (s : State) :
    Sends s (s.sendNotice count f) := by
  have hm := State.offerMessage_sends hc (s.noticeMessage_fits f) s
  have q := State.offerMessage_quiet hq (s.noticeMessage f) s
  unfold State.sendNotice
  dsimp only
  split
  · exact hm
  · exact hm.trans (State.originateWith_sends hc hq _ fun h =>
      State.noticeSending_fits f (h.congr q.census.symm q.alloc.symm))

theorem State.setFlag_sends (f : Flag) (s : State) : Sends s (s.setFlag f) := (Idle.same (s := s) (t := s.setFlag f)).sends

theorem State.countWith_sends {raise : Flag → State → State} (hr : ∀ f s, Sends s (raise f s)) (c : Nat) (s : State) :
    Sends s (State.countWith raise c s) := by
  have h0 : Sends s { s with events := s.events.bump c } := Sends.events fun _ h => Events.bump_fits h c
  have hone : ∀ (d : Prop) [Decidable d] (f : Flag) (t : State), Sends t (if d then t else raise f t) := fun d _ f t => by
    split
    · exact Sends.refl t
    · exact hr f t
  have htwo : ∀ (d : Prop) [Decidable d] (f : Flag) (t : State), Sends t (if d then raise f t else t) := fun d _ f t => by
    split
    · exact hr f t
    · exact Sends.refl t
  exact (h0.trans (hone _ _ _)).trans (htwo _ _ _)

theorem State.raiseFuel_sends : ∀ (n : Nat) (f : Flag) (s : State), Sends s (State.raiseFuel n f s)
  | 0, f, s => State.setFlag_sends f s
  | n + 1, f, s => by
    unfold State.raiseFuel
    split
    · exact Sends.refl s
    · split
      · exact (State.setFlag_sends f s).trans (State.sendNotice_sends (fun c s => State.countWith_sends (State.raiseFuel_sends n) c s)
          (fun c s => State.countWith_quiet (State.raiseFuel_quiet n) c s) f _)
      · exact State.setFlag_sends f s

theorem State.raise_sends (f : Flag) (s : State) : Sends s (s.raise f) := State.raiseFuel_sends 3 f s

theorem State.count_sends (c : Nat) (s : State) : Sends s (s.count c) := State.countWith_sends State.raise_sends c s

theorem State.countTimes_sends : ∀ (n c : Nat) (s : State), Sends s (State.countTimes n c s)
  | 0, _, s => Sends.refl s
  | n + 1, c, s => (State.count_sends c s).trans (State.countTimes_sends n c _)

theorem State.originate_sends {m : Sending} (l : Leave) {s : State} (hm : s.InRange → m.Fits) : Sends s (s.originate m l) :=
  State.originateWith_sends State.count_sends State.count_quiet l hm

theorem State.pushMessage_sends {m : Message} (hm : m.fits = true) (s : State) : Sends s (s.pushMessage m) :=
  State.offerMessage_sends State.count_sends hm s

theorem State.seeTopology_sends (s : State) : Sends s s.seeTopology := (State.count_sends 6 s).trans (State.raise_sends _ _)

theorem State.toLead_sends {m : Sending} {s : State} (hm : s.InRange → m.Fits) : Sends s (s.toLead m) := by
  unfold State.toLead
  split
  · exact State.originate_sends _ hm
  · exact Sends.refl s

theorem State.sendTopologyChange_sends (k : TopologyKind) (s : State) : Sends s (s.sendTopologyChange k) := by
  have hm : s.InRange → Sending.Fits { cls := 3, dir := .toward, epoch := if s.hasTable then s.census.epoch else 0, destKind := .lead
                                       destVal := 0, payload := [byte k.code] } := fun h => by
    refine ⟨show 3 ≤ 31 by decide, ?_, show 1 ≤ 264 by decide, fun e => by cases e⟩
    dsimp only
    split
    · exact h.epoch
    · exact Nat.zero_le _
  unfold State.sendTopologyChange
  dsimp only
  split
  · split
    · exact State.originate_sends _ hm
    · exact State.originate_sends _ hm
  · exact State.originate_sends _ hm

theorem State.topologyReport_sends (k : TopologyKind) (s : State) : Sends s (s.seeTopology.sendTopologyChange k) :=
  s.seeTopology_sends.trans (State.sendTopologyChange_sends k _)

theorem State.countClass_sends (cls : Nat) (s : State) : Sends s (s.countClass cls) := by
  unfold State.countClass
  split
  · exact State.count_sends _ _
  · exact Sends.refl s

end Sys2Proof.Machine
end

section
/-! PROOFS. What travels stays sound at every event of the doors, the line, the census and the heating. -/

namespace Sys2Proof.Machine

/-! ## Doors -/

theorem State.changeSide_idle (sd : Side) (f : DoorSide → DoorSide) (s : State) : Idle s (s.changeSide sd f) := by
  cases sd <;> exact Idle.same

theorem State.recordDoors_idle (pos : Nat) (a b : SideReport) (p : Bool) (s : State) : Idle s (s.recordDoors pos a b p) := Idle.same

theorem State.doorStateSending_fits {s : State} (h : s.InRange) : s.doorStateSending.Fits :=
  ⟨show 6 ≤ 31 by decide, h.epoch, show 13 ≤ 264 by decide, fun e => by cases e⟩

theorem State.doorStateWork_sends (s : State) : Sends s s.doorStateWork := by
  unfold State.doorStateWork
  split
  · split
    · exact (State.recordDoors_idle _ _ _ _ s).sends
    · exact State.toLead_sends State.doorStateSending_fits
  · exact Sends.refl s

theorem State.afterSides_sends (before : Doors) (s : State) : Sends s (s.afterSides before) := by
  unfold State.afterSides
  split
  · exact Sends.refl s
  · exact (State.doorStateWork_sends s.formDerate).from Idle.same

theorem State.withdrawBoth_sends (c : Cause) (s : State) : Sends s (s.withdrawBoth c) := by
  rw [State.withdrawBoth_eq]
  exact (State.afterSides_sends s.doors _).from Idle.same

theorem State.withdrawSide_sends (sd : Side) (c : Cause) (s : State) : Sends s (s.withdrawSide sd c) :=
  (State.afterSides_sends s.doors _).from (State.changeSide_idle _ _ s)

/-- A counted event with its condition, and what follows it. -/
theorem State.alarm_sends (c : Nat) (f : Flag) (s : State) : Sends s ((s.count c).raise f) :=
  (State.count_sends c s).trans (State.raise_sends f _)

theorem State.takeOrder_sends (o : OrderIn) (s : State) : Sends s (s.takeOrder o).2 := by
  rcases s.takeOrder_cases o with h | ⟨sd, a, _, h⟩ | ⟨sd, a, _, h⟩ <;> rw [h]
  · exact Sends.refl s
  · exact (State.alarm_sends 8 .doorRefused _).from (State.changeSide_idle _ _ s)
  · exact (State.afterSides_sends s.doors _).from (State.changeSide_idle _ _ s)

theorem State.takeOrder_census (o : OrderIn) (s : State) : (s.takeOrder o).2.census = s.census := by
  rcases s.takeOrder_cases o with h | ⟨sd, a, _, h⟩ | ⟨sd, a, _, h⟩ <;> rw [h]
  · simp [State.refuseOrder]
  · simp [State.acceptOrder]

theorem State.loopChange_sends (sd : Side) (made : Bool) (s : State) : Sends s (s.loopChange sd made) := by
  unfold State.loopChange
  dsimp only
  split
  · exact Sends.refl s
  · refine Carries.trans ?_ (State.afterSides_sends s.doors _)
    split
    · exact (State.alarm_sends 10 .doorForced _).from (State.changeSide_idle _ _ s)
    · exact (State.changeSide_idle _ _ s).sends

theorem State.releaseTimeout_sends (sd : Side) (s : State) : Sends s (s.releaseTimeout sd) := by
  unfold State.releaseTimeout
  dsimp only
  split
  · exact State.withdrawSide_sends _ _ s
  · exact Sends.refl s

theorem State.warningTimeout_sends (sd : Side) (s : State) : Sends s (s.warningTimeout sd) := by
  unfold State.warningTimeout
  dsimp only
  split
  · exact (State.afterSides_sends s.doors _).from (State.changeSide_idle _ _ s)
  · exact Sends.refl s

theorem State.closeTimeout_sends (sd : Side) (s : State) : Sends s (s.closeTimeout sd) := by
  unfold State.closeTimeout
  dsimp only
  split
  · exact ((State.alarm_sends 9 .doorFault _).trans (State.afterSides_sends s.doors _)).from (State.changeSide_idle _ _ s)
  · exact Sends.refl s

theorem State.takeDoorReport_sends (p : List Byte) (s : State) : Sends s (s.takeDoorReport p) := by
  unfold State.takeDoorReport
  split
  · split
    · exact ((State.changeSide_idle _ _ s).trans (State.changeSide_idle _ _ _)).sends
    · exact State.count_sends _ _
  · exact State.count_sends _ _

theorem doorReply_fits (st : Status) (why : CommandReason) {more : List Byte} (h : more.length ≤ 66) : (doorReply st why more).fits = true :=
  decide_eq_true (show more.length + 6 ≤ 72 by omega)

theorem State.takeDoorCommand_sends (p : List Byte) (s : State) : Sends s (s.takeDoorCommand p) := by
  rcases s.takeDoorCommand_cases p with ⟨st, why, h⟩ | ⟨side, a, f, l, _, h⟩ <;> rw [h]
  · exact State.pushMessage_sends (doorReply_fits st why (Nat.zero_le _)) s
  · refine ((State.takeOrder_sends _ s).trans (State.originate_sends _ fun hr => ?_)).trans
      (State.pushMessage_sends (doorReply_fits .ok .none (more := [_, _, _, _]) (by simp)) _)
    have he := hr.epoch
    rw [State.takeOrder_census] at he
    exact ⟨show 5 ≤ 31 by decide, he, show 5 ≤ 264 by decide, fun e => by cases e⟩

theorem State.applyDoors_sends (old : DoorTable) (s : State) : Sends s (s.applyDoors old) := by
  unfold State.applyDoors
  exact (State.afterSides_sends s.doors _).from Idle.same

/-! ## The line -/

theorem State.formPermit_sends (s : State) : Sends s s.formPermit := by
  rcases s.formPermit_cases with ⟨_, _, e⟩ | ⟨_, e⟩ <;> rw [e]
  · exact (State.withdrawBoth_sends .zeroSpeedLost _).from Idle.same
  · exact Idle.sends .same

theorem State.superviseAsMember_sends (flag : Bool) (s : State) : Sends s (s.superviseAsMember flag) :=
  (State.formPermit_sends _).from Idle.same

theorem State.superviseAsLead_sends (s : State) : Sends s s.superviseAsLead := (State.formPermit_sends _).from Idle.same

theorem State.endSupervision_sends (s : State) : Sends s s.endSupervision := (State.formPermit_sends _).from Idle.same

theorem State.acceptBeacon_sends (flag : Bool) (s : State) : Sends s (s.acceptBeacon flag) := (State.formPermit_sends _).from Idle.same

theorem State.zspChange_sends (level : Bool) (s : State) : Sends s (s.zspChange level) := by
  unfold State.zspChange
  split
  · exact Sends.refl s
  · exact (State.formPermit_sends _).from Idle.same

theorem State.supervisionExpiry_sends (s : State) : Sends s s.supervisionExpiry := by
  unfold State.supervisionExpiry
  split
  · exact (((State.alarm_sends 7 .lineLost _).trans (State.withdrawBoth_sends .lineLost _)).trans (State.formPermit_sends _)).from Idle.same
  · exact Sends.refl s

/-! ## The census -/

/-- What a census record puts into frames is in range. -/
structure Census.InRange (c : Census) : Prop where
  position : c.position ≤ 32
  epoch : c.epoch ≤ 255
  lastEpoch : c.lastEpoch ≤ 255

/-- The census record has changed, and what it puts into frames is in range where it was. -/
theorem Idle.census {s : State} {c : Census} (h : s.InRange → c.InRange) : Idle s { s with census := c } :=
  ⟨rfl, rfl, rfl, rfl, rfl, rfl, fun x => ⟨(h x).position, (h x).epoch, (h x).lastEpoch, x.recs⟩⟩

/-- The census record has changed, but not in what it puts into frames. -/
theorem Idle.record {s : State} {c : Census} (hp : c.position = s.census.position := by rfl) (he : c.epoch = s.census.epoch := by rfl)
    (hl : c.lastEpoch = s.census.lastEpoch := by rfl) : Idle s { s with census := c } :=
  .census fun x => ⟨hp ▸ x.position, he ▸ x.epoch, hl ▸ x.lastEpoch⟩

theorem State.leaveSettled_sends (s : State) : Sends s s.leaveSettled :=
  (State.withdrawBoth_sends _ s).trans (State.endSupervision_sends _)

theorem State.enterCensus_sends (cs : CensusState) (s : State) : Sends s (s.enterCensus cs) := by
  by_cases h : s.census.cs = .settled ∧ cs ≠ .settled
  · rw [State.enterCensus_leaves h]; exact (State.leaveSettled_sends _).from Idle.record
  · rw [State.enterCensus_stays h]; exact Idle.sends .record

theorem State.fallBack_sends (s : State) : Sends s s.fallBack := State.enterCensus_sends _ _

theorem State.enterLead_idle (lead : LeadState) (s : State) : Idle s (s.enterLead lead) := by
  by_cases h : s.census.lead = .holding ∧ lead ≠ .holding
  · rw [State.enterLead_leaves h]
    exact ⟨rfl, rfl, rfl, rfl, rfl, rfl, fun x => ⟨x.position, x.epoch, x.lastEpoch, Nat.zero_le _⟩⟩
  · rw [State.enterLead_stays h]; exact Idle.record

theorem State.failCensus_sends (r : Failure) (s : State) : Sends s (s.failCensus r) :=
  (State.alarm_sends 5 .censusFailed { s with census := { s.census with failure := r } }).from Idle.record

theorem Entry.bytes_length (e : Entry) : e.bytes.length = 8 := rfl

theorem entriesBytes_length (es : List Entry) : (entriesBytes es).length = 8 * es.length := by
  induction es with
  | nil => rfl
  | cons e es ih =>
    rw [show entriesBytes (e :: es) = e.bytes ++ entriesBytes es from rfl, List.length_append, ih, Entry.bytes_length, List.length_cons]
    omega

theorem nextEpoch_le {n : Nat} (h : n ≤ 255) : nextEpoch n ≤ 255 := by
  unfold nextEpoch
  split <;> omega

theorem announceSending_fits {epoch : Nat} (he : epoch ≤ 255) (tag : Tag) {es : List Entry} (hl : es.length ≤ 32) :
    (announceSending epoch tag es).Fits := by
  refine ⟨show 2 ≤ 31 by decide, he, ?_, fun e => by cases e⟩
  show (announcePayload epoch tag es).length ≤ 264
  simp only [announcePayload, Tag.bytes, idBytes, be32, List.length_cons, List.length_append, List.length_nil, entriesBytes_length]
  omega

theorem State.held_sends {es : List Entry} (hl : es.length ≤ 32) (s : State) : Sends s (s.held es) := by
  have hc : Idle s ({ s with census := s.census.accepted es s.mgmt.working.coach.cabEnd } : State).dropOldEpoch :=
    ⟨rfl, rfl, rfl, rfl, rfl, rfl, fun x => ⟨show 1 ≤ 32 by decide, nextEpoch_le x.lastEpoch, nextEpoch_le x.lastEpoch, x.recs⟩⟩
  have hs := (State.superviseAsLead_sends ({ s with census := s.census.accepted es s.mgmt.working.coach.cabEnd } : State).dropOldEpoch).from hc
  refine hs.to ⟨rfl, rfl, rfl, rfl, rfl, rfl, fun x => ⟨x.position, x.epoch, x.lastEpoch, ?_⟩⟩
  show (demandRecords (recordsFrom 1 es)).length ≤ 32
  simpa [demandRecords] using hl

theorem State.acceptReturn_sends {es : List Entry} (hl : es.length ≤ 32) (tag : Tag) (s : State) : Sends s (s.acceptReturn tag es) := by
  refine (State.held_sends hl s).trans (State.originate_sends _ fun x => announceSending_fits ?_ tag hl)
  have he := x.epoch
  rw [State.held_census] at he
  exact he

theorem State.sendCall_sends {es : List Entry} (hl : es.length ≤ 32) (tag : Tag) (p : Port) (s : State) : Sends s (s.sendCall tag es p) := by
  refine State.originate_sends _ fun x => ⟨show 0 ≤ 31 by decide, show 0 ≤ 255 by decide, ?_, fun e => by cases e⟩
  simp only [callPayload, Tag.bytes, idBytes, be32, List.length_cons, List.length_append, List.length_nil, entriesBytes_length]
  omega

theorem State.calling_sends (ctr : Nat) (s : State) : Sends s (s.calling ctr) := by
  have hc : Idle s { s with census := { s.census with
      attemptNo := s.census.nextAttempt, tag := some s.nextTag, attemptCtr := ctr, position := 1
      orient := endOrientation s.mgmt.working.coach.cabEnd, leadEnd := some s.mgmt.working.coach.cabEnd, timer := none, hold := none } } :=
    .census fun x => ⟨show 1 ≤ 32 by decide, x.epoch, x.lastEpoch⟩
  exact (State.enterCensus_sends .survey _).from (hc.trans (State.enterLead_idle .calling _))

theorem State.startAttempt_sends (ctr : Nat) (s : State) : Sends s (s.startAttempt ctr) := by
  cases h : s.mated s.nonCabPort
  · rw [State.startAttempt_alone h]
    exact (s.calling_sends ctr).trans (State.acceptReturn_sends (es := [_]) (show 1 ≤ 32 by decide) _ _)
  · rw [State.startAttempt_mated h]
    exact ((s.calling_sends ctr).trans (State.sendCall_sends (es := [_]) (show 1 ≤ 32 by decide) _ _ _)).to Idle.record

theorem State.enterBlocked_sends (r : Failure) (s : State) : Sends s (s.enterBlocked r) := by
  rw [State.enterBlocked_eq]
  exact ((State.fallBack_sends _).trans (State.failCensus_sends r _)).from ((State.enterLead_idle .blocked s).trans Idle.record)

theorem State.loseRole_sends (coupled : Bool) (s : State) : Sends s (s.loseRole coupled) := by
  have hd : Idle s s.dismissed := (State.enterLead_idle .off s).trans Idle.record
  have hs : Sends s s.stripped := by
    unfold State.stripped
    split
    · exact (State.superviseAsMember_sends _ _).from hd
    · exact (State.fallBack_sends _).from hd
    · exact hd.sends
    · exact hd.sends
  rw [State.loseRole_eq]
  split
  · exact hs.trans (State.failCensus_sends _ _)
  · exact hs

theorem State.restartCensus_sends (s : State) : Sends s s.restartCensus := s.seeTopology_sends.trans (State.startAttempt_sends 0 _)

theorem State.judgeRole_sends (s : State) : Sends s s.judgeRole := by
  unfold State.judgeRole
  split
  · split
    · exact (State.failCensus_sends .cabCoupled _).from Idle.record
    · exact State.startAttempt_sends _ _
  · exact Sends.refl s

theorem State.cabAssertion_sends (s : State) : Sends s s.cabAssertion := by
  unfold State.cabAssertion
  split
  · exact Sends.refl s
  · exact (State.judgeRole_sends _).from Idle.record

theorem State.cabRelease_sends (s : State) : Sends s s.cabRelease := by
  unfold State.cabRelease
  split
  · dsimp only
    split
    · exact (State.loseRole_sends _ _).from Idle.record
    · exact Idle.sends .record
  · exact Sends.refl s

theorem State.censusTimeout_sends (s : State) : Sends s s.censusTimeout := by
  unfold State.censusTimeout
  split
  · split
    · exact State.startAttempt_sends _ _
    · exact State.enterBlocked_sends _ _
  · exact Sends.refl s

theorem State.takeReturn_sends (r : ReturnIn) (s : State) : Sends s (s.takeReturn r) := by
  unfold State.takeReturn
  split
  · split
    · split
      · rename_i h; exact State.acceptReturn_sends (State.soundReturn_length h).2 _ _
      · exact Sends.refl s
    · exact State.enterBlocked_sends _ _
    · exact State.enterBlocked_sends _ _
    · exact State.enterBlocked_sends _ _
    · exact Sends.refl s
  · exact Sends.refl s

theorem State.memberReport_sends (k : TopologyKind) (s : State) : Sends s (s.memberReport k) := by
  rw [State.memberReport_eq]
  split
  · exact (State.enterCensus_sends _ s).trans (State.topologyReport_sends k _)
  · exact State.topologyReport_sends k s

theorem State.matedReport_sends (on : Bool) (e : EndNo) (s : State) : Sends s (s.matedReport on e) := by
  unfold State.matedReport
  split
  · split
    · split
      · exact State.loseRole_sends _ _
      · exact Sends.refl s
    · exact State.restartCensus_sends s
  · exact State.memberReport_sends _ _

theorem State.mappingReport_sends (k : TopologyKind) (s : State) : Sends s (s.mappingReport k) := by
  unfold State.mappingReport
  split
  · split
    · exact State.loseRole_sends _ _
    · exact State.restartCensus_sends s
  · exact State.memberReport_sends _ _

theorem State.sendReturn_sends {es : List Entry} (hl : es.length ≤ 32) (tag : Tag) (status : Nat) (p : Port) (s : State) :
    Sends s (s.sendReturn tag status es p) := by
  unfold State.sendReturn
  dsimp only
  refine Carries.from (t := s.drawFree.2) (State.originate_sends _ fun x => ⟨show 1 ≤ 31 by decide, ?_, ?_, fun e => by cases e⟩) Idle.same
  · exact Nat.le_of_lt_succ (BitVec.isLt _)
  · simp only [Tag.bytes, idBytes, be32, List.length_cons, List.length_append, List.length_nil, entriesBytes_length]
    omega

theorem State.surveyed_sends {n : Nat} (hn : n ≤ 32) (x : EndNo) (tag : Tag) (s : State) : Sends s (s.surveyed x tag n) :=
  (State.enterCensus_sends .survey _).from (Idle.census (c := s.census.called x tag n) fun r => ⟨hn, r.epoch, r.lastEpoch⟩)

theorem State.takeCall_sends (x : EndNo) (c : CallIn) (s : State) : Sends s (s.takeCall x c) := by
  rw [State.takeCall_eq]
  split
  · exact State.sendReturn_sends (Nat.zero_le _) _ _ _ _
  · split
    · exact State.sendReturn_sends (Nat.zero_le _) _ _ _ _
    · rename_i hl
      have he : (c.entries ++ [s.ownEntry (endOrientation x)]).length ≤ 32 := by
        rw [List.length_append, List.length_singleton]; omega
      split
      · exact State.sendReturn_sends (Nat.zero_le _) _ _ _ _
      · dsimp only
        split
        · exact (State.surveyed_sends he x c.tag s).trans (State.sendCall_sends he _ _ _)
        · exact (State.surveyed_sends he x c.tag s).trans (State.sendReturn_sends he _ _ _ _)

theorem State.surveyTimeout_sends (s : State) : Sends s s.surveyTimeout := by
  unfold State.surveyTimeout
  split
  · dsimp only
    split
    · exact (State.fallBack_sends _).from Idle.record
    · generalize hu : ({ s with census := { s.census with hold := none, tag := none } } : State) = u
      have hi : Idle s u := by rw [← hu]; exact Idle.record
      have hc : Idle u.fallBack { u.fallBack with census := { u.fallBack.census with position := 0, leadEnd := none } } :=
        .census fun x => ⟨Nat.zero_le _, x.epoch, x.lastEpoch⟩
      exact ((State.fallBack_sends u).to hc).from hi
  · exact Sends.refl s

/-- The epoch of a sound announce (R48). -/
theorem State.soundAnnounce_epoch {a : AnnounceIn} {s : State} (h : s.soundAnnounce a = true) : a.epoch ≤ 255 := by
  simp only [State.soundAnnounce, Bool.and_eq_true, decide_eq_true_eq] at h
  exact h.1.1.1.1.1.1.2

theorem State.joined_sends {epoch : Nat} (he : epoch ≤ 255) (es : List Entry) (s : State) : Sends s (s.joined epoch es) := by
  have hc : Idle s ({ s with census := s.census.joined epoch es } : State).dropOldEpoch :=
    ⟨rfl, rfl, rfl, rfl, rfl, rfl, fun x => ⟨x.position, he, he, x.recs⟩⟩
  exact (State.superviseAsMember_sends _ _).from hc

theorem State.takeAnnounce_sends (a : AnnounceIn) (s : State) : Sends s (s.takeAnnounce a) := by
  rw [State.takeAnnounce_eq]
  split
  · split
    · rename_i h; exact State.joined_sends (State.soundAnnounce_epoch h) _ _
    · exact ((State.fallBack_sends _).trans (State.topologyReport_sends _ _)).from (Idle.record (c := s.census.givenUp))
  · exact Sends.refl s

theorem State.censusBeacon_sends (epoch : Nat) (s : State) : Sends s (s.censusBeacon epoch) := by
  unfold State.censusBeacon
  split
  · exact Sends.refl s
  · split
    · split
      · exact Sends.refl s
      · exact (State.enterCensus_sends _ s).trans (State.topologyReport_sends _ _)
    · split
      · exact (State.topologyReport_sends _ s).to Idle.record
      · exact Sends.refl s
    · split
      · exact (State.topologyReport_sends _ s).to Idle.record
      · exact Sends.refl s
    · exact Sends.refl s

/-! ## Events -/

theorem State.recordDemand_idle (pos r d : Nat) (p : Bool) (s : State) : Idle s (s.recordDemand pos r d p) :=
  ⟨rfl, rfl, rfl, rfl, rfl, rfl, fun x => ⟨x.position, x.epoch, x.lastEpoch, (List.length_map _).trans_le x.recs⟩⟩

theorem Event.act_sends (e : Event) (s : State) : Sends s (e.act s) := by
  cases e with
  | mated on x => exact State.matedReport_sends on x s
  | call d =>
    rcases d.callAct_cases s with h | ⟨_, h⟩ <;> rw [Event.act, h]
    · exact Sends.refl s
    · exact State.takeCall_sends _ _ s
  | censusReturn d =>
    rcases d.returnAct_cases s with h | ⟨_, h⟩ <;> rw [Event.act, h]
    · exact Sends.refl s
    · exact State.takeReturn_sends _ s
  | announce d =>
    rcases d.announceAct_cases s with h | ⟨_, h⟩ <;> rw [Event.act, h]
    · exact Sends.refl s
    · exact State.takeAnnounce_sends _ s
  | topology p =>
    rcases s.takeTopologyChange_cases p with h | ⟨_, h⟩ <;> rw [Event.act, h]
    · exact Sends.refl s
    · exact State.restartCensus_sends s
  | order d =>
    rcases d.orderAct_cases s with h | ⟨_, h⟩ <;> rw [Event.act, h]
    · exact Sends.refl s
    · exact State.takeOrder_sends _ s
  | doorState d =>
    rcases d.doorStateAct_cases s with h | ⟨_, _, _, _, _, h⟩ <;> rw [Event.act, h]
    · exact Sends.refl s
    · exact (State.recordDoors_idle _ _ _ _ s).sends
  | heatDemand d =>
    rcases d.demandAct_cases s with h | ⟨_, _, _, _, h⟩ <;> rw [Event.act, h]
    · exact Sends.refl s
    · exact (State.recordDemand_idle _ _ _ _ s).sends
  | heatGrant d =>
    rcases d.grantAct_cases s with h | ⟨_, h⟩ <;> rw [Event.act, h]
    · exact Sends.refl s
    · exact Idle.sends .same
  | cabAssertion => exact s.cabAssertion_sends
  | cabRelease => exact s.cabRelease_sends
  | censusTimeout => exact s.censusTimeout_sends
  | surveyTimeout => exact s.surveyTimeout_sends
  | zsp level => exact s.zspChange_sends level
  | supervisionExpiry => exact s.supervisionExpiry_sends
  | doorCommand p => exact s.takeDoorCommand_sends p
  | doorReport p => exact s.takeDoorReport_sends p
  | loop sd made => exact s.loopChange_sends sd made
  | releaseTimeout sd => exact s.releaseTimeout_sends sd
  | warningTimeout sd => exact s.warningTimeout_sends sd
  | closeTimeout sd => exact s.closeTimeout_sends sd
  | phase sd => exact (State.changeSide_idle sd _ s).sends

/-! ## The cycle start and the clock -/

theorem State.changeGroup_idle (k : Nat) (f : Group → Group) (s : State) : Idle s (s.changeGroup k f) := Idle.same

theorem State.setOutputs_idle (s : State) : Idle s s.setOutputs := Idle.same

theorem State.strikeTest_sends (k : Nat) (fails : Bool) (s : State) : Sends s (s.strikeTest k fails) := by
  unfold State.strikeTest
  split
  · split
    · exact (State.alarm_sends 11 .groupFailed _).from ((State.changeGroup_idle _ _ s).trans (State.setOutputs_idle _))
    · exact (State.changeGroup_idle _ _ s).sends
  · exact (State.changeGroup_idle _ _ s).sends

theorem State.openTest_sends (k : Nat) (fails : Bool) (s : State) : Sends s (s.openTest k fails) := by
  unfold State.openTest
  split
  · split
    · exact Sends.refl s
    · exact (State.alarm_sends 12 .groupOpen _).from (State.changeGroup_idle _ _ s)
  · exact (State.changeGroup_idle _ _ s).sends

theorem State.testGroup_sends (k : Nat) (s : State) : Sends s (s.testGroup k) := by
  unfold State.testGroup
  dsimp only
  split
  · split
    · exact (State.strikeTest_sends _ _ s).trans (State.openTest_sends _ _ _)
    · exact Sends.refl s
  · exact Sends.refl s

theorem State.testGroups_sends (ks : List Nat) (s : State) : Sends s (ks.foldl (fun acc k => State.testGroup k acc) s) := by
  induction ks generalizing s with
  | nil => exact Sends.refl s
  | cons k ks ih => exact (State.testGroup_sends k s).trans (ih _)

theorem State.missedGrant_sends (s : State) : Sends s s.missedGrant := by
  unfold State.missedGrant
  split
  · exact (State.count_sends 13 (s.applyGrant s.heater.applied .held (s.heater.missed + 1))).from Idle.same
  · exact (State.count_sends 13 (s.applyGrant s.fallbackGrant .fallback 3)).from Idle.same

theorem State.chooseGrant_sends (c : Nat) (s : State) : Sends s (s.chooseGrant c) := by
  unfold State.chooseGrant
  split
  · split
    · split
      · exact Idle.sends .same
      · split
        · exact (State.count_sends 14 (s.applyGrant _ .late 0)).from Idle.same
        · exact State.missedGrant_sends s
    · exact State.missedGrant_sends s
  · exact Idle.sends .same

theorem State.readSlot_idle (s : State) : Idle s s.readSlot :=
  Idle.trans (t := { s with heater := { s.heater with slot := s.line.slotPosition } }) Idle.same (State.setOutputs_idle _)

theorem State.formR_idle (s : State) : Idle s s.formR := Idle.same

theorem State.cycleStart_sends (s : State) : Sends s s.cycleStart := by
  have ht : Sends s.marked s.marked.tested := (State.testGroups_sends [0, 1, 2, 3] s.marked).to (State.formR_idle _)
  have hc := ht.trans (State.chooseGrant_sends s.line.cyc s.marked.tested)
  have hd : ∀ u : State, Idle u u.formDuty := fun u => Idle.same
  have he : ∀ u : State, Idle u u.endCycleStart := fun u => Idle.same
  have ha : ∀ u : State, Idle u u.ageSummary := fun u => by
    unfold State.ageSummary
    split
    · exact Idle.same
    · exact Idle.same
  rw [State.cycleStart_eq, State.heaterCycleStart_eq]
  exact ((((hc.to (hd _)).to (State.readSlot_idle _)).to (he _)).to (ha _)).from Idle.same

theorem State.allocation_grants_length {c : Nat} {s : State} {a : Allocation} (h : (s.allocation c).last = some a) :
    a.grants.length = s.alloc.recs.length := by
  rw [State.allocation_eq] at h
  cases h
  exact (grantsOf_length _ _).trans (List.length_map _)

theorem grantPayload_length (epoch cyc : Nat) (gs : List Nat) : (grantPayload epoch cyc gs).length = 3 + 2 * gs.length := by
  have h : (gs.flatMap be16).length = 2 * gs.length := by
    induction gs with
    | nil => rfl
    | cons g gs ih => rw [List.flatMap_cons, List.length_append, ih, List.length_cons, show (be16 g).length = 2 from rfl]; omega
  rw [grantPayload, List.length_cons, List.length_cons, List.length_cons, h]
  omega

/-- The HEAT_GRANT frame of a computation (R133, 12.8). -/
def State.grantSending (s : State) (gs : List Nat) : Sending :=
  { cls := 8, dir := .away, epoch := s.census.epoch, destKind := .broadcast, destVal := 0
    payload := grantPayload s.census.epoch (nextCycle s.line.cyc) gs }

/-- The grants of a computation (R133). -/
def State.grants (s : State) : List Nat :=
  match (s.allocation (nextCycle s.line.cyc)).last with
  | some l => l.grants
  | none => []

theorem State.compute_eq (s : State) : s.compute =
    (({ s with alloc := s.allocation (nextCycle s.line.cyc) } : State).originate (s.grantSending s.grants) (.one s.nonCabPort)).stageGrant
      { grant := s.grants.getD 0 0, epoch := s.census.epoch, cyc := nextCycle s.line.cyc } := rfl

theorem State.grants_length (s : State) : s.grants.length ≤ s.alloc.recs.length := by
  unfold State.grants
  split
  · rename_i l hl; exact (State.allocation_grants_length hl).le
  · exact Nat.zero_le _

theorem State.grantSending_fits {s : State} (x : s.InRange) : (s.grantSending s.grants).Fits := by
  refine ⟨show 8 ≤ 31 by decide, x.epoch, ?_, fun e => by cases e⟩
  have hl := s.grants_length
  have hr := x.recs
  rw [State.grantSending, grantPayload_length]
  omega

theorem State.compute_sends (s : State) : Sends s s.compute := by
  have ha : s.alloc.recs.length = (s.allocation (nextCycle s.line.cyc)).recs.length := (State.allocation_length _ s).symm
  have hi : Idle s { s with alloc := s.allocation (nextCycle s.line.cyc) } :=
    ⟨rfl, rfl, rfl, rfl, rfl, rfl, fun x => ⟨x.position, x.epoch, x.lastEpoch, ha.symm.trans_le x.recs⟩⟩
  have hb : ∀ (g : Grant) (u : State), Idle u (u.stageGrant g) := fun g u => Idle.same
  rw [State.compute_eq]
  exact ((State.originate_sends (s := { s with alloc := s.allocation (nextCycle s.line.cyc) }) (m := s.grantSending s.grants) _ fun x =>
    State.grantSending_fits (s := s) ⟨x.position, x.epoch, x.lastEpoch, ha.trans_le x.recs⟩).from hi).to (hb _ _)

theorem State.heatDemandSending_fits {s : State} (h : s.InRange) : s.heatDemandSending.Fits :=
  ⟨show 7 ≤ 31 by decide, h.epoch, show 7 ≤ 264 by decide, fun e => by cases e⟩

theorem State.indexWork_sends (s : State) : Sends s s.indexWork := by
  unfold State.indexWork
  split
  · exact s.doorStateWork_sends
  · split
    · unfold State.demandWork
      split
      · exact (State.recordDemand_idle _ _ _ _ s).sends
      · split
        · exact State.toLead_sends State.heatDemandSending_fits
        · exact Sends.refl s
    · split
      · exact s.compute_sends
      · exact Sends.refl s

theorem State.indexEntry_sends (s : State) : Sends s s.indexEntry := by
  unfold State.indexEntry
  split
  · exact s.cycleStart_sends
  · exact (State.indexWork_sends _).from s.readSlot_idle

theorem State.realign_sends (b : BeaconIn) (s : State) : Sends s (s.realign b) := by
  unfold State.realign
  dsimp only
  split
  · exact (State.readSlot_idle _).sends.from Idle.same
  · exact (State.indexEntry_sends _).from Idle.same

theorem State.takeBeacon_sends (f : Frame) (s : State) : Sends s (s.takeBeacon f) := by
  unfold State.takeBeacon
  split
  · rename_i b _
    refine Carries.trans ?_ (State.censusBeacon_sends _ _)
    rcases s.supervisorBeacon_cases f.epoch b with e | ⟨_, _, e⟩ | ⟨_, _, _, _, e⟩ <;> rw [e]
    · exact Sends.refl s
    · exact State.realign_sends b s
    · exact (State.realign_sends b s).trans (State.acceptBeacon_sends _ _)
  · exact Sends.refl s

theorem State.sendBeacon_sends (s : State) : Sends s s.sendBeacon := by
  unfold State.sendBeacon
  split
  · exact State.originate_sends _ fun x => ⟨show 4 ≤ 31 by decide, x.epoch, show 7 ≤ 264 by decide, fun e => by cases e⟩
  · exact Sends.refl s

theorem State.cycleTick_sends (s : State) : Sends s s.cycleTick :=
  ((State.indexEntry_sends { s with line := s.line.advance }).trans (State.sendBeacon_sends _)).from Idle.same

theorem State.slotBoundary_sends (s : State) : Sends s s.slotBoundary := by
  rcases s.slotBoundary_cases with e | ⟨tick, e⟩ <;> rw [e]
  · exact Sends.refl s
  · exact (State.readSlot_idle _).sends.from Idle.same

end Sys2Proof.Machine
end

section
/-! PROOFS. What travels stays sound through replies, reception and relaying. -/

namespace Sys2Proof.Machine

/-! ## Soundness kept -/

/-- End units, frames, counters and coach link are sound after, where they were before. -/
structure Sounds (s t : State) : Prop where
  ports : s.portsSound = true → t.portsSound = true
  frames : s.framesFit = true → t.framesFit = true
  events : s.eventsSound = true → t.eventsSound = true
  messages : s.link.MessagesFit → t.link.MessagesFit
  link : s.link.Fits s.mgmt.keptPlaces → t.link.Fits t.mgmt.keptPlaces

theorem Carries.sounds {s t : State} (h : Sends s t) : Sounds s t :=
  ⟨Carries.ports h, Carries.frames h trivial, Carries.events h, Carries.messages h, Carries.link h 0⟩

/-! ## Replies -/

theorem pieces_length_le (size : Nat) : ∀ (n : Nat) (bs : List Byte), ∀ p ∈ pieces n size bs, p.length ≤ size
  | 0, _, _, h => absurd h (List.not_mem_nil)
  | n + 1, bs, p, h => by
    unfold pieces at h
    split at h
    · rw [List.mem_singleton] at h; subst h; assumption
    · rcases List.mem_cons.mp h with rfl | h
      · exact List.length_take_le _ _
      · exact pieces_length_le size n _ p h

/-- A reply has at least one part. -/
theorem pieces_pos (n size : Nat) (bs : List Byte) : 1 ≤ (pieces (n + 1) size bs).length := by
  unfold pieces
  split
  · exact Nat.le_refl 1
  · exact Nat.succ_le_succ (Nat.zero_le _)

/-- The number of pieces depends on the number of bytes alone. -/
theorem pieces_length_congr (size : Nat) : ∀ (n : Nat) {a b : List Byte}, a.length = b.length →
    (pieces n size a).length = (pieces n size b).length
  | 0, _, _, _ => rfl
  | n + 1, a, b, h => by
    unfold pieces
    rw [h]
    split
    · rfl
    · have hd : (a.drop size).length = (b.drop size).length := by simp [h]
      rw [List.length_cons, List.length_cons, pieces_length_congr size n hd]

/-- The parts of a reply have 5 bytes of envelope before their piece (12.5). -/
theorem replyPayloads_length_le {kind tag : Nat} {st : Status} {results : List Byte} {size : Nat} :
    ∀ p ∈ replyPayloads kind tag st results size, p.length ≤ size + 5 := by
  have hp : ∀ (ps : List (List Byte)) (k : Nat), (∀ p ∈ ps, p.length ≤ size) → ∀ p ∈ replyParts kind tag st k ps, p.length ≤ size + 5 := by
    intro ps
    induction ps with
    | nil => intro k _ p h; exact absurd h List.not_mem_nil
    | cons x xs ih =>
      intro k hx p h
      rcases List.mem_cons.mp h with rfl | h
      · have := hx x List.mem_cons_self
        simp only [be16, List.length_cons, List.length_append, List.length_nil]
        omega
      · exact ih (k + 1) (fun p hp => hx p (List.mem_cons_of_mem _ hp)) p h
  exact hp _ 0 (pieces_length_le size _ results)

theorem State.shownEpoch_le {s : State} (h : s.InRange) : s.shownEpoch ≤ 255 := by
  unfold State.shownEpoch
  split
  · exact h.epoch
  · exact Nat.zero_le _

theorem State.replyFrames_sends (port : Port) (asker : NodeId) (dir : Dir) (ps : List (List Byte)) (hp : ∀ p ∈ ps, p.length ≤ 264)
    (s : State) : Sends s (ps.foldl (fun acc p => acc.sendReplyFrame port asker dir p) s) := by
  induction ps generalizing s with
  | nil => exact Sends.refl s
  | cons p ps ih =>
    refine Carries.trans (State.originate_sends _ fun x => ?_) (ih (fun q hq => hp q (List.mem_cons_of_mem _ hq)) _)
    exact ⟨show 10 ≤ 31 by decide, State.shownEpoch_le x, hp p List.mem_cons_self, fun e => by cases e⟩

/-- The messages of a reply on the coach link. -/
def replyMessages (kind tag : Nat) (st : Status) (results : List Byte) : List Message :=
  (replyPayloads kind tag st results linkPartBytes).map fun p => { kind := 0x81, payload := p }

theorem replyMessages_fit (kind tag : Nat) (st : Status) (results : List Byte) :
    (replyMessages kind tag st results).all Message.fits = true := by
  rw [List.all_eq_true]
  intro m hm
  obtain ⟨p, hp, rfl⟩ := List.mem_map.mp hm
  exact decide_eq_true (replyPayloads_length_le p hp)

theorem replyMessages_length (kind tag : Nat) (st : Status) (results : List Byte) :
    (replyMessages kind tag st results).length = (pieces Config.maxParts linkPartBytes results).length :=
  (List.length_map _).trans (replyParts_length _ _ _ _ _)

theorem Answer.places_pos (a : Answer) : 1 ≤ a.places ∧ a.places ≤ Config.txPlaces := by
  cases a with
  | now st results => exact ⟨Nat.le_min.mpr ⟨by decide, pieces_pos 15 _ _⟩, Nat.min_le_left _ _⟩
  | later => exact ⟨Nat.le_refl 1, by decide⟩

/-- A reply of `ms` parts enters the places reserved for it; with more than 8 parts all 8 places were reserved (R179). -/
theorem Link.enterReply_fits {n places : Nat} {l : Link} {ms : List Message} (h : l.Fits (n + places)) (hp : 1 ≤ places)
    (hm : places = min Config.txPlaces ms.length) : (l.enterReply places ms).Fits n := by
  have h8 : Config.txPlaces = 8 := rfl
  have hl := h.places
  have hr := h.reserved
  have hb : l.backlog = [] := h.backlog.resolve_right (by omega)
  refine Link.start_fits ?_ ?_ ?_ h.rx
  · simp only [List.length_append, List.length_take]
    omega
  · dsimp only; omega
  · by_cases hs : ms.length ≤ places
    · exact .inl (by simp [hb, List.drop_eq_nil_of_le hs])
    · refine .inr ?_
      simp only [List.length_append, List.length_take]
      omega

theorem Link.enterReply_messagesFit {places : Nat} {l : Link} {ms : List Message} (h : l.MessagesFit) (hm : ms.all Message.fits = true) :
    (l.enterReply places ms).MessagesFit := by
  rw [List.all_eq_true] at hm
  refine Link.start_messagesFit ⟨?_, ?_, h.sending⟩
  · rw [List.all_append, h.txQ, Bool.true_and, List.all_eq_true]
    exact fun m hx => hm m (List.mem_of_mem_take hx)
  · rw [List.all_append, h.backlog, Bool.true_and, List.all_eq_true]
    exact fun m hx => hm m (List.mem_of_mem_drop hx)

@[simp] theorem Link.enterReply_rx (places : Nat) (ms : List Message) (l : Link) : (l.enterReply places ms).rx = l.rx := by
  rw [Link.enterReply, (Link.start_keeps _).2.1]

/-- A reply over the line needs no place of the coach link. -/
theorem State.sendReply_line_sends (port : Port) (asker : NodeId) (dir : Dir) (kind tag : Nat) (st : Status) (results : List Byte) (s : State) :
    Sends s (s.sendReply (.line port asker dir) kind tag st results) :=
  State.replyFrames_sends port asker dir _ (fun p hp => replyPayloads_length_le p hp) s

/-- A reply on the coach link takes the places reserved for it. -/
theorem State.sendReply_link_carries (kind tag : Nat) (st : Status) (results : List Byte) (s : State) :
    Carries (Answer.now st results).places 0 s (s.sendReply .coachLink kind tag st results) := by
  refine Carries.ofLink (l := s.link.enterReply (Answer.now st results).places (replyMessages kind tag st results)) (fun r h => ?_)
    (fun h => Link.enterReply_messagesFit h (replyMessages_fit _ _ _ _)) (fun h => by rw [Link.enterReply_rx]; exact h)
  exact Link.enterReply_fits h (Answer.places_pos _).1 (by rw [replyMessages_length]; rfl)

/-- The places an answer takes from those reserved when it is sent. -/
def Answer.taken (o : Origin) (a : Answer) : Nat :=
  match o, a with
  | .coachLink, .now st results => (Answer.now st results).places
  | _, _ => 0

theorem State.sendAnswer_carries (o : Origin) (r : Request) (a : Answer) (s : State) : Carries (a.taken o) 0 s (s.sendAnswer o r a) := by
  cases a with
  | later => cases o <;> exact Sends.refl s
  | now st results =>
    cases o with
    | line port asker dir => exact State.sendReply_line_sends port asker dir r.kind r.tag st results s
    | coachLink => exact State.sendReply_link_carries r.kind r.tag st results s

theorem Idle.delivered (d : List Delivery) (s : State) : Idle s { s with delivered := d } := Idle.same

theorem State.drainLineFuel_sends : ∀ (n : Nat) (s : State), Sends s (State.drainLineFuel n s)
  | 0, s => Sends.refl s
  | n + 1, s => by
    unfold State.drainLineFuel
    split
    · exact Sends.refl s
    · split
      · exact (State.drainLineFuel_sends n _).from (Idle.delivered _ s)
      · split
        · exact Sends.refl s
        · exact ((State.sendAnswer_carries (.line _ _ _) _ (.plain .badRequest) _).trans (State.drainLineFuel_sends n _)).from
            (Idle.delivered _ s)

theorem State.drainLine_sends (s : State) : Sends s s.drainLine := State.drainLineFuel_sends _ s

/-! ## Coach data and the coach link -/

/-- Where nothing but frames in range is asked, one frame of coach data travels soundly. -/
theorem State.sendData_carries {e : ClassEntry} {m : Sending} {s : State} {q : Prop} (hm : q → s.InRange → m.Fits) (p : Port) (named : Bool) :
    Carries 0 0 s (s.sendData e m p named) q := by
  have hf : q → s.InRange → (s.complete m).wellFormed = true := fun y x => State.complete_wellFormed (hm y x) x
  unfold State.sendData
  split
  · dsimp only
    split
    · exact State.sendOne_sends State.count_sends _ _ hf
    · exact State.sendCopy_sends State.count_sends _ _ hf
  · exact (Sends.refl s).given q

theorem State.originateData_carries {cls : Nat} {k : DestKind} {v : BitVec 32} {payload : List Byte} {s : State} (hc : cls ≤ 31)
    (hk : k = .position → 1 ≤ v.toNat ∧ v.toNat ≤ 32) : Carries 0 0 s (s.originateData cls k v payload) (payload.length ≤ 264) := by
  have hm : ∀ (d : Dir) (dv : BitVec 32), (k = .position → dv = v) → payload.length ≤ 264 → s.InRange →
      Sending.Fits { cls := cls, dir := d, epoch := s.shownEpoch, destKind := k, destVal := dv, payload := payload } :=
    fun d dv hv y x => ⟨hc, State.shownEpoch_le x, y, fun e => by rw [show _ = v from hv e]; exact hk e⟩
  unfold State.originateData
  dsimp only
  split
  · exact (Sends.refl s).given _
  · split
    · exact (Sends.refl s).given _
    · split
      · exact (Sends.refl s).given _
      · split
        · exact State.sendData_carries (hm _ _ fun e => by subst e; rfl) _ _
        · exact State.sendData_carries (hm _ _ fun e => by subst e; rfl) _ _
        · refine (State.sendData_carries (hm _ _ fun e => by subst e; rfl) _ _).trans
            (State.sendData_carries (fun y x => hm _ _ (fun e => by subst e; rfl) y ?_) _ _)
          exact x.congr (State.sendData_quiet _ _ _ _ s).census.symm (State.sendData_quiet _ _ _ _ s).alloc.symm

theorem State.coachDataSend_carries (payload : List Byte) (s : State) :
    Carries 0 0 s (s.coachDataSend payload) (payload.length ≤ Config.maxMessagePayload) := by
  unfold State.coachDataSend
  split
  · rename_i d hd
    split
    · rename_i k hk
      split
      · exact (State.count_sends _ _).given _
      · rename_i h
        simp only [not_or, not_and, Nat.not_lt] at h
        have hl : payload.length ≤ Config.maxMessagePayload → d.payload.length ≤ 264 := fun y => by
          unfold readDataSend at hd
          split at hd
          · cases hd
            simp only [List.length_cons] at y
            have h72 : Config.maxMessagePayload = 72 := rfl
            dsimp only; omega
          · exact absurd hd (by simp)
        have hc := State.originateData_carries (cls := d.cls) (k := k) (v := d.value) (payload := d.payload) (s := s) h.2.1
          (fun e => by have := h.2.2 e; omega)
        exact ⟨hc.ports, fun y => hc.frames (hl y), hc.events, hc.messages, hc.link⟩
    · exact (State.count_sends _ _).given _
  · exact (State.count_sends _ _).given _

/-- The oldest message taken out of its buffer. -/
theorem State.dropOldest_sends (s : State) : Sends s s.dropOldest := by
  refine Carries.ofLink (fun r h => ⟨h.places, h.reserved, h.idle, h.backlog, ?_⟩) (fun h => ⟨h.txQ, h.backlog, h.sending⟩) fun h => ?_
  · rw [List.length_drop]; exact (Nat.sub_le _ _).trans h.rx
  · rw [List.all_eq_true] at h ⊢
    exact fun m hm => h m (List.mem_of_mem_drop hm)

/-- Places reserved for a reply that are free (R179). -/
theorem State.reserve_carries {n : Nat} {s : State} (h : n ≤ s.link.free) (hp : 1 ≤ n) :
    Carries 0 n s { s with link := { s.link with reserved := s.link.reserved + n } } := by
  refine Carries.ofLink (fun r k => ⟨?_, ?_, k.idle, k.backlog, k.rx⟩) (fun h => ⟨h.txQ, h.backlog, h.sending⟩) id
  · have h8 : Config.txPlaces = 8 := rfl
    unfold Link.free at h
    dsimp only; omega
  · have := k.reserved
    dsimp only; omega

theorem State.drainLinkFuel_sends : ∀ (n : Nat) (s : State), Sends s (State.drainLinkFuel n s)
  | 0, s => Sends.refl s
  | n + 1, s => by
    unfold State.drainLinkFuel
    split
    · exact Sends.refl s
    · rename_i m rest hrx
      split
      · have hd := (s.dropOldest_sends.given _).trans (State.coachDataSend_carries m.payload s.dropOldest)
        refine (hd.discharge fun h => ?_).trans (State.drainLinkFuel_sends n _)
        have hx := (s.framesFit_iff.mp h).2.2.2
        rw [hrx, List.all_cons, Bool.and_eq_true] at hx
        exact of_decide_eq_true hx.1
      · split
        · split
          · exact (s.dropOldest_sends.trans (State.count_sends _ _)).trans (State.drainLinkFuel_sends n _)
          · split
            · exact Sends.refl s
            · split
              · rename_i hf
                exact ((s.dropOldest_sends.trans (State.reserve_carries hf (Nat.le_refl 1))).trans
                  (State.sendAnswer_carries .coachLink _ (.plain .badRequest) _)).trans (State.drainLinkFuel_sends n _)
              · exact Sends.refl s
        · exact Sends.refl s

theorem State.drainLink_sends (s : State) : Sends s s.drainLink := State.drainLinkFuel_sends _ s

theorem checkMessage_fits {bs : List Byte} {m : Message} (h : checkMessage bs = some m) : m.fits = true := by
  unfold checkMessage at h
  dsimp only at h
  split at h
  · rename_i hc
    cases h
    exact decide_eq_true ((List.length_take_le _ _).trans hc.1)
  · exact absurd h (by simp)

theorem State.closeMessage_sends (bytes : List Byte) (s : State) : Sends s (s.closeMessage bytes) := by
  unfold State.closeMessage
  split
  · rename_i m hm
    split
    · rename_i hl
      have hb : Sends s { s with link := { s.link with rx := s.link.rx ++ [m] } } :=
        Carries.ofLink (fun r h => ⟨h.places, h.reserved, h.idle, h.backlog, by rw [List.length_append]; exact hl⟩)
          (fun h => ⟨h.txQ, h.backlog, h.sending⟩) fun h => List.all_snoc h (checkMessage_fits hm)
      exact hb.trans (State.drainLink_sends _)
    · exact State.count_sends _ _
  · exact State.count_sends _ _

/-- The assembly of a message alone has changed. -/
theorem State.assemble_sends (a : Option (List Byte)) (s : State) : Sends s { s with link := { s.link with asm := a } } :=
  Carries.ofLink (fun _ h => ⟨h.places, h.reserved, h.idle, h.backlog, h.rx⟩) (fun h => ⟨h.txQ, h.backlog, h.sending⟩) id

theorem State.receiveByte_sends (b : Byte) (s : State) : Sends s (s.receiveByte b) := by
  unfold State.receiveByte
  split
  · split
    · exact s.assemble_sends _
    · exact Sends.refl s
  · dsimp only
    split
    · exact (s.assemble_sends none).trans (State.closeMessage_sends _ _)
    · exact s.assemble_sends _

theorem State.receiveBytes_sends (bytes : List Byte) (s : State) : Sends s (s.receiveBytes bytes) := by
  induction bytes generalizing s with
  | nil => exact Sends.refl s
  | cons b bs ih => exact (State.receiveByte_sends b s).trans (ih _)

theorem State.cutMessage_sends (s : State) : Sends s s.cutMessage := by
  unfold State.cutMessage
  split
  · exact (s.assemble_sends none).trans (State.count_sends _ _)
  · exact Sends.refl s

theorem State.linkTxComplete_sends (s : State) : Sends s s.linkTxComplete := by
  unfold State.linkTxComplete
  split
  · exact Sends.refl s
  · have hb : Sends s { s with link := { s.link with sending := none }.start } :=
      Carries.ofLink (fun r h => Link.start_fits h.places h.reserved h.backlog h.rx)
        (fun h => Link.start_messagesFit ⟨h.txQ, h.backlog, fun m e => by cases e⟩)
        fun h => by rw [(Link.start_keeps _).2.1]; exact h
    exact hb.trans (State.drainLink_sends _)

/-! ## Reception and relaying -/

theorem State.deliverNotice_sends (f : Frame) (s : State) : Sends s (s.deliverNotice f) := by
  unfold State.deliverNotice
  split
  · rename_i h
    refine State.pushMessage_sends (decide_eq_true ?_) s
    simp only [idBytes, be32, List.length_append, List.length_cons, List.length_nil, h]
    decide
  · exact Sends.refl s

theorem State.deliverFixed_sends (p : Port) (f : Frame) (s : State) : Sends s (s.deliverFixed p f) := by
  unfold State.deliverFixed
  split
  · exact State.deliverNotice_sends f s
  · split
    · exact Sends.refl s
    · split
      · split
        · exact (Idle.delivered _ s).sends
        · exact (Idle.delivered _ s).sends
        · exact Sends.refl s
        · exact Sends.refl s
      · exact (Idle.delivered _ s).sends

/-- A frame that may be relayed: in range, with a hop to spare (R11, R25). -/
def Frame.relayable (f : Frame) : Prop := f.wellFormed = true ∧ f.hop ≤ 39

theorem Frame.relayable_hop {f : Frame} (h : f.relayable) : ({ f with hop := f.hop + 1 } : Frame).wellFormed = true := by
  obtain ⟨hw, hh⟩ := h
  simp only [Frame.wellFormed, Bool.and_eq_true, decide_eq_true_eq, Bool.or_eq_true, bne_iff_ne] at hw ⊢
  obtain ⟨⟨⟨⟨⟨h1, _⟩, h3⟩, h4⟩, h5⟩, h6⟩ := hw
  exact ⟨⟨⟨⟨⟨h1, Nat.succ_le_succ hh⟩, h3⟩, h4⟩, h5⟩, h6⟩

theorem State.relayFrame_sends {f : Frame} (h : f.relayable) (p : Port) (u : Bool) (s : State) : Sends s (s.relayFrame p u f) :=
  State.sendOne_sends State.count_sends _ _ fun _ _ => Frame.relayable_hop h

theorem State.deliverData_sends (f : Frame) (s : State) : Sends s (s.deliverData f) := by
  unfold State.deliverData
  split
  · rename_i h
    refine State.pushMessage_sends (decide_eq_true ?_) s
    have h64 : maxCoachData = 64 := rfl
    have h72 : Config.maxMessagePayload = 72 := rfl
    simp only [idBytes, be32, List.length_append, List.length_cons, List.length_nil]
    omega
  · exact State.count_sends _ s

theorem State.handleFixed_sends {f : Frame} (h : f.relayable) (p : Port) (s : State) : Sends s (s.handleFixed p f) := by
  unfold State.handleFixed
  split
  · exact State.deliverFixed_sends p f s
  · exact State.relayFrame_sends h _ _ s
  · exact (State.deliverFixed_sends p f s).trans (State.relayFrame_sends h _ _ _)

theorem State.handleData_sends {f : Frame} (h : f.relayable) (p : Port) (s : State) : Sends s (s.handleData p f) := by
  unfold State.handleData
  dsimp only
  split
  · exact Sends.refl s
  · split
    · exact Sends.refl s
    · exact (Sends.ite (State.deliverData_sends f s) (Sends.refl s)).trans (Sends.ite (State.relayFrame_sends h _ _ _) (Sends.refl _))

theorem State.classify_sends {f : Frame} (h : f.relayable) (p : Port) (s : State) : Sends s (s.classify p f) := by
  unfold State.classify
  dsimp only
  split
  · exact (State.countClass_sends _ s).trans (State.handleFixed_sends h p _)
  · exact (State.countClass_sends _ s).trans (State.handleData_sends h p _)

/-- A frame that passes the three checks of an end unit is in range with a hop to spare (R9 to R11). -/
theorem checkFields_relayable {bytes : List Byte} {f : Frame} (hl : bytes.length ≤ Config.maxFrameBytes) (h : checkFields bytes = .good f) :
    f.relayable := by
  unfold checkFields at h
  dsimp only at h
  split at h
  · split at h
    · exact absurd h (by simp)
    · split at h
      · exact absurd h (by simp)
      · rename_i h1 h2
        cases h
        simp only [not_or, not_and, Nat.not_lt, Nat.not_le] at h1 h2
        obtain ⟨hc, hp, hv⟩ := h1
        refine ⟨?_, Nat.le_of_lt_succ h2⟩
        simp only [Frame.wellFormed, Bool.and_eq_true, decide_eq_true_eq, Bool.or_eq_true, bne_iff_ne]
        refine ⟨⟨⟨⟨⟨hc, Nat.le_of_lt h2⟩, Nat.le_of_lt_succ (BitVec.isLt _)⟩, hp⟩, ?_⟩, ?_⟩
        · have h282 : Config.maxFrameBytes = 282 := rfl
          rw [List.length_take]
          omega
        · exact (Decidable.em _).symm.imp_right hv
  · exact absurd h (by simp)

theorem checkFrame_relayable {a : Assembly} {f : Frame} (hl : a.bytes.length ≤ Config.maxFrameBytes) (h : checkFrame a = .good f) :
    f.relayable := by
  unfold checkFrame at h
  split at h
  · exact checkFields_relayable hl h
  · exact absurd h (by simp)

theorem Assembly.extend_length_le (a : Assembly) (more : List Byte) : (a.extend more).bytes.length ≤ Config.maxFrameBytes :=
  List.length_take_le _ _

theorem State.receive_sends (p : Port) {a : Assembly} (hl : a.bytes.length ≤ Config.maxFrameBytes) (s : State) : Sends s (s.receive p a) := by
  unfold State.receive
  split
  · exact State.count_sends _ _
  · exact State.count_sends _ _
  · rename_i h; exact State.classify_sends (checkFrame_relayable hl h) p s

theorem State.frameClosed_sends (p : Port) (bytes : List Byte) (byStart : Bool) (s : State) : Sends s (s.frameClosed p bytes byStart) := by
  unfold State.frameClosed
  split
  · rename_i hm
    have hm' : (s.port p).pilot = .mated := by simpa [State.mated] using hm
    refine Carries.trans (Carries.trans (Sends.setPort (fun h => ?_) fun _ h => ?_)
      (State.receive_sends p (Assembly.extend_length_le _ _) _)) (State.drainLine_sends _)
    · rw [LinePort.sound_iff] at h ⊢
      obtain ⟨k, hi⟩ := h
      exact ⟨⟨k.parted, k.mating, k.mated, fun e => absurd hm' e, k.urgent, k.normal, k.edges⟩, hi⟩
    · exact State.framesFit_port h p
  · exact Sends.refl s

theorem State.txComplete_sends (p : Port) (s : State) : Sends s (s.txComplete p) := by
  unfold State.txComplete
  split
  · exact Sends.refl s
  · refine Sends.setPort (fun h => LinePort.takeNext_sound ?_) fun _ h => LinePort.takeNext_framesFit ?_
    · obtain ⟨k, _⟩ := (LinePort.sound_iff _).mp h
      exact ⟨k.parted, k.mating, k.mated, fun e => ⟨rfl, (k.empty e).2.1, (k.empty e).2.2⟩, k.urgent, k.normal, k.edges⟩
    · obtain ⟨_, a, b⟩ := (LinePort.framesFit_iff _).mp (State.framesFit_port h p)
      exact (LinePort.framesFit_iff _).mpr ⟨(fun _ e => by cases e), a, b⟩

/-- A pilot window changes pilot state and counters alone (R5). -/
theorem LinePort.pilotMove_eq (x : LinePort) (good : Bool) : x.pilotMove good =
    { x with pilot := (x.pilotMove good).pilot, good := (x.pilotMove good).good, bad := (x.pilotMove good).bad, edges := 0 } := by
  unfold LinePort.pilotMove
  split <;> split <;> (try split) <;> rfl

/-- The counters fit the pilot state (R5). -/
structure LinePort.Counts (x : LinePort) : Prop where
  parted : x.pilot = .parted → x.good = 0 ∧ x.bad = 0
  mating : x.pilot = .mating → 1 ≤ x.good ∧ x.good ≤ 19 ∧ x.bad = 0
  mated : x.pilot = .mated → x.good = 0 ∧ x.bad ≤ 4

theorem LinePort.pilotMove_counts {x : LinePort} (h : x.Counts) (good : Bool) : (x.pilotMove good).Counts := by
  have h20 : windowsToMate = 20 := rfl
  have h5 : windowsToPart = 5 := rfl
  unfold LinePort.pilotMove
  split <;> rename_i hp
  · obtain ⟨a, b⟩ := h.parted hp
    split <;> constructor <;> simp [hp, a, b]
  · obtain ⟨a, b, c⟩ := h.mating hp
    split
    · split <;> (constructor <;> simp [hp, c]; try omega)
    · constructor <;> simp [c]
  · obtain ⟨a, b⟩ := h.mated hp
    split
    · constructor <;> simp [hp, a]
    · split <;> (constructor <;> simp [hp, a]; try omega)

theorem LinePort.Held.counts {x : LinePort} (h : x.Held) : x.Counts := ⟨h.parted, h.mating, h.mated⟩

/-- An end that enters MATED has nothing to send (R6). -/
theorem LinePort.arm_sound {x : LinePort} {good : Bool} (h : x.sound = true) (hx : x.pilot ≠ .mated)
    (hy : (x.pilotMove good).pilot = .mated) : (x.pilotMove good).arm.sound = true := by
  obtain ⟨k, _⟩ := x.sound_iff.mp h
  obtain ⟨a, b, c, d⟩ := k.empty hx
  obtain ⟨u, v, w⟩ := LinePort.pilotMove_counts k.counts good
  rw [LinePort.sound_iff]
  rw [LinePort.pilotMove_eq] at *
  exact ⟨⟨u, v, w, fun e => absurd hy e, k.urgent, k.normal, rfl⟩, fun _ => ⟨c, d⟩⟩

theorem LinePort.flush_sound {x : LinePort} {good : Bool} (h : x.sound = true) : (x.pilotMove good).flush.sound = true := by
  obtain ⟨k, _⟩ := x.sound_iff.mp h
  obtain ⟨u, v, w⟩ := LinePort.pilotMove_counts k.counts good
  rw [LinePort.sound_iff]
  rw [LinePort.pilotMove_eq] at *
  exact ⟨⟨u, v, w, fun _ => ⟨rfl, rfl, rfl, rfl⟩, Nat.zero_le _, Nat.zero_le _, rfl⟩, fun _ => ⟨rfl, rfl⟩⟩

/-- An end that neither enters nor leaves MATED keeps what it holds (R5). -/
theorem LinePort.pilotMove_sound {x : LinePort} {good : Bool} (h : x.sound = true) (hm : (x.pilotMove good).pilot ≠ .mated → x.pilot ≠ .mated) :
    (x.pilotMove good).sound = true := by
  obtain ⟨k, hi⟩ := x.sound_iff.mp h
  obtain ⟨u, v, w⟩ := LinePort.pilotMove_counts k.counts good
  rw [LinePort.sound_iff]
  rw [LinePort.pilotMove_eq] at *
  exact ⟨⟨u, v, w, fun e => k.empty (hm e), k.urgent, k.normal, rfl⟩, hi⟩

theorem LinePort.pilotMove_framesFit {x : LinePort} {good : Bool} (h : x.framesFit = true) : (x.pilotMove good).framesFit = true := by
  rw [LinePort.pilotMove_eq]; exact h

theorem State.pilotWindow_sends (p : Port) (edges : Nat) (s : State) : Sends s (s.pilotWindow p edges) := by
  unfold State.pilotWindow
  dsimp only
  split
  · rename_i h
    refine Carries.trans (Sends.setPort (fun k => LinePort.arm_sound k h.1 h.2) fun _ k => ?_) (State.matedReport_sends _ _ _)
    obtain ⟨_, a, b⟩ := (LinePort.framesFit_iff _).mp (LinePort.pilotMove_framesFit (State.framesFit_port k p))
    exact (LinePort.framesFit_iff _).mpr ⟨(fun _ e => by cases e), a, b⟩
  · split
    · refine Carries.trans (Carries.trans (Sends.setPort (fun k => LinePort.flush_sound k) fun _ k => rfl) (State.countTimes_sends _ _ _))
        (State.matedReport_sends _ _ _)
    · rename_i h
      exact Sends.setPort (fun k => LinePort.pilotMove_sound k fun e m => h ⟨m, e⟩)
        fun _ k => LinePort.pilotMove_framesFit (State.framesFit_port k p)

end Sys2Proof.Machine
end

section
/-! PROOFS. What travels stays sound through requests, replies and start-up; and so every step keeps end units, frames, coach link, tables,
converter and counters (O9, O10, O11). -/

namespace Sys2Proof.Machine

/-! ## Requests -/

/-- The places that an answer to a request of the route needs (R179). -/
def Answer.needed (o : Origin) (a : Answer) : Nat :=
  match o with
  | .coachLink => a.places
  | .line _ _ _ => 0

/-- A request is answered with what travels kept sound: its places are taken by a reply now, or kept for the reply of a STORE. -/
structure Answered (o : Origin) (s : State) (x : Answer × State) : Prop where
  carries : Carries (x.1.needed o) (x.1.taken o) s x.2

theorem Answered.now {s t : State} (h : Sends s t) (o : Origin) (st : Status) (results : List Byte) : Answered o s (.now st results, t) := by
  cases o with
  | line port asker dir => exact ⟨h⟩
  | coachLink => exact ⟨h.with _⟩

theorem Answered.same (o : Origin) (s : State) (st : Status) (results : List Byte) : Answered o s (.now st results, s) :=
  .now (Sends.refl s) o st results

theorem State.clearFlags_sends (m : BitVec 13) (s : State) : Sends s (s.clearFlags m) := by
  have h : Idle s { s with notices := { s.notices with flags := s.notices.flags &&& ~~~m } } := Idle.same
  unfold State.clearFlags
  dsimp only
  split
  · exact (State.raise_sends _ _).from h
  · exact h.sends

theorem Events.clear_fits {n : Nat} {e : Events} (h : e.Fits n) : e.clear.Fits n :=
  ⟨(List.length_map _).trans h.size, by simp [Events.clear, Counter.fits], Nat.zero_le _⟩

theorem Events.resize_fits {n : Nat} {e : Events} (h : e.Fits n) (m : Nat) : (e.resize m).Fits m := by
  refine ⟨?_, ?_, h.exceptions⟩
  · simp only [Events.resize, List.length_append, List.length_take, List.length_replicate]
    omega
  · have hz : Counter.fits { recent := 0, wide := 0 } = true := by decide
    have hc := List.all_eq_true.mp h.counters
    simp only [Events.resize, List.all_append, Bool.and_eq_true, List.all_eq_true]
    refine ⟨fun c hm => hc c (List.mem_of_mem_take hm), fun c hm => ?_⟩
    rw [(List.mem_replicate.mp hm).2]; exact hz

/-- An APPLY hands the array its new size together with the tables (R163, R175). -/
theorem State.applyArray_sends (s : State) :
    Sends s (({ s with mgmt := { s.mgmt with working := s.mgmt.staging } } : State).applyArray s.mgmt.working) := by
  rw [State.applyArray_eq]
  refine ⟨id, fun _ h => ?_, fun h => ?_, id, fun _ => id⟩
  · rw [State.framesFit_iff] at h ⊢
    exact ⟨h.1, h.2.1, h.2.2.1.congr rfl rfl, h.2.2.2⟩
  · rw [State.eventsSound_iff] at h ⊢
    dsimp only
    split
    · rename_i e; rw [← e]; exact h
    · exact Events.resize_fits h _

theorem State.applyHeat_idle (old : HeatTable) (s : State) : Idle s (s.applyHeat old) := by
  rw [State.applyHeat_eq]
  exact ⟨rfl, rfl, rfl, rfl, rfl, rfl, fun x => ⟨x.position, x.epoch, x.lastEpoch, x.recs⟩⟩

theorem State.applyEnds_sends (old : CoachTable) (s : State) : Sends s (s.applyEnds old) := by
  have report : ∀ (k : TopologyKind) (c : Prop) [Decidable c] (t : State), Sends t (if c then t else t.mappingReport k) := by
    intro k c _ t
    split
    · exact Sends.refl t
    · exact State.mappingReport_sends k t
  exact (report .numbering _ s).trans (report .cabEnd _ _)

theorem State.applyRole_sends (old : CoachTable) (s : State) : Sends s (s.applyRole old) := by
  unfold State.applyRole
  split
  · exact Sends.refl s
  · split
    · split
      · exact State.judgeRole_sends s
      · exact Sends.refl s
    · split
      · exact State.loseRole_sends _ s
      · exact Sends.refl s

theorem State.switchTables_sends (s : State) : Sends s s.switchTables := by
  rw [State.switchTables_eq]
  exact ((((State.applyArray_sends s).trans (State.applyDoors_sends _ _)).to (State.applyHeat_idle _ _)).trans
    (State.applyEnds_sends _ _)).trans (State.applyRole_sends _ _)

theorem State.loadFields_idle (name : TableName) (n : Nat) (vs : List Nat) (s : State) : Idle s (s.loadFields name n vs) := by
  obtain ⟨g, k, e⟩ := s.loadFields_cases name n vs
  rw [e]
  exact ⟨rfl, rfl, rfl, rfl, rfl, rfl, fun x => ⟨x.position, x.epoch, x.lastEpoch, x.recs⟩⟩

theorem State.changeSense_sends (v : SenseSettings) (s : State) : Sends s (s.changeSense v) := by
  have h : Idle s (({ s with sense := s.sense.change v } : State).handCoverage s.sense) := Idle.same
  unfold State.changeSense
  dsimp only
  split
  · exact (State.raise_sends _ _).from h
  · exact h.sends

theorem State.clearGroupFault_idle (k : Nat) (s : State) : Idle s (State.clearGroupFault k s) := by
  unfold State.clearGroupFault
  split
  · exact Idle.same
  · exact Idle.same

theorem State.clearGroups_idle (ks : List Nat) (s : State) : Idle s (ks.foldl (fun acc k => State.clearGroupFault k acc) s) := by
  induction ks generalizing s with
  | nil => exact Idle.same
  | cons k ks ih => exact (State.clearGroupFault_idle k s).trans (ih _)

theorem storeAct_answered (o : Origin) (r : Request) (s : State) : Answered o s (storeAct o r s) := by
  unfold storeAct
  split
  · exact .same o s _ _
  · rename_i h
    have hi : s.mgmt.store = .idle := not_not.mp h
    have hk : s.mgmt.keptPlaces = 0 := by rw [Mgmt.keptPlaces, hi]
    refine ⟨⟨id, fun _ x => ?_, id, id, fun n x => ?_⟩⟩
    · rw [State.framesFit_iff] at x ⊢
      exact ⟨x.1, x.2.1, x.2.2.1.congr rfl rfl, x.2.2.2⟩
    · rw [hk] at x
      cases o with
      | line port asker dir => exact x
      | coachLink =>
        rw [show 0 + (n + Answer.needed .coachLink .later) = 1 + (n + 0) from by
          rw [show Answer.needed .coachLink .later = 1 from rfl]; omega] at x
        exact x

theorem groupFaultAct_answered (o : Origin) (r : Request) (s : State) : Answered o s (groupFaultAct o r s) := by
  unfold groupFaultAct
  dsimp only
  split
  · exact .now (((State.clearGroups_idle [0, 1, 2, 3] s).trans (State.formR_idle _)).sends) o _ _
  · split
    · exact .same o s _ _
    · split
      · exact .same o s _ _
      · exact .now (((State.clearGroupFault_idle _ s).trans (State.formR_idle _)).sends) o _ _

/-- Every request keeps what travels sound. -/
theorem Service.act_answered {v : Service} (hv : v ∈ services) (o : Origin) (r : Request) (s : State) : Answered o s (v.act o r s) := by
  simp only [services, List.mem_cons, List.not_mem_nil, or_false] at hv
  rcases hv with rfl | rfl | rfl | rfl | rfl | rfl | rfl | rfl | rfl | rfl | rfl | rfl | rfl | rfl | rfl | rfl | rfl | rfl | rfl | rfl |
    rfl | rfl
  · exact .same o s _ _
  · exact .same o s _ _
  · exact .same o s _ _
  · exact .same o s _ _
  · exact .same o s _ _
  · exact .now (Idle.sends .same) o _ _
  · show Answered o s (countersAct o r s)
    unfold countersAct; dsimp only; split <;> exact .same o s _ _
  · exact .same o s _ _
  · exact .now (Sends.events fun _ h => Events.clear_fits h) o _ _
  · show Answered o s (clearNoticesAct o r s)
    unfold clearNoticesAct; split
    · exact .now (State.clearFlags_sends _ s) o _ _
    · exact .same o s _ _
  · show Answered o s (setEnableAct o r s)
    unfold setEnableAct; split
    · exact .now (Idle.sends .same) o _ _
    · exact .same o s _ _
  · show Answered o s (loadAct o r s)
    unfold loadAct; split
    · split
      · split
        · exact .same o s _ _
        · exact .now (State.loadFields_idle _ _ _ s).sends o _ _
      · exact .same o s _ _
    · exact .same o s _ _
  · show Answered o s (applyAct o r s)
    unfold applyAct; split
    · exact .same o s _ _
    · split
      · exact .same o s _ _
      · exact .now s.switchTables_sends o _ _
  · exact storeAct_answered o r s
  · show Answered o s (budgetAct o r s)
    unfold budgetAct; split
    · have h (b : Nat) : Idle s { s with alloc := { s.alloc with budget := b } } :=
        ⟨rfl, rfl, rfl, rfl, rfl, rfl, fun x => ⟨x.position, x.epoch, x.lastEpoch, x.recs⟩⟩
      exact .now (h _).sends o _ _
    · exact .same o s _ _
  · show Answered o s (setSenseAct o r s)
    unfold setSenseAct; split
    · exact .now (s.changeSense_sends _) o _ _
    · exact .same o s _ _
  · exact .now (Idle.sends .same) o _ _
  · exact .now (Idle.sends .same) o _ _
  · exact .now (Idle.sends .same) o _ _
  · exact groupFaultAct_answered o r s
  · show Answered o s (recensusAct o r s)
    unfold recensusAct; split
    · exact .same o s _ _
    · exact .now (s.startAttempt_sends 0) o _ _
  · show Answered o s (restartAct o r s)
    unfold restartAct; split
    · exact .same o s _ _
    · have h : Idle s { s with mgmt := { s.mgmt with restart := some Config.restartMs } } :=
        ⟨rfl, rfl, rfl, rfl, rfl, rfl, fun x => ⟨x.position, x.epoch, x.lastEpoch, x.recs⟩⟩
      exact .now h.sends o _ _

theorem State.judge_answered {v : Service} (hv : v ∈ services) (o : Origin) (r : Request) (s : State) : Answered o s (s.judge v o r) := by
  unfold State.judge
  split
  · exact .same o s _ _
  · split
    · exact .same o s _ _
    · exact Service.act_answered hv o r s

/-- The answer with the places reserved for it: judged, and sent. -/
theorem State.answer_carries {v : Service} (hv : v ∈ services) (o : Origin) (r : Request) (s : State) :
    Carries ((s.judge v o r).1.needed o) 0 s (s.answer v o r) :=
  Carries.trans (State.judge_answered hv o r s).carries (State.sendAnswer_carries o r _ _)

theorem Answer.places_now {st st' : Status} {a b : List Byte} (h : a.length = b.length) :
    (Answer.now st a).places = (Answer.now st' b).places := by
  simp only [Answer.places, pieces_length_congr linkPartBytes Config.maxParts h]

theorem State.groupStates_length (s : State) : s.groupStates.length = s.heater.groups.length := List.length_map _

theorem State.clearGroupFault_length (k : Nat) (s : State) : (State.clearGroupFault k s).heater.groups.length = s.heater.groups.length := by
  unfold State.clearGroupFault
  split
  · rfl
  · exact State.changeGroup_length _ _ _

theorem State.clearGroups_length (ks : List Nat) (s : State) :
    (ks.foldl (fun acc k => State.clearGroupFault k acc) s).heater.groups.length = s.heater.groups.length := by
  induction ks generalizing s with
  | nil => rfl
  | cons k ks ih => exact (ih _).trans (State.clearGroupFault_length k s)

/-- A reply to CLEAR GROUP FAULT carries the state of every group, whatever the request does. -/
theorem groupFaultAct_places (o : Origin) (r : Request) (s : State) :
    (groupFaultAct o r s).1.places = (Answer.now .ok s.groupStates).places := by
  have hr (t : State) : t.formR.heater.groups.length = t.heater.groups.length := rfl
  have h {t : State} (st : Status) (e : t.heater.groups.length = s.heater.groups.length) :
      (Answer.now st t.groupStates).places = (Answer.now .ok s.groupStates).places :=
    Answer.places_now (by rw [State.groupStates_length, State.groupStates_length, e])
  unfold groupFaultAct
  dsimp only
  split
  · exact h .ok ((hr _).trans (State.clearGroups_length [0, 1, 2, 3] s))
  · split
    · exact h (t := s) .badRange rfl
    · split
      · exact h (t := s) .refused rfl
      · exact h .ok ((hr _).trans (State.clearGroupFault_length _ s))

/-- The number of the places that an answer needs does not depend on the coach link (R179). -/
theorem Service.act_places {v : Service} (hv : v ∈ services) (o : Origin) (r : Request) (s : State) (l : Link) :
    (v.act o r { s with link := l }).1.places = (v.act o r s).1.places := by
  simp only [services, List.mem_cons, List.not_mem_nil, or_false] at hv
  rcases hv with rfl | rfl | rfl | rfl | rfl | rfl | rfl | rfl | rfl | rfl | rfl | rfl | rfl | rfl | rfl | rfl | rfl | rfl | rfl | rfl |
    rfl | rfl
  · rfl
  · rfl
  · rfl
  · rfl
  · rfl
  · rfl
  · show (countersAct o r _).1.places = (countersAct o r s).1.places
    unfold countersAct; dsimp only; split <;> rfl
  · rfl
  · rfl
  · show (clearNoticesAct o r _).1.places = (clearNoticesAct o r s).1.places
    unfold clearNoticesAct; split
    · exact Answer.places_now rfl
    · rfl
  · show (setEnableAct o r _).1.places = (setEnableAct o r s).1.places
    unfold setEnableAct; split <;> rfl
  · show (loadAct o r _).1.places = (loadAct o r s).1.places
    unfold loadAct; split
    · split
      · split
        · rfl
        · refine Answer.places_now ?_
          simp [listBytes, Tables.getFrom, List.length_flatMap, Function.comp_def, be16]
      · rfl
    · rfl
  · show (applyAct o r _).1.places = (applyAct o r s).1.places
    unfold applyAct
    rw [show State.applyRefused { s with link := l } = s.applyRefused from rfl]
    dsimp only; split
    · rfl
    · split <;> rfl
  · show (storeAct o r _).1.places = (storeAct o r s).1.places
    unfold storeAct; dsimp only; split <;> rfl
  · show (budgetAct o r _).1.places = (budgetAct o r s).1.places
    unfold budgetAct
    rw [show State.isLead { s with link := l } = s.isLead from rfl]
    split <;> rfl
  · show (setSenseAct o r _).1.places = (setSenseAct o r s).1.places
    unfold setSenseAct; split <;> rfl
  · rfl
  · rfl
  · rfl
  · exact (groupFaultAct_places o r _).trans (groupFaultAct_places o r s).symm
  · show (recensusAct o r _).1.places = (recensusAct o r s).1.places
    unfold recensusAct
    rw [show State.isLead { s with link := l } = s.isLead from rfl]
    split <;> rfl
  · show (restartAct o r _).1.places = (restartAct o r s).1.places
    unfold restartAct; dsimp only; split <;> rfl

theorem State.judge_places {v : Service} (hv : v ∈ services) (o : Origin) (r : Request) (s : State) (l : Link) :
    (({ s with link := l } : State).judge v o r).1.places = (s.judge v o r).1.places := by
  unfold State.judge
  dsimp only
  split
  · rfl
  · split
    · rfl
    · exact Service.act_places hv o r s l

theorem State.serve_sends {v : Service} (hv : v ∈ services) (route : Route) (s : State) : Sends s (s.serve route v) := by
  cases route with
  | line =>
    show Sends s (s.serveLine v)
    unfold State.serveLine
    split
    · exact Sends.refl s
    · split
      · exact Sends.refl s
      · split
        · exact (((State.answer_carries hv (.line _ _ _) _ _).trans (State.drainLine_sends _)).trans (State.drainLink_sends _)).from
            (Idle.delivered _ s)
        · exact Sends.refl s
  | coachLink =>
    show Sends s (s.serveLink v)
    unfold State.serveLink
    split
    · exact Sends.refl s
    · split
      · split
        · exact Sends.refl s
        · rename_i r _
          split
          · dsimp only
            split
            · exact Sends.refl s
            · rename_i h
              have hr := State.reserve_carries (s := s.dropOldest) (Nat.le_of_not_lt h) (Answer.places_pos _).1
              have ha := State.answer_carries hv .coachLink r { s.dropOldest with
                link := { s.dropOldest.link with reserved := s.dropOldest.link.reserved + (s.judge v .coachLink r).1.places } }
              have hp : (State.judge v .coachLink r { s.dropOldest with
                link := { s.dropOldest.link with reserved := s.dropOldest.link.reserved + (s.judge v .coachLink r).1.places } }).1.needed
                  .coachLink = (s.judge v .coachLink r).1.places := State.judge_places hv .coachLink r s _
              rw [hp] at ha
              exact ((s.dropOldest_sends.trans hr).trans ha).trans (State.drainLink_sends _)
          · exact Sends.refl s
      · exact Sends.refl s

/-! ## The store and start-up -/

theorem State.storeDone_sends (s : State) : Sends s s.storeDone := by
  unfold State.storeDone
  split
  · rename_i image o tag h
    refine Carries.trans ?_ (State.drainLink_sends _)
    have hw : Carries 0 ((Answer.plain .ok).taken o) s { s with mgmt := { s.mgmt with image := some image, store := .idle } } := by
      refine ⟨id, fun _ x => ?_, id, id, fun n x => ?_⟩
      · rw [State.framesFit_iff] at x ⊢
        exact ⟨x.1, x.2.1, x.2.2.1.congr rfl rfl, x.2.2.2⟩
      · rw [Mgmt.keptPlaces, h] at x
        cases o with
        | line port asker dir => exact x
        | coachLink =>
          rw [show 1 + (n + 0) = 0 + (n + Answer.taken .coachLink (.plain .ok)) from by
            rw [show Answer.taken .coachLink (.plain .ok) = 1 from rfl]; omega] at x
          exact x
    exact hw.trans (State.sendAnswer_carries o { kind := storeCode, tag := tag, args := [] } (.plain .ok) _)
  · exact Sends.refl s

theorem State.startConditions_sends (s : State) : Sends s s.startConditions :=
  (Sends.ite (State.raise_sends .configDefaulted s) (Sends.refl s)).trans (Sends.ite (State.raise_sends .senseDegraded _) (Sends.refl _))

theorem Sounds.trans {s t u : State} (h : Sounds s t) (k : Sounds t u) : Sounds s u :=
  ⟨fun x => k.ports (h.ports x), fun x => k.frames (h.frames x), fun x => k.events (h.events x), fun x => k.messages (h.messages x),
    fun x => k.link (h.link x)⟩

theorem Link.reset_messagesFit : Link.reset.MessagesFit := ⟨rfl, rfl, fun _ e => by cases e⟩

theorem Link.reset_fits : Link.reset.Fits 0 := ⟨by decide, by decide, fun _ => ⟨rfl, rfl⟩, .inl rfl, by decide⟩

/-- A node just started holds nothing for sending. -/
theorem State.blank_sounds {s : State} {pins : ResetPins} {keep : Bool} {ev : Events}
    (he : s.eventsSound = true → ev.Fits (startTables s.mgmt.soundImage).coach.arraySize) : Sounds s (s.blank pins keep ev) :=
  ⟨fun _ => rfl, fun _ => rfl, fun h => (State.eventsSound_iff _).mpr (he h), fun _ => Link.reset_messagesFit, fun _ => Link.reset_fits⟩

theorem Events.reset_fits (n : Nat) : (Events.reset n).Fits n :=
  ⟨List.length_replicate, by simp [Events.reset, Counter.fits], Nat.zero_le _⟩

theorem State.keptEvents_fits {s : State} (h : s.eventsSound = true) : s.keptEvents.Fits (startTables s.mgmt.soundImage).coach.arraySize := by
  rw [State.eventsSound_iff] at h
  unfold State.keptEvents
  dsimp only
  split
  · rename_i e; rw [e]; exact h
  · exact Events.resize_fits h _

theorem State.powerOn_sounds (pins : ResetPins) (s : State) : Sounds s (s.powerOn pins) :=
  (State.blank_sounds fun _ => Events.reset_fits _).trans (State.startConditions_sends _).sounds

theorem State.restartNow_sounds (pins : ResetPins) (s : State) : Sounds s (s.restartNow pins) := by
  unfold State.restartNow
  split
  · exact (Sends.refl s).sounds
  · exact (State.blank_sounds State.keptEvents_fits).trans (State.startConditions_sends _).sounds

theorem State.powerLost_sounds (s : State) : Sounds s s.powerLost :=
  ⟨fun _ => rfl, fun _ => rfl, fun _ => rfl, fun _ => Link.reset_messagesFit, fun _ => Link.reset_fits⟩

/-! ## Every command -/

theorem Sends.delivered {cls : Nat} {act : Delivery → State → State} (ha : ∀ d s, Sends s (act d s)) (s : State) :
    Sends s (s.takeDelivered cls act) := by
  unfold State.takeDelivered
  split
  · exact (ha _ _).from (Idle.delivered _ s)
  · exact Sends.refl s

theorem Sends.message {kind : Nat} {act : List Byte → State → State} (ha : ∀ p s, Sends s (act p s)) (s : State) :
    Sends s (s.takeMessage kind act) := by
  unfold State.takeMessage
  split
  · split
    · exact (s.dropOldest_sends.trans (ha _ _)).trans (State.drainLink_sends _)
    · exact Sends.refl s
  · exact Sends.refl s

theorem State.takeDemand_sends (p : List Byte) (s : State) : Sends s (s.takeDemand p) := by
  unfold State.takeDemand
  split
  · exact Idle.sends .same
  · exact State.count_sends _ _

theorem State.demandTimeout_sends (s : State) : Sends s s.demandTimeout := by
  unfold State.demandTimeout
  split
  · exact Sends.refl s
  · exact Idle.sends .same

theorem State.pacerTick_sends (s : State) : Sends s s.pacerTick := by
  unfold State.pacerTick
  split
  · exact Idle.sends .same
  · exact Sends.refl s

theorem State.conversionDone_sends (code : Code) (s : State) : Sends s (s.conversionDone code) := by
  unfold State.conversionDone
  split
  · dsimp only
    split
    · exact (State.raise_sends _ _).from Idle.same
    · exact Idle.sends .same
  · exact Sends.refl s

theorem Sounds.run {f : State → State} {s t : State} (hf : Sounds s (f s)) (h : s.run f = .next t) : Sounds s t := by
  unfold State.run at h
  cases h
  split
  · exact hf
  · exact (Sends.refl s).sounds

theorem Sends.run {f : State → State} {s t : State} (hf : Sends s (f s)) (h : s.run f = .next t) : Sounds s t := Sounds.run hf.sounds h

/-- Every command keeps end units, frames, counters and coach link sound. -/
theorem exec_sounds {c : Instr} {s t : State} (h : exec c s = .next t) : Sounds s t := by
  cases c with
  | powerOn pins => cases h; exact s.powerOn_sounds pins
  | powerLoss => cases h; exact s.powerLost_sounds
  | pilotWindowClose p edges => exact Sends.run (s.pilotWindow_sends p edges) h
  | lineFrameClosed p bytes byStart => exact Sends.run (s.frameClosed_sends p bytes byStart) h
  | lineTxComplete p => exact Sends.run (s.txComplete_sends p) h
  | censusCallTaken => exact Sends.run (Sends.delivered (fun d => (Event.call d).act_sends) s) h
  | censusReturnTaken => exact Sends.run (Sends.delivered (fun d => (Event.censusReturn d).act_sends) s) h
  | consistAnnounceTaken => exact Sends.run (Sends.delivered (fun d => (Event.announce d).act_sends) s) h
  | topologyChangeTaken => exact Sends.run (Sends.delivered (fun d => (Event.topology d.frame.payload).act_sends) s) h
  | beaconTaken => exact Sends.run (Sends.delivered (fun d => State.takeBeacon_sends d.frame) s) h
  | doorOrderTaken => exact Sends.run (Sends.delivered (fun d => (Event.order d).act_sends) s) h
  | doorStateTaken => exact Sends.run (Sends.delivered (fun d => (Event.doorState d).act_sends) s) h
  | heatDemandTaken => exact Sends.run (Sends.delivered (fun d => (Event.heatDemand d).act_sends) s) h
  | heatGrantTaken => exact Sends.run (Sends.delivered (fun d => (Event.heatGrant d).act_sends) s) h
  | cabAssertionTaken => exact Sends.run (Event.cabAssertion.act_sends s) h
  | cabReleaseTaken => exact Sends.run (Event.cabRelease.act_sends s) h
  | censusTimerExpiry => exact Sends.run (Event.censusTimeout.act_sends s) h
  | surveyHoldExpiry => exact Sends.run (Event.surveyTimeout.act_sends s) h
  | cycleTick => exact Sends.run s.cycleTick_sends h
  | slotBoundary => exact Sends.run s.slotBoundary_sends h
  | zspChangeTaken level => exact Sends.run ((Event.zsp level).act_sends s) h
  | supervisionTimerExpiry => exact Sends.run (Event.supervisionExpiry.act_sends s) h
  | doorCommand => exact Sends.run (Sends.message (fun p => (Event.doorCommand p).act_sends) s) h
  | loopChangeTaken sd level => exact Sends.run ((Event.loop sd level).act_sends s) h
  | maximumReleaseTimeExpiry sd => exact Sends.run ((Event.releaseTimeout sd).act_sends s) h
  | warningLeadTimeExpiry sd => exact Sends.run ((Event.warningTimeout sd).act_sends s) h
  | closeTimeoutExpiry sd => exact Sends.run ((Event.closeTimeout sd).act_sends s) h
  | warningPhaseChange sd => exact Sends.run ((Event.phase sd).act_sends s) h
  | doorReport => exact Sends.run (Sends.message (fun p => (Event.doorReport p).act_sends) s) h
  | demand => exact Sends.run (Sends.message State.takeDemand_sends s) h
  | demandHoldExpiry => exact Sends.run s.demandTimeout_sends h
  | pacerTick => exact Sends.run s.pacerTick_sends h
  | conversionComplete code => exact Sends.run (s.conversionDone_sends code) h
  | coachLinkMessageComplete bytes => exact Sends.run (s.receiveBytes_sends bytes) h
  | coachLinkByteTimeout bytes =>
    exact Sends.run (f := fun x => (x.receiveBytes bytes).cutMessage)
      ((s.receiveBytes_sends bytes).trans (State.cutMessage_sends _)) h
  | coachLinkTxComplete => exact Sends.run s.linkTxComplete_sends h
  | identify r => exact Sends.run (State.serve_sends (by simp [services]) r s) h
  | readConsist r => exact Sends.run (State.serve_sends (by simp [services]) r s) h
  | readDoor r => exact Sends.run (State.serve_sends (by simp [services]) r s) h
  | readHeating r => exact Sends.run (State.serve_sends (by simp [services]) r s) h
  | readSense r => exact Sends.run (State.serve_sends (by simp [services]) r s) h
  | readCapture r => exact Sends.run (State.serve_sends (by simp [services]) r s) h
  | readCounters r => exact Sends.run (State.serve_sends (by simp [services]) r s) h
  | readNotices r => exact Sends.run (State.serve_sends (by simp [services]) r s) h
  | clearCounters r => exact Sends.run (State.serve_sends (by simp [services]) r s) h
  | clearNotices r => exact Sends.run (State.serve_sends (by simp [services]) r s) h
  | setNoticeEnable r => exact Sends.run (State.serve_sends (by simp [services]) r s) h
  | loadTable r => exact Sends.run (State.serve_sends (by simp [services]) r s) h
  | apply r => exact Sends.run (State.serve_sends (by simp [services]) r s) h
  | store r => exact Sends.run (State.serve_sends (by simp [services]) r s) h
  | storeWriteComplete => exact Sends.run s.storeDone_sends h
  | setBudget r => exact Sends.run (State.serve_sends (by simp [services]) r s) h
  | setSense r => exact Sends.run (State.serve_sends (by simp [services]) r s) h
  | sample r => exact Sends.run (State.serve_sends (by simp [services]) r s) h
  | startCapture r => exact Sends.run (State.serve_sends (by simp [services]) r s) h
  | stopCapture r => exact Sends.run (State.serve_sends (by simp [services]) r s) h
  | clearGroupFault r => exact Sends.run (State.serve_sends (by simp [services]) r s) h
  | recensus r => exact Sends.run (State.serve_sends (by simp [services]) r s) h
  | restart r => exact Sends.run (State.serve_sends (by simp [services]) r s) h
  | restartTakesEffect pins => exact Sounds.run (s.restartNow_sounds pins) h
  | coachLinkByteError bytes =>
    exact Sends.run (f := fun x => (x.receiveBytes bytes).cutMessage)
      ((s.receiveBytes_sends bytes).trans (State.cutMessage_sends _)) h

theorem State.passMs_idle (s : State) : Idle s s.passMs := by
  unfold State.passMs
  split
  · exact ⟨rfl, rfl, rfl, rfl, rfl, rfl, fun x => ⟨x.position, x.epoch, x.lastEpoch, x.recs⟩⟩
  · exact .same

/-- Every step keeps end units, frames, counters and coach link sound. -/
theorem step_sounds {s t : State} (h : step s = .next t) : Sounds s t := by
  unfold step at h
  split at h
  · cases h; exact s.passMs_idle.sends.sounds
  · rename_i c rest _
    exact (Idle.sends (s := s) (t := { s with pending := rest }) .same).sounds.trans (exec_sounds h)

end Sys2Proof.Machine
end

section

open Sys2Proof Sys2Proof.Machine

/-- Settles O9: nothing but sound frames enters an end unit, and no frame but where there is room for it. -/
theorem stepKeepsPortsAndFrames : Obligations.StepKeepsPortsAndFrames :=
  fun _ _ h => ⟨(step_sounds h).ports, (step_sounds h).frames⟩

/-- Settles O10: every part of a reply takes a place that was free and has been reserved for it. -/
theorem stepKeepsLinkSound : Obligations.StepKeepsLinkSound := by
  intro s t hm hl h
  rw [State.messagesFit_iff] at hm ⊢
  rw [State.linkSound_iff] at hl ⊢
  exact ⟨(step_sounds h).messages hm, (step_sounds h).link hl⟩

/-- Settles O11: tables, converter and counters stay in their ranges. -/
theorem stepKeepsTablesSenseCounters : Obligations.StepKeepsTablesSenseCounters := by
  intro s t h
  rw [State.tablesSound_iff, State.tablesSound_iff, State.senseSound_iff, State.senseSound_iff]
  refine ⟨tables_kept.step (fun _ _ k => k) (fun _ => State.passMs_tables) h, fun ht hs => ?_, (step_sounds h).events⟩
  exact (sense_kept.step (fun _ _ k => k) (fun _ k => ⟨State.passMs_tables k.1, State.passMs_sense_fits k.2⟩) h ⟨ht, hs⟩).2

end

section
/-! PROOFS. What sending does where there is room: a frame offered to an idle end, a message offered to a busy coach link, a condition that
arises, each as one equation. -/

namespace Sys2Proof.Machine

/-! ## Frames -/

/-- A frame offered to an idle end is begun at once, whatever its urgency (R28). -/
theorem LinePort.enqueue_idle {x : LinePort} (hm : x.pilot = .mated) (ht : x.tx = none) (hu : x.urgentQ = []) (hn : x.normalQ = [])
    (u : Bool) (f : Frame) : x.enqueue u f = some { x with tx := some f } := by
  cases x
  simp only at hm ht hu hn
  subst hm ht hu hn
  cases u <;> rfl

/-- A frame offered to a busy end waits in the queue of its urgency (R27). -/
theorem LinePort.enqueue_busy {x : LinePort} (ht : x.tx ≠ none) (u : Bool) (f : Frame) : x.enqueue u f =
    if u then if x.urgentQ.length < 8 then some { x with urgentQ := x.urgentQ ++ [f] } else none
    else if x.normalQ.length < 16 then some { x with normalQ := x.normalQ ++ [f] } else none := by
  have hn : ∀ y : LinePort, y.tx = x.tx → y.takeNext = y := fun y e => if_neg fun h => ht (e ▸ h.2)
  rw [LinePort.enqueue, hn { x with urgentQ := x.urgentQ ++ [f] } rfl, hn { x with normalQ := x.normalQ ++ [f] } rfl]
  rfl

/-- What an originated frame needs of a port to be begun there at once. -/
structure State.Ready (s : State) (p : Port) : Prop where
  pilot : (s.port p).pilot = .mated
  tx : (s.port p).tx = none
  urgent : (s.port p).urgentQ = []
  normal : (s.port p).normalQ = []

theorem State.ready_of_idleEnd {s : State} {p : Port} (h : s.idleEnd p) : s.Ready p := ⟨h.1, h.2.1, h.2.2.1, h.2.2.2⟩

theorem State.Ready.congr {s t : State} {p : Port} (h : s.Ready p) (e : t.port p = s.port p) : t.Ready p :=
  ⟨e ▸ h.pilot, e ▸ h.tx, e ▸ h.urgent, e ▸ h.normal⟩

theorem State.Ready.mated {s : State} {p : Port} (h : s.Ready p) : s.mated p = true := decide_eq_true h.pilot

theorem State.Ready.enqueue {s : State} {p : Port} (h : s.Ready p) (u : Bool) (f : Frame) :
    (s.port p).enqueue u f = some { s.port p with tx := some f } := LinePort.enqueue_idle h.pilot h.tx h.urgent h.normal u f

section
variable {count : Nat → State → State}

theorem State.offer_ready {s : State} {p : Port} (h : s.Ready p) (u : Bool) (f : Frame) : s.offer count p u f = s.begun p f := by
  unfold State.offer
  rw [h.enqueue]
  rfl

theorem State.sendOne_ready {s : State} {p : Port} (h : s.Ready p) (u : Bool) (f : Frame) : s.sendOne count p u f = s.begun p f :=
  (if_pos h.mated).trans (State.offer_ready h u f)

theorem State.sendCopy_ready {s : State} {p : Port} (h : s.Ready p) (u : Bool) (f : Frame) : s.sendCopy count p u f = s.begun p f :=
  (if_pos h.mated).trans (State.offer_ready h u f)

theorem State.sendCopy_unmated {s : State} {p : Port} (h : s.mated p = false) (u : Bool) (f : Frame) : s.sendCopy count p u f = s :=
  if_neg (by simp [h])

theorem State.originateWith_ready {s : State} {m : Sending} {p : Port} (ho : s.isOwnDestination m.destKind m.destVal = false)
    (h : s.Ready p) : s.originateWith count m (.one p) = s.begun p (s.complete m) := by
  unfold State.originateWith
  rw [ho]
  exact State.sendOne_ready h _ _

end

theorem State.isOwnDestination_broadcast (s : State) (v : BitVec 32) : s.isOwnDestination .broadcast v = false := rfl

/-- No frame addressed to the lead stays at a node without the lead role. -/
theorem State.isOwnDestination_lead {s : State} (h : s.census.lead = .off) (v : BitVec 32) : s.isOwnDestination .lead v = false := by
  simp [State.isOwnDestination, h]

/-- A frame that a block originates is completed to the node's own frame (R26). -/
theorem State.complete_eq {s : State} {m : Sending} (hc : m.cls ≤ 11) :
    s.complete m = s.ownFrame m.cls m.dir m.epoch m.destKind m.destVal m.payload := by
  have hu : s.classUrgent m.cls = decide (m.cls ≤ 6) := by
    unfold State.classUrgent
    by_cases h : m.cls ≤ 6
    · simp [h]
    · simp [h, hc]
  have hp : s.shownPosition = if s.census.cs = .settled then s.census.position else 0 := by
    simp [State.shownPosition, State.settled]
  simp only [State.complete, State.ownFrame, hu, hp]

theorem State.shownEpoch_eq (s : State) : s.shownEpoch = if s.census.cs = .settled then s.census.epoch else 0 := by
  simp [State.shownEpoch, State.settled]

theorem State.shownPosition_eq (s : State) : s.shownPosition = if s.census.cs = .settled then s.census.position else 0 := by
  simp [State.shownPosition, State.settled]

theorem State.originate_ready {s : State} {m : Sending} {p : Port} (hc : m.cls ≤ 11)
    (ho : s.isOwnDestination m.destKind m.destVal = false) (h : s.Ready p) :
    s.originate m (.one p) = s.begun p (s.ownFrame m.cls m.dir m.epoch m.destKind m.destVal m.payload) := by
  rw [State.originate, State.originateWith_ready ho h, State.complete_eq hc]

theorem State.port_begun (s : State) (p : Port) (f : Frame) : (s.begun p f).port p = { s.port p with tx := some f } :=
  State.port_setPort _ _ _

theorem State.port_begun_ne {s : State} {p q : Port} {f : Frame} (h : q ≠ p) : (s.begun p f).port q = s.port q :=
  State.port_setPort_ne _ _ h

/-! ## Messages, events and conditions -/

theorem Link.enter_busy {l : Link} (h : l.sending ≠ none) (m : Message) : l.enter m = { l with txQ := l.txQ ++ [m] } := by
  obtain ⟨x, hx⟩ := Option.ne_none_iff_exists'.mp h
  simp [Link.enter, Link.start, hx]

theorem State.offerMessage_room {count : Nat → State → State} {s : State} (h : s.link.sending ≠ none)
    (hr : s.link.txQ.length + s.link.reserved < 8) (m : Message) :
    s.offerMessage count m = { s with link := { s.link with txQ := s.link.txQ ++ [m] } } := by
  have hf : 0 < s.link.free := by
    have h8 : Config.txPlaces = 8 := rfl
    unfold Link.free; omega
  rw [State.offerMessage, if_pos hf, Link.enter_busy h]

theorem State.offerMessage_full {count : Nat → State → State} {s : State} (hr : 8 ≤ s.link.txQ.length + s.link.reserved) (m : Message) :
    s.offerMessage count m = count 15 s := by
  have hf : ¬0 < s.link.free := by
    have h8 : Config.txPlaces = 8 := rfl
    unfold Link.free; omega
  rw [State.offerMessage, if_neg hf]

theorem State.countWith_counted {raise : Flag → State → State} {s : State} {code : Nat} (h : code < s.events.counters.length)
    (h2 : code ≠ 2) (h3 : code ≠ 3) (h4 : code ≠ 4) : State.countWith raise code s = { s with events := s.events.bump code } := by
  simp [State.countWith, h, h2, h3, h4]

theorem State.raise_standing {s : State} {f : Flag} (h : hasFlag s.notices.flags f = true) : s.raise f = s := by
  simp [State.raise, State.raiseFuel, State.flagSet, h]

theorem State.raise_disabled {s : State} {f : Flag} (h : hasFlag s.notices.flags f = false) (he : hasFlag s.notices.enable f = false) :
    s.raise f = s.setFlag f := by
  simp [State.raise, State.raiseFuel, State.flagSet, h, he]

/-- A clear and enabled flag is set, and one NOTICE goes (R168). -/
theorem State.raise_enabled {s : State} {f : Flag} (h : hasFlag s.notices.flags f = false) (he : hasFlag s.notices.enable f = true) :
    s.raise f = (s.setFlag f).sendNotice (State.countWith (State.raiseFuel 2)) f := by
  rw [State.raise, State.raiseFuel, State.flagSet, h, he]
  rfl

/-- The message of a NOTICE has room behind a busy transmitter of the coach link. -/
structure State.Room (s : State) : Prop where
  busy : s.link.sending ≠ none
  places : s.link.txQ.length + s.link.reserved < 8

/-- The state with one more message in the transmit queue of the coach link. -/
def State.tell (m : Message) (s : State) : State := { s with link := { s.link with txQ := s.link.txQ ++ [m] } }

theorem State.pushMessage_room {s : State} (h : s.Room) (m : Message) : s.pushMessage m = s.tell m := State.offerMessage_room h.busy h.places m

theorem State.pushMessage_full {s : State} (hr : 8 ≤ s.link.txQ.length + s.link.reserved) (hc : 15 < s.events.counters.length) (m : Message) :
    s.pushMessage m = { s with events := s.events.bump 15 } :=
  (State.offerMessage_full hr m).trans (count_counted s 15 hc (by decide) (by decide) (by decide))

section
variable {count : Nat → State → State}

theorem State.sendNotice_lead {s : State} (h : s.Room) (hl : s.census.lead ≠ .off) (f : Flag) :
    s.sendNotice count f = s.tell (s.noticeMessage f) := by
  have hi : s.isLead = true := decide_eq_true hl
  rw [State.sendNotice, State.offerMessage_room h.busy h.places]
  exact if_pos hi

theorem State.sendNotice_member {s : State} (h : s.Room) (hl : s.census.lead = .off) (f : Flag) :
    s.sendNotice count f = (s.tell (s.noticeMessage f)).originateWith count (s.noticeSending f) s.noticeLeave := by
  have hi : ¬s.isLead = true := by simp [State.isLead, hl]
  rw [State.sendNotice, State.offerMessage_room h.busy h.places]
  exact if_neg hi

end

end Sys2Proof.Machine
end

section
/-! PROOFS. The converter at work (O48) and the conditions that arise (O50). -/

namespace Sys2Proof.Machine

/-! ## The completion of a conversion -/

/-- The converter after a sample, field by field (R153, R154, R160). -/
theorem Sense.sample_eq (c : Sense) (e : Captured) : c.sample e =
    { c with
      conv := none
      channels := c.channels.modify e.channel fun x => x.take e.code
      onWins := c.onWins.modify e.channel fun w => w.take e.code
      fifo := if c.capture = true ∧ c.fifo.length < 32 then c.fifo ++ [e] else c.fifo
      lost := if c.capture = true ∧ ¬c.fifo.length < 32 then min 65535 (c.lost + 1) else c.lost
      scan := if c.mode = .scan ∧ e.channel = c.stop then none else c.scan
      pacer := if c.mode = .scan ∧ e.channel = c.stop then none else c.pacer } := by
  have h32 : Config.fifoEntries = 32 := rfl
  unfold Sense.sample Sense.offerCapture Sense.endScan
  rw [h32]
  dsimp only
  by_cases hc : c.capture = true <;> by_cases hf : c.fifo.length < 32 <;> by_cases hs : c.mode = .scan ∧ e.channel = c.stop <;>
    simp only [hc, hf, hs, if_true, if_false, and_self, not_true, not_false_eq_true, and_false, false_and, Bool.false_eq_true]

theorem pushCode_eq (w : List Code) (code : Code) : pushCode w code = if w.length < 8 then w ++ [code] else w.drop 1 ++ [code] := rfl

theorem Sense.channel_sample_self {c : Sense} {e : Captured} (h : e.channel < c.channels.length) :
    (c.sample e).channel e.channel = (c.channel e.channel).take e.code := by
  rw [Sense.sample_eq]
  simp [Sense.channel, List.getD_eq_getElem?_getD, h]

theorem Sense.channel_sample_ne {c : Sense} {e : Captured} {k : Nat} (h : k ≠ e.channel) : (c.sample e).channel k = c.channel k := by
  rw [Sense.sample_eq]
  simp [Sense.channel, List.getD_eq_getElem?_getD, h.symm]

/-- A sample enters the on-window of its group alone, and only while the output level is on. -/
theorem Sense.onWin_sample (c : Sense) (e : Captured) (k : Nat) :
    (c.sample e).onWin k = if k = e.channel then (c.onWin k).take e.code else c.onWin k := by
  rw [Sense.sample_eq, Sense.onWin_eq, Sense.onWin_eq]
  dsimp only
  rw [List.getElem?_modify]
  by_cases h : e.channel = k
  · subst h
    cases c.onWins[e.channel]? <;> simp [OnWindow.absent, OnWindow.take]
  · simp [h, Ne.symm h]

/-- The completion of a conversion takes a sample, and raises CAPTURE_HALF where that brings the FIFO to 16 (R154, R160). -/
theorem State.conversionDone_eq {s : State} {code : Code} {ch : Nat} (h : s.sense.conv = some ch) :
    s.conversionDone code =
      let t : State := { s with sense := s.sense.sample { channel := ch, code := code, idx := s.line.idx, slot := s.line.slotPosition } }
      if s.sense.capture = true ∧ s.sense.fifo.length = 15 then t.raise .captureHalf else t := by
  have hc : ∀ e : Captured, (s.sense.captures = true ∧ (s.sense.sample e).fifo.length = halfEntries) ↔
      s.sense.capture = true ∧ s.sense.fifo.length = 15 := fun e => by
    rw [Sense.sample_eq]
    have h16 : halfEntries = 16 := rfl
    have h32 : Config.fifoEntries = 32 := rfl
    simp only [Sense.captures, Bool.and_eq_true, decide_eq_true_eq, h16, h32]
    by_cases hk : s.sense.capture = true
    · by_cases hf : s.sense.fifo.length < 32
      · simp [hk, hf]
      · simp only [hk, hf, and_false, false_and, true_and, false_iff]; omega
    · simp [hk]
  unfold State.conversionDone
  rw [h]
  dsimp only
  exact if_congr (hc _) rfl rfl

/-- What a condition that the FIFO raises leaves of the blocks. -/
structure Sampled (s t : State) (c : Sense) : Prop where
  sense : t.sense = c
  frame : s.sameFrame t
  census : t.census = s.census
  line : t.line = s.line
  doors : t.doors = s.doors
  heater : t.heater = s.heater
  alloc : t.alloc = s.alloc

theorem State.conversionDone_sampled {s : State} {code : Code} {ch : Nat} (h : s.sense.conv = some ch) :
    Sampled s (s.conversionDone code) (s.sense.sample { channel := ch, code := code, idx := s.line.idx, slot := s.line.slotPosition }) := by
  rw [State.conversionDone_eq h]
  dsimp only
  split
  · have q := State.raise_quiet .captureHalf { s with sense := s.sense.sample { channel := ch, code, idx := s.line.idx, slot := s.line.slotPosition } }
    exact ⟨q.sense, ⟨q.powered, q.nodeId, q.strap, q.mgmt, q.pending⟩, q.census, q.line, q.doors, q.heater, q.alloc⟩
  · exact ⟨rfl, ⟨rfl, rfl, rfl, rfl, rfl⟩, rfl, rfl, rfl, rfl, rfl⟩

theorem exec_conversionComplete {s : State} (h : s.powered = true) (code : Code) :
    exec (.conversionComplete code) s = .next (s.conversionDone code) := State.run_powered _ h

theorem exec_pacerTick {s : State} (h : s.powered = true) : exec .pacerTick s = .next s.pacerTick := State.run_powered _ h

/-- A running pacer ticks (R152). -/
theorem State.pacerTick_running {s : State} (hp : s.sense.pacer ≠ none) (hc : s.sense.conv = none) :
    s.pacerTick = { s with sense := s.sense.tick } := if_pos ⟨hp, hc⟩

theorem State.pacerTick_still {s : State} (h : s.sense.pacer = none ∨ s.sense.conv ≠ none) : s.pacerTick = s :=
  if_neg fun k => h.elim k.1 fun n => n k.2

/-! ## Conditions -/

/-- The flag of a condition set, nothing sent. -/
theorem State.setFlag_eq (f : Flag) (s : State) :
    s.setFlag f = { s with notices := { s.notices with flags := s.notices.flags ||| (1#13 <<< (f.number - 1)) } } := rfl

/-- The NOTICE frame as the relay unit completes it (R169). -/
def State.noticeFrame (s : State) (f : Flag) : Frame :=
  s.ownFrame 11 .toward (if s.census.cs = .settled then s.census.epoch else 0) .lead 0
    (byte f.number :: (be16 s.notices.flags.toNat ++ [byte s.census.failure.code]))

theorem State.complete_notice (f : Flag) (s : State) : s.complete (s.noticeSending f) = s.noticeFrame f := by
  rw [State.complete_eq (show 11 ≤ 11 by decide)]
  simp only [State.noticeSending, State.noticeFrame, State.shownEpoch_eq, flagBytes, List.cons_append, List.nil_append]

theorem State.noticeMessage_eq (f : Flag) (s : State) : s.noticeMessage f =
    { kind := 0x82
      payload := idBytes s.nodeId ++ [byte (if s.census.cs = .settled then s.census.position else 0), byte f.number]
        ++ (be16 s.notices.flags.toNat ++ [byte s.census.failure.code]) } := by
  simp only [State.noticeMessage, State.shownPosition_eq, flagBytes, List.append_assoc]

section
variable {s : State} {f : Flag} (hf : hasFlag s.notices.flags f = false) (he : hasFlag s.notices.enable f = true) (hr : s.Room)
include hf he hr

theorem State.raise_lead (hl : s.census.lead ≠ .off) : s.raise f = (s.setFlag f).tell ((s.setFlag f).noticeMessage f) :=
  (State.raise_enabled hf he).trans (State.sendNotice_lead (s := s.setFlag f) ⟨hr.busy, hr.places⟩ hl f)

/-- A member sends its NOTICE message, and then the frame (R169; log 8). -/
theorem State.raise_member (hl : s.census.lead = .off) : s.raise f =
    ((s.setFlag f).tell ((s.setFlag f).noticeMessage f)).originateWith (State.countWith (State.raiseFuel 2))
      ((s.setFlag f).noticeSending f) s.noticeLeave :=
  (State.raise_enabled hf he).trans (State.sendNotice_member (s := s.setFlag f) ⟨hr.busy, hr.places⟩ hl f)

theorem State.raise_leadEnd (hl : s.census.lead = .off) {e : EndNo} (hx : s.census.leadEnd = some e) (h : s.Ready (s.endPort e)) :
    s.raise f = ((s.setFlag f).tell ((s.setFlag f).noticeMessage f)).begun (s.endPort e) ((s.setFlag f).noticeFrame f) := by
  have hn : s.noticeLeave = .one (s.endPort e) := by rw [State.noticeLeave, hx]
  rw [State.raise_member hf he hr hl, hn]
  refine (State.originateWith_ready (State.isOwnDestination_lead hl 0) (h.congr (by cases s.endPort e <;> rfl))).trans ?_
  exact congrArg (State.begun _ _) (State.complete_notice f (s.setFlag f))

end

/-- A frame that names both ends is offered to each that is MATED (R26). -/
theorem State.originateWith_both {count : Nat → State → State} {s : State} {m : Sending}
    (ho : s.isOwnDestination m.destKind m.destVal = false) : s.originateWith count m .both =
      (s.sendCopy count (s.endPort .one) (s.complete m).urgent (s.complete m)).sendCopy count (otherPort (s.endPort .one))
        (s.complete m).urgent (s.complete m) := by
  unfold State.originateWith
  rw [ho]
  rfl

theorem State.begun_comm {s : State} {p q : Port} (h : p ≠ q) (f g : Frame) : (s.begun p f).begun q g = (s.begun q g).begun p f := by
  match p, q with
  | .a, .a => exact absurd rfl h
  | .a, .b => rfl
  | .b, .a => rfl
  | .b, .b => exact absurd rfl h

/-- A frame for both ends, each idle, is begun at each. -/
theorem State.originateWith_both_ready {count : Nat → State → State} {s : State} {m : Sending}
    (ho : s.isOwnDestination m.destKind m.destVal = false) (ha : s.Ready .a) (hb : s.Ready .b) :
    s.originateWith count m .both = (s.begun .a (s.complete m)).begun .b (s.complete m) := by
  have h : ∀ p, s.Ready p := fun p => by cases p <;> assumption
  have hq (p : Port) : (s.begun p (s.complete m)).Ready (otherPort p) :=
    (h (otherPort p)).congr (State.port_begun_ne (otherPort_ne p))
  rw [State.originateWith_both ho, State.sendCopy_ready (h _), State.sendCopy_ready (hq _)]
  cases s.endPort .one
  · rfl
  · exact State.begun_comm (by decide) _ _

theorem State.originateWith_both_unmated {count : Nat → State → State} {s : State} {m : Sending}
    (ho : s.isOwnDestination m.destKind m.destVal = false) (ha : s.mated .a = false) (hb : s.mated .b = false) :
    s.originateWith count m .both = s := by
  have h : ∀ p, s.mated p = false := fun p => by cases p <;> assumption
  rw [State.originateWith_both ho, State.sendCopy_unmated (h _), State.sendCopy_unmated (h _)]

end Sys2Proof.Machine
end

section

open Sys2Proof Sys2Proof.Machine

/-- Settles O48: one tick, one completion, field by field. -/
theorem conversionsStartAndComplete : Obligations.ConversionsStartAndComplete := by
  intro s hp c
  refine ⟨fun h => ?_, fun h1 h2 => ⟨fun hm => ?_, fun hm => ?_, fun hm ch hs => ?_⟩, fun code h => ?_, ?_⟩
  · rw [exec_pacerTick hp, State.pacerTick_still h]
  · rw [exec_pacerTick hp, State.pacerTick_running h1 h2, Sense.tick, hm]
  · rw [exec_pacerTick hp, State.pacerTick_running h1 h2, Sense.tick, hm, rotationNext]
  · rw [exec_pacerTick hp, State.pacerTick_running h1 h2, Sense.tick, hm, hs]; rfl
  · rw [exec_conversionComplete hp, State.conversionDone]
    simp only [show s.sense.conv = none from h]
  · intro code ch h hl push room
    have hd := State.conversionDone_sampled (code := code) h
    refine ⟨_, exec_conversionComplete hp code, ?_, ?_, fun k hk => ?_, fun k => ?_, ?_, ?_, ?_, fun ha hb => ?_, fun hn => ?_, hd.frame,
      hd.census, hd.line, hd.doors, hd.heater, hd.alloc⟩
    · rw [hd.sense, Sense.sample_eq]
    · rw [hd.sense]
      exact Sense.channel_sample_self (e := { channel := ch, code, idx := s.line.idx, slot := s.line.slotPosition }) hl
    · rw [hd.sense, Sense.channel_sample_ne hk]
    · rw [hd.sense, Sense.onWin_sample]
      by_cases hk : k = ch
      · simp only [hk, if_true, true_and, OnWindow.take]
        split
        · rename_i hv
          rw [pushCode_eq]
          cases hw : s.sense.onWin ch
          simp only [hw] at hv
          subst hv
          rfl
        · rfl
      · rw [if_neg hk, if_neg fun x => hk x.1]
    · rw [hd.sense, Sense.sample_eq]; rfl
    · rw [hd.sense, Sense.sample_eq]
    · rw [hd.sense, Sense.sample_eq]
      dsimp only
      split <;> rfl
    · rw [State.conversionDone_eq h]
      dsimp only
      rw [if_pos ⟨ha, hb⟩]
      exact State.raise_sets _ _
    · rw [State.conversionDone_eq h]
      dsimp only
      rw [if_neg hn]

/-- Settles O50: a condition that arises by its flag and its enable bit, and the NOTICE by the standing of the node. -/
theorem noticeSentOnceWhenSet : Obligations.NoticeSentOnceWhenSet := by
  intro s f set pos tail m frame told sends room
  have hm : (s.setFlag f).noticeMessage f = m := State.noticeMessage_eq f (s.setFlag f)
  have ht (hs : sends) (hr : room) (hl : s.census.lead ≠ .off) : s.raise f = told := by
    rw [State.raise_lead hs.1 hs.2 ⟨hr.1, hr.2⟩ hl, hm]; rfl
  refine ⟨State.raise_standing, State.raise_disabled, ht, fun hs h8 hc hl => ?_, fun e hs hr hl hx hi => ?_, fun hs hr hl hx => ⟨fun ha hb => ?_, fun ha hb => ?_⟩,
    fun code ch hp hv hcap hf he => ?_⟩
  · rw [State.raise_enabled hs.1 hs.2, State.sendNotice, State.offerMessage_full (s := s.setFlag f) h8,
      State.countWith_counted (s := s.setFlag f) hc (by decide) (by decide) (by decide)]
    exact if_pos (decide_eq_true hl)
  · rw [State.raise_leadEnd hs.1 hs.2 ⟨hr.1, hr.2⟩ hl hx (State.ready_of_idleEnd hi), hm]; rfl
  · rw [State.raise_member hs.1 hs.2 ⟨hr.1, hr.2⟩ hl, hm, State.noticeLeave, hx]
    have hA : told.Ready .a := (State.ready_of_idleEnd ha).congr rfl
    have hB : told.Ready .b := (State.ready_of_idleEnd hb).congr rfl
    have hf : told.complete ((s.setFlag f).noticeSending f) = frame := State.complete_notice f (s.setFlag f)
    rw [← hf]
    exact State.originateWith_both_ready (State.isOwnDestination_lead (s := told) hl 0) hA hB
  · rw [State.raise_member hs.1 hs.2 ⟨hr.1, hr.2⟩ hl, hm, State.noticeLeave, hx]
    exact State.originateWith_both_unmated (m := (s.setFlag f).noticeSending f) (State.isOwnDestination_lead hl 0) ha hb
  · subst he
    refine ⟨_, exec_conversionComplete hp code, ?_⟩
    rw [State.conversionDone_eq hv]
    dsimp only
    rw [if_pos ⟨hcap, hf⟩]
    generalize hu : State.mk _ _ _ _ _ _ _ _ _ _ _ _ _ _ _ _ _ _ _ = u
    have hn : u.notices = s.notices := by rw [← hu]
    have hk : u.link = s.link := by rw [← hu]
    have hc : u.census = s.census := by rw [← hu]
    have hi : u.nodeId = s.nodeId := by rw [← hu]
    refine ⟨fun h => ?_, fun h1 h2 => ?_, fun hs hr hl => ?_⟩
    · rw [State.raise_standing (hn ▸ h)]; exact ⟨hn, hk⟩
    · rw [State.raise_disabled (hn ▸ h1) (hn ▸ h2), State.setFlag_eq, hn]; exact ⟨rfl, hk⟩
    · rw [State.raise_lead (hn ▸ hs.1) (hn ▸ hs.2) ⟨hk ▸ hr.1, hk ▸ hr.2⟩ (hc ▸ hl), State.tell, State.noticeMessage_eq]
      simp only [State.setFlag_eq, hn, hc, hi, hk]
      exact ⟨rfl, rfl⟩

end

section
/-! PROOFS. The start-up of the node (O14, O16). -/

namespace Sys2Proof.Machine

/-- A node just started: its coach link, its census and its end units are in their reset states, and no flag is set. -/
structure State.Fresh (s : State) : Prop where
  link : s.link = Link.reset
  census : s.census = Census.reset
  portA : s.portA = LinePort.reset
  portB : s.portB = LinePort.reset
  flags : s.notices.flags = 0

/-- The NOTICE message of a node just started, for the one flag that is set (R169). -/
def State.firstNoticeOf (s : State) (f : Flag) : Message :=
  { kind := 0x82, payload := idBytes s.nodeId ++ (0 :: byte f.number :: (be16 f.mask.toNat ++ [0])) }

theorem State.Fresh.noticeMessage {s : State} (h : s.Fresh) (f : Flag) : (s.setFlag f).noticeMessage f = s.firstNoticeOf f := by
  have hs : (s.setFlag f).notices.flags = f.mask := by simp [State.setFlag, h.flags]
  have hc : (s.setFlag f).census = Census.reset := h.census
  have hp : (s.setFlag f).shownPosition = 0 := by rw [State.shownPosition_eq, hc]; rfl
  rw [State.noticeMessage, hs, hc, hp]
  simp only [List.append_assoc, State.firstNoticeOf]
  rfl

theorem State.Fresh.clear {s : State} (h : s.Fresh) (f : Flag) : hasFlag s.notices.flags f = false := by simp [h.flags, hasFlag]

/-- Outside any consist, with no end MATED, a NOTICE is the message alone. -/
theorem State.sendNotice_alone {count : Nat → State → State} {s : State} {f : Flag} {l : Link} (hc : s.census = Census.reset)
    (ha : s.mated .a = false) (hb : s.mated .b = false) (ho : s.offerMessage count (s.noticeMessage f) = { s with link := l }) :
    s.sendNotice count f = { s with link := l } := by
  have hi : ¬State.isLead { s with link := l } = true := by simp [State.isLead, hc, Census.reset]
  have hleave : s.noticeLeave = .both := by rw [State.noticeLeave, hc]; rfl
  have hown : State.isOwnDestination { s with link := l } .lead 0 = false := State.isOwnDestination_lead (by rw [hc]; rfl) 0
  rw [State.sendNotice, ho]
  refine (if_neg hi).trans ?_
  rw [hleave]
  exact State.originateWith_both_unmated hown ha hb

/-- A condition that arises at a node just started sends its NOTICE message alone, which an idle transmitter takes at once. -/
theorem State.raise_fresh {s : State} (h : s.Fresh) (f : Flag) : s.raise f =
    { s with
      notices := { flags := f.mask, enable := s.notices.enable }
      link := { Link.reset with sending := if hasFlag s.notices.enable f = true then some (s.firstNoticeOf f) else none } } := by
  have hset : s.setFlag f = { s with notices := { flags := f.mask, enable := s.notices.enable } } := by simp [State.setFlag, h.flags]
  cases he : hasFlag s.notices.enable f with
  | false =>
    rw [State.raise_disabled (h.clear f) he, hset]
    exact congrArg (fun l => { s with notices := { flags := f.mask, enable := s.notices.enable }, link := l }) h.link
  | true =>
    have hlink : (s.setFlag f).link = Link.reset := h.link
    rw [State.raise_enabled (h.clear f) he, State.sendNotice_alone (s := s.setFlag f) (l := { Link.reset with sending := some (s.firstNoticeOf f) })
      h.census (by simp [State.mated, State.port, State.setFlag, h.portA, LinePort.reset])
      (by simp [State.mated, State.port, State.setFlag, h.portB, LinePort.reset]), hset]
    · rfl
    · rw [State.offerMessage, hlink, if_pos (show 0 < Link.reset.free by decide), h.noticeMessage]; rfl

theorem Mgmt.soundImage_eq (m : Mgmt) : m.soundImage = if m.store = .idle then m.image else none := by
  unfold Mgmt.soundImage
  cases m.store <;> simp

theorem startTables_eq (i : Option Image) : startTables i = (i.map Image.tables).getD Tables.default := by cases i <;> rfl

theorem startMask_eq (i : Option Image) : startMask i = (i.map Image.enable).getD 0x1FFF := by cases i <;> rfl

/-- What the NOTICE of a start-up leaves in transmission: that of CONFIG_DEFAULTED without an image, and with one that of SENSE_DEGRADED
where the settings give it (R167, R169). -/
def State.startNotice (s : State) (degraded : Bool) : Option Message :=
  if s.mgmt.soundImage = none then some (s.firstNoticeOf .configDefaulted)
  else if degraded ∧ hasFlag (startMask s.mgmt.soundImage) .senseDegraded = true then some (s.firstNoticeOf .senseDegraded)
  else none

/-- Conditions at a start-up: CONFIG_DEFAULTED without an image, and with one SENSE_DEGRADED where its settings give it. -/
theorem State.startConditions_blank (pins : ResetPins) (keep : Bool) (ev : Events) (s : State) :
    (s.blank pins keep ev).startConditions =
      let degraded := (Sense.reset (startTables s.mgmt.soundImage).sense).degraded
      { s.blank pins keep ev with
        notices := { flags := if s.mgmt.soundImage = none then 0x800 else if degraded then 0x100 else 0, enable := startMask s.mgmt.soundImage }
        link := { Link.reset with sending := s.startNotice degraded } } := by
  have hf : (s.blank pins keep ev).Fresh := ⟨rfl, rfl, rfl, rfl, rfl⟩
  have hsense : (s.blank pins keep ev).sense = Sense.reset (startTables s.mgmt.soundImage).sense := rfl
  have he : (s.blank pins keep ev).notices.enable = startMask s.mgmt.soundImage := rfl
  have hn : ∀ f, (s.blank pins keep ev).firstNoticeOf f = s.firstNoticeOf f := fun _ => rfl
  unfold State.startConditions State.startNotice
  rw [show (s.blank pins keep ev).mgmt.image = s.mgmt.soundImage from rfl]
  cases hi : s.mgmt.soundImage with
  | none =>
    have hd : ((s.blank pins keep ev).raise .configDefaulted).sense.degraded = false := by
      rw [State.raise_sense, hsense, hi]; decide
    simp only [if_true, hd, Bool.false_eq_true, if_false]
    rw [State.raise_fresh hf, he, hi, hn]
    rfl
  | some i =>
    have hs : (s.blank pins keep ev).sense.degraded = (Sense.reset (startTables (some i)).sense).degraded := by rw [hsense, hi]
    simp only [reduceCtorEq, if_false, hs]
    by_cases hd : (Sense.reset (startTables (some i)).sense).degraded = true
    · simp only [hd, if_true, true_and]
      rw [State.raise_fresh hf, he, hi, hn]
      rfl
    · simp only [hd, Bool.false_eq_true, if_false, false_and]
      rw [← hi]; rfl

/-- What a start-up leaves, whatever counters and groups it is given (R178). -/
theorem State.startConditions_startedAs (pins : ResetPins) (keep : Bool) (ev : Events) (s : State) :
    s.startedAs (s.blank pins keep ev).startConditions pins := by
  rw [State.startConditions_blank]
  unfold State.startedAs
  dsimp only
  rw [← Mgmt.soundImage_eq, ← startTables_eq, ← startMask_eq]
  exact ⟨rfl, rfl, rfl, rfl, rfl, rfl, rfl, rfl, rfl, rfl, rfl, rfl, rfl, rfl, rfl, rfl, rfl, rfl, rfl⟩

theorem State.started_group (pins : ResetPins) (keep : Bool) (ev : Events) (s : State) {k : Nat} (hk : k < 4) :
    (s.blank pins keep ev).startConditions.heater.group k = Group.reset
      (startGroupState ((s.blank pins keep ev).startConditions.mgmt.working.heat.rating k) keep (s.heater.group k).st) := by
  rw [State.startConditions_blank]
  exact startGroups_group _ keep s.heater _ hk

theorem State.started_events (pins : ResetPins) (keep : Bool) (ev : Events) (s : State) :
    (s.blank pins keep ev).startConditions.events = ev := by
  rw [State.startConditions_blank]; rfl

theorem State.started_working (pins : ResetPins) (keep : Bool) (ev : Events) (s : State) :
    (s.blank pins keep ev).startConditions.mgmt.working = startTables s.mgmt.soundImage := by
  rw [State.startConditions_blank]; rfl

/-- A counter of an array converted to a new size: that of its code, or 0 for a new code (R163). -/
theorem Events.resize_getElem? {e : Events} {size k : Nat} (h : k < size) :
    (e.resize size).counters[k]? = some (e.counters.getD k { recent := 0, wide := 0 }) := by
  simp only [Events.resize, List.getElem?_append, List.getElem?_take, List.length_take, List.getElem?_replicate,
    List.getD_eq_getElem?_getD]
  by_cases hk : k < e.counters.length
  · simp [h, hk]
  · have hm : min size e.counters.length = e.counters.length := by omega
    simp [hk, hm]
    omega

end Sys2Proof.Machine
end

section

open Sys2Proof Sys2Proof.Machine

/-- Settles O14: the blank state of a start-up with its conditions, its counters at 0 and no group FAILED. -/
theorem powerOnStartsEveryBlock : Obligations.PowerOnStartsEveryBlock := by
  intro pins s
  refine ⟨(s.blank pins false (.reset _)).startConditions, rfl, s.startConditions_startedAs pins false _, ?_, fun k hk => ?_⟩
  · rw [State.started_events, State.started_working]
  · rw [State.started_group pins false _ s hk]
    simp [startGroupState]

/-- Settles O16: the blank state of a start-up with its conditions, counters and FAILED groups kept. -/
theorem restartKeepsCountersAndFailures : Obligations.RestartKeepsCountersAndFailures := by
  intro pins s hp
  have he : exec (.restartTakesEffect pins) s = .next (s.restartNow pins) := State.run_powered _ hp
  refine ⟨fun h => ?_, fun h => ?_⟩
  · rw [he, State.restartNow, if_pos h]
  · rw [he, State.restartNow, if_neg h]
    have hs := s.startConditions_startedAs pins true s.keptEvents
    obtain ⟨_, _, _, _, _, _, ha, hb, _⟩ := id hs
    refine ⟨_, rfl, hs, by rw [ha]; rfl, by rw [hb]; rfl, ?_⟩
    rw [State.started_events, State.started_working]
    have hsame : (startTables s.mgmt.soundImage).coach.arraySize = s.mgmt.working.coach.arraySize → s.keptEvents = s.events := fun e => if_pos e
    have hdiff : (startTables s.mgmt.soundImage).coach.arraySize ≠ s.mgmt.working.coach.arraySize →
        s.keptEvents = s.events.resize (startTables s.mgmt.soundImage).coach.arraySize := fun e => if_neg e
    refine ⟨?_, hsame, fun e hl => ?_, fun k hk => ?_⟩
    · by_cases e : (startTables s.mgmt.soundImage).coach.arraySize = s.mgmt.working.coach.arraySize
      · rw [hsame e]
      · rw [hdiff e]; rfl
    · rw [hdiff e]
      refine ⟨?_, fun k hk => Events.resize_getElem? hk⟩
      simp only [Events.resize, List.length_append, List.length_take, List.length_replicate]
      omega
    · rw [State.started_group pins true _ s hk, State.started_working]
      simp [startGroupState]

end

section
/-! PROOFS. Frames, entries and coach link messages are read as they were sent (O12, O13), and the coach link receives and sends them (O13,
O49). -/

namespace Sys2Proof.Machine

/-! ## Bytes -/

theorem u16_be16 {n : Nat} (h : n < 65536) : u16 (byte (n / 256)) (byte n) = n := by
  simp only [u16, byte, BitVec.toNat_ofNat]
  omega

/-- A 32-bit field is read back from its four bytes. -/
theorem u32_bytes (v : BitVec 32) :
    u32 (byte (v.toNat / 16777216)) (byte (v.toNat / 65536)) (byte (v.toNat / 256)) (byte v.toNat) = v := by
  apply BitVec.eq_of_toNat_eq
  have := v.isLt
  simp only [u32, byte, BitVec.toNat_ofNat]
  omega

theorem DestKind.ofCode_code (k : DestKind) : DestKind.ofCode (byte k.code).toNat = some k := by cases k <;> rfl

/-- The flags byte of a frame gives its direction and its urgency back. -/
theorem frameFlags (u : Bool) (d : Dir) :
    Dir.ofCode ((byte ((if u then 128 else 0) + d.code)).toNat % 4) = some d
      ∧ decide (128 ≤ (byte ((if u then 128 else 0) + d.code)).toNat) = u := by
  cases u <;> cases d <;> exact ⟨rfl, rfl⟩

/-! ## The line frame -/

/-- The ranges of the line frame, one by one (12.2). -/
structure Frame.InRange (f : Frame) : Prop where
  cls : f.cls ≤ 31
  hop : f.hop ≤ 40
  epoch : f.epoch ≤ 255
  srcPos : f.srcPos ≤ 32
  payload : f.payload.length ≤ 264
  position : f.destKind = .position → 1 ≤ f.destVal.toNat ∧ f.destVal.toNat ≤ 32

theorem Frame.wellFormed_iff (f : Frame) : f.wellFormed = true ↔ f.InRange := by
  simp only [Frame.wellFormed, Bool.and_eq_true, Bool.or_eq_true, decide_eq_true_eq, bne_iff_ne, ne_eq]
  constructor
  · rintro ⟨⟨⟨⟨⟨h1, h2⟩, h3⟩, h4⟩, h5⟩, h6⟩
    exact ⟨h1, h2, h3, h4, h5, fun e => h6.resolve_left fun n => n e⟩
  · intro h
    refine ⟨⟨⟨⟨⟨h.cls, h.hop⟩, h.epoch⟩, h.srcPos⟩, h.payload⟩, ?_⟩
    by_cases e : f.destKind = .position
    · exact .inr (h.position e)
    · exact .inl e

theorem crcBytes_length (bs : List Byte) : (crcBytes bs).length = 2 := rfl

theorem Frame.header_length (f : Frame) : f.header.length = 16 := rfl

theorem Frame.encode_length (f : Frame) : f.encode.length = 18 + f.payload.length := by
  rw [Frame.encode, List.length_append, List.length_append, crcBytes_length, Frame.header_length]
  omega

/-- A byte of the header stands in the frame where it stands in the header. -/
theorem Frame.encode_getD (f : Frame) {i : Nat} (h : i < 16) : f.encode.getD i 0 = f.header.getD i 0 := by
  rw [Frame.encode, List.append_assoc, List.getD_append _ _ _ _ (by rw [Frame.header_length]; exact h)]

theorem Frame.encode_take (f : Frame) : f.encode.take (f.encode.length - 2) = f.header ++ f.payload := by
  have h : f.encode.length - 2 = (f.header ++ f.payload).length := by
    rw [Frame.encode_length, List.length_append, Frame.header_length]; omega
  rw [h, Frame.encode, List.take_left]

theorem Frame.encode_drop (f : Frame) : f.encode.drop (f.encode.length - 2) = crcBytes (f.header ++ f.payload) := by
  have h : f.encode.length - 2 = (f.header ++ f.payload).length := by
    rw [Frame.encode_length, List.length_append, Frame.header_length]; omega
  rw [h, Frame.encode, List.drop_left]

theorem Frame.encode_payload (f : Frame) : (f.encode.drop 16).take (f.encode.length - 18) = f.payload := by
  have h : f.encode.length - 18 = f.payload.length := by rw [Frame.encode_length]; omega
  rw [h, Frame.encode, List.append_assoc, show (16 : Nat) = f.header.length from rfl, List.drop_left, List.take_left]

/-- A frame passes the integrity check (R9). -/
theorem Frame.encode_sound {f : Frame} (h : f.InRange) : soundFrameBytes f.encode false = true := by
  have hn : u16 (f.encode.getD 14 0) (f.encode.getD 15 0) = f.payload.length := by
    rw [f.encode_getD (by decide), f.encode_getD (by decide)]
    exact u16_be16 (by have := h.payload; omega)
  simp only [soundFrameBytes, hn, f.encode_take, f.encode_drop, Bool.and_eq_true, decide_eq_true_eq, Bool.not_false, and_true, true_and]
  rw [Frame.encode_length]
  omega

/-- The fields of a frame are read back, with the hop limit judged last (R10, R11). -/
theorem Frame.encode_fields {f : Frame} (h : f.InRange) : checkFields f.encode = if 40 ≤ f.hop then .hopLimit else .good f := by
  have hb : ∀ i, i < 16 → f.encode.getD i 0 = f.header.getD i 0 := fun i hi => f.encode_getD hi
  have hflags := frameFlags f.urgent f.dir
  have hcls : (byte f.cls).toNat = f.cls := byte_toNat_of_lt _ (by have := h.cls; omega)
  have hhop : (byte f.hop).toNat = f.hop := byte_toNat_of_lt _ (by have := h.hop; omega)
  have hepoch : (byte f.epoch).toNat = f.epoch := byte_toNat_of_lt _ (by have := h.epoch; omega)
  have hpos : (byte f.srcPos).toNat = f.srcPos := byte_toNat_of_lt _ (by have := h.srcPos; omega)
  have hrange : ¬(31 < f.cls ∨ 32 < f.srcPos ∨ (f.destKind = .position ∧ (f.destVal.toNat < 1 ∨ 32 < f.destVal.toNat))) := by
    have h1 := h.cls
    have h2 := h.srcPos
    rintro (h3 | h3 | ⟨h3, h4⟩)
    · omega
    · omega
    · have := h.position h3; omega
  unfold checkFields
  simp only [hb 0 (by decide), hb 1 (by decide), hb 2 (by decide), hb 3 (by decide), hb 4 (by decide), hb 5 (by decide),
    hb 6 (by decide), hb 7 (by decide), hb 8 (by decide), hb 9 (by decide), hb 10 (by decide), hb 11 (by decide), hb 12 (by decide),
    hb 13 (by decide), f.encode_payload]
  simp only [Frame.header, idBytes, be32, be16, List.cons_append, List.nil_append, List.getD_cons_zero, List.getD_cons_succ,
    hflags.1, hflags.2, DestKind.ofCode_code, hcls, hhop, hepoch, hpos, u32_bytes, hrange, if_false]

theorem Assembly.extend_empty {bytes : List Byte} (h : bytes.length ≤ 282) :
    Assembly.empty.extend bytes = { bytes := bytes, overlong := false } := by
  have h282 : Config.maxFrameBytes = 282 := rfl
  simp only [Assembly.extend, Assembly.empty, List.nil_append, h282, List.take_of_length_le h, Bool.false_or]
  rw [decide_eq_false (by omega)]

/-- A frame in range is read as it was sent, or dropped at the hop limit (R9 to R13). -/
theorem Frame.checkFrame_encode {f : Frame} (h : f.InRange) :
    checkFrame (Assembly.empty.extend f.encode) = if 40 ≤ f.hop then .hopLimit else .good f := by
  have hl : f.encode.length ≤ 282 := by
    have := h.payload
    rw [Frame.encode_length]; omega
  rw [Assembly.extend_empty hl, checkFrame, Frame.encode_sound h, if_pos rfl, Frame.encode_fields h]

/-! ## Census entries -/

theorem entryFlags (o : Orientation) (d h p : Bool) :
    let b := byte (o.code + (if d then 2 else 0) + (if h then 4 else 0) + (if p then 8 else 0))
    (if b.getLsbD 0 then Orientation.reversed else .normal) = o ∧ b.getLsbD 1 = d ∧ b.getLsbD 2 = h ∧ b.getLsbD 3 = p := by
  cases o <;> cases d <;> cases h <;> cases p <;> decide

/-- A census entry in range is read back from its eight bytes (12.3). -/
theorem readEntries_bytes {e : Entry} (h1 : e.doors1 ≤ 8) (h2 : e.doors2 ≤ 8) (hr : e.rating ≤ 2047) (rest : List Byte) :
    readEntries (e.bytes ++ rest) = e :: readEntries rest := by
  obtain ⟨ho, hd, hh, hp⟩ := entryFlags e.orient e.drivable e.heating e.preferred
  have hb : (byte (e.doors1 + 16 * e.doors2)).toNat = e.doors1 + 16 * e.doors2 := byte_toNat_of_lt _ (by omega)
  have hl : min 8 ((byte (e.doors1 + 16 * e.doors2)).toNat % 16) = e.doors1 := by omega
  have hu : min 8 ((byte (e.doors1 + 16 * e.doors2)).toNat / 16) = e.doors2 := by omega
  have hn : min 2047 (u16 (byte (e.rating / 256)) (byte e.rating)) = e.rating := by rw [u16_be16 (by omega)]; omega
  simp only [Entry.bytes, idBytes, be32, be16, List.cons_append, List.nil_append, readEntries, readEntry, u32_bytes, ho, hd, hh, hp, hl,
    hu, hn]

/-- The ranges of a census entry (12.3). -/
def Entry.InRange (e : Entry) : Prop := e.doors1 ≤ 8 ∧ e.doors2 ≤ 8 ∧ e.rating ≤ 2047

theorem readEntries_entriesBytes {es : List Entry} (h : ∀ e ∈ es, e.InRange) : readEntries (entriesBytes es) = es := by
  induction es with
  | nil => rfl
  | cons e es ih =>
    obtain ⟨h1, h2, h3⟩ := h e List.mem_cons_self
    show readEntries (e.bytes ++ entriesBytes es) = _
    rw [readEntries_bytes h1 h2 h3, ih fun x hx => h x (List.mem_cons_of_mem _ hx)]

theorem countMatches_entriesBytes (es : List Entry) : countMatches es.length (entriesBytes es) = true := by
  simp only [countMatches, entriesBytes_length, Bool.and_eq_true, decide_eq_true_eq]
  omega

/-! ## Coach link messages -/

/-- The receiver between messages. -/
theorem State.unassembled {s : State} (h : s.link.asm = none) : ({ s with link := { s.link with asm := none } } : State) = s := by
  rw [← h]

theorem State.receiveByte_start {s : State} (h : s.link.asm = none) : s.receiveByte 0xA5 = { s with link := { s.link with asm := some [] } } := by
  rw [State.receiveByte, h]; rfl

theorem State.receiveByte_ignored {s : State} (h : s.link.asm = none) {b : Byte} (hb : b ≠ 0xA5) : s.receiveByte b = s := by
  rw [State.receiveByte, h]; exact if_neg hb

/-- Bytes in assembly that do not complete the message are held. -/
theorem State.receiveBytes_held {s : State} {n : Byte} {bs more : List Byte} (h : s.link.asm = some (n :: bs))
    (hl : bs.length + more.length < n.toNat + 3) :
    s.receiveBytes more = { s with link := { s.link with asm := some (n :: (bs ++ more)) } } := by
  induction more generalizing bs s with
  | nil => rw [List.append_nil, ← h]; rfl
  | cons b more ih =>
    rw [List.length_cons] at hl
    have hb : s.receiveByte b = { s with link := { s.link with asm := some (n :: (bs ++ [b])) } } := by
      have hc : messageComplete (n :: bs ++ [b]) = false := decide_eq_false (by simp; omega)
      rw [State.receiveByte, h]
      simp only [hc, Bool.false_eq_true, if_false]
      rfl
    show (s.receiveByte b).receiveBytes more = _
    rw [hb, ih (bs := bs ++ [b]) rfl (by simp; omega), List.append_assoc]
    rfl

/-- The byte that completes a message closes it. -/
theorem State.receiveBytes_closed {s : State} {n : Byte} {bs more : List Byte} (h : s.link.asm = some (n :: bs))
    (hl : bs.length + more.length = n.toNat + 3) (hm : more ≠ []) :
    s.receiveBytes more = ({ s with link := { s.link with asm := none } } : State).closeMessage (n :: (bs ++ more)) := by
  obtain ⟨init, last, rfl⟩ : ∃ init last, more = init ++ [last] := ⟨_, _, (List.dropLast_append_getLast hm).symm⟩
  have hi : bs.length + init.length < n.toNat + 3 := by simp at hl; omega
  have hc : messageComplete (n :: (bs ++ (init ++ [last]))) = true := decide_eq_true (by simp at hl ⊢; omega)
  have hs : s.receiveBytes (init ++ [last]) = (s.receiveBytes init).receiveByte last := List.foldl_append
  rw [hs, State.receiveBytes_held h hi]
  rw [State.receiveByte]
  simp only [List.cons_append, List.append_assoc, hc, if_true]

/-- The length byte begins the assembly of a message. -/
theorem State.receiveBytes_begin {s : State} (h : s.link.asm = none) (n : Byte) (more : List Byte) :
    s.receiveBytes (0xA5 :: n :: more) = ({ s with link := { s.link with asm := some [n] } } : State).receiveBytes more := by
  have hc : messageComplete [n] = false := by simp [messageComplete]
  show ((s.receiveByte 0xA5).receiveByte n).receiveBytes more = _
  rw [State.receiveByte_start h, State.receiveByte]
  simp only [List.nil_append, hc, Bool.false_eq_true, if_false]

theorem State.receiveBytes_message {s : State} (h : s.link.asm = none) {n : Byte} {more : List Byte} (hl : more.length = n.toNat + 3) :
    s.receiveBytes (0xA5 :: n :: more) = s.closeMessage (n :: more) := by
  rw [State.receiveBytes_begin h, State.receiveBytes_closed (bs := []) rfl (by simpa using hl) (by rintro rfl; simp at hl)]
  exact congrArg (State.closeMessage _) (State.unassembled h)

/-- The bytes of a message cut short are held. -/
theorem State.receiveBytes_partial {s : State} (h : s.link.asm = none) {n : Byte} {more : List Byte} (hl : more.length < n.toNat + 3) :
    s.receiveBytes (0xA5 :: n :: more) = { s with link := { s.link with asm := some (n :: more) } } := by
  rw [State.receiveBytes_begin h, State.receiveBytes_held (bs := []) rfl (by simpa using hl)]
  rfl

theorem State.receiveBytes_ignored {s : State} (h : s.link.asm = none) {bytes : List Byte} (hb : ∀ b ∈ bytes, b ≠ 0xA5) :
    s.receiveBytes bytes = s := by
  induction bytes with
  | nil => rfl
  | cons b bs ih =>
    show (s.receiveByte b).receiveBytes bs = s
    rw [State.receiveByte_ignored h (hb b List.mem_cons_self)]
    exact ih fun x hx => hb x (List.mem_cons_of_mem _ hx)

/-- The bytes of a message after its start byte. -/
theorem Message.encode_eq (m : Message) : m.encode = 0xA5 :: byte m.payload.length :: (byte m.kind :: m.payload
    ++ crcBytes (byte m.payload.length :: byte m.kind :: m.payload)) := rfl

theorem List.take_append_length_succ {α : Type} {a b : α} {p c : List α} {n : Nat} (h : n = p.length) :
    (a :: b :: (p ++ c)).take (n + 2) = a :: b :: p ∧ (a :: b :: (p ++ c)).drop (n + 2) = c := by
  subst h
  simp

/-- A message in range is read as it was sent (R179). -/
theorem Message.checkMessage_encode {m : Message} (hk : 1 ≤ m.kind) (hk' : m.kind ≤ 5) (hp : m.payload.length ≤ 72) :
    checkMessage (byte m.payload.length :: (byte m.kind :: m.payload ++ crcBytes (byte m.payload.length :: byte m.kind :: m.payload))) = some m := by
  have hlen : (byte m.payload.length).toNat = m.payload.length := byte_toNat_of_lt _ (by omega)
  have hkind : (byte m.kind).toNat = m.kind := byte_toNat_of_lt _ (by omega)
  have ht := List.take_append_length_succ (a := byte m.payload.length) (b := byte m.kind) (p := m.payload)
    (c := crcBytes (byte m.payload.length :: byte m.kind :: m.payload)) rfl
  have h72 : Config.maxMessagePayload = 72 := rfl
  unfold checkMessage
  simp only [List.cons_append, List.getD_cons_zero, List.getD_cons_succ, hlen, hkind, ht.1, ht.2, h72, hp, hk, hk', and_self, if_true,
    List.drop_succ_cons, List.drop_zero, List.take_left]

/-- A message is closed with its bytes. -/
theorem State.receiveBytes_encode {s : State} (h : s.link.asm = none) {m : Message} (hp : m.payload.length ≤ 72) :
    s.receiveBytes m.encode = s.closeMessage
      (byte m.payload.length :: (byte m.kind :: m.payload ++ crcBytes (byte m.payload.length :: byte m.kind :: m.payload))) := by
  have hlen : (byte m.payload.length).toNat = m.payload.length := byte_toNat_of_lt _ (by omega)
  rw [Message.encode_eq, State.receiveBytes_message h]
  rw [List.length_append, List.length_cons, crcBytes_length, hlen]

/-- A message that a command names waits for it. -/
theorem State.drainLink_waits {s : State} (h : ∀ x ∈ s.link.rx, x.kind ≠ 4 ∧ x.kind ≠ 5) : s.drainLink = s := by
  unfold State.drainLink
  cases hr : s.link.rx with
  | nil => simp [State.drainLinkFuel]
  | cons m ms =>
    obtain ⟨h4, h5⟩ := h m (by rw [hr]; exact List.mem_cons_self)
    simp [State.drainLinkFuel, hr, h4, h5]

theorem State.drainLink_empty {s : State} (h : s.link.rx = []) : s.drainLink = s :=
  State.drainLink_waits fun x hx => absurd hx (by rw [h]; exact List.not_mem_nil)

theorem exec_messageComplete {s : State} (h : s.powered = true) (bytes : List Byte) :
    exec (.coachLinkMessageComplete bytes) s = .next (s.receiveBytes bytes) :=
  State.run_powered _ h

theorem exec_byteTimeout {s : State} (h : s.powered = true) (bytes : List Byte) :
    exec (.coachLinkByteTimeout bytes) s = .next (s.receiveBytes bytes).cutMessage :=
  State.run_powered (fun x => (x.receiveBytes bytes).cutMessage) h

theorem exec_byteError {s : State} (h : s.powered = true) (bytes : List Byte) :
    exec (.coachLinkByteError bytes) s = .next (s.receiveBytes bytes).cutMessage :=
  State.run_powered (fun x => (x.receiveBytes bytes).cutMessage) h

theorem exec_linkTxComplete {s : State} (h : s.powered = true) : exec .coachLinkTxComplete s = .next s.linkTxComplete :=
  State.run_powered _ h

/-- An event at code 15 is counted there and does nothing else. -/
theorem State.count_fifteen {s : State} (h : 15 < s.events.counters.length) : s.count 15 = { s with events := s.events.bump 15 } :=
  count_counted s 15 h (by decide) (by decide) (by decide)

theorem State.cutMessage_held {s : State} {bs : List Byte} (h : s.link.asm = some bs) (hc : 15 < s.events.counters.length) :
    s.cutMessage = { s with link := { s.link with asm := none }, events := s.events.bump 15 } := by
  rw [State.cutMessage, h]
  exact State.count_fifteen (s := { s with link := { s.link with asm := none } }) hc

theorem State.cutMessage_between {s : State} (h : s.link.asm = none) : s.cutMessage = s := by rw [State.cutMessage, h]

/-- A complete message that fails its check is discarded at code 15 (R179). -/
theorem State.closeMessage_bad {s : State} {bytes : List Byte} (h : checkMessage bytes = none) (hc : 15 < s.events.counters.length) :
    s.closeMessage bytes = { s with events := s.events.bump 15 } := by
  rw [State.closeMessage, h]
  exact State.count_fifteen hc

/-- A good message enters a free buffer (R179). -/
theorem State.closeMessage_room {s : State} {bytes : List Byte} {m : Message} (h : checkMessage bytes = some m) (hr : s.link.rx.length < 2) :
    s.closeMessage bytes = ({ s with link := { s.link with rx := s.link.rx ++ [m] } } : State).drainLink := by
  rw [State.closeMessage, h]
  exact if_pos hr

theorem State.closeMessage_overrun {s : State} {bytes : List Byte} {m : Message} (h : checkMessage bytes = some m)
    (hr : s.link.rx.length = 2) (hc : 15 < s.events.counters.length) : s.closeMessage bytes = { s with events := s.events.bump 15 } := by
  rw [State.closeMessage, h]
  exact (if_neg (by rw [hr]; decide)).trans (State.count_fifteen hc)

theorem checkMessage_bad {n : Byte} {more : List Byte} (h : 72 < n.toNat ∨ crcBytes (n :: more.take (n.toNat + 1)) ≠ more.drop (n.toNat + 1)
    ∨ (more.getD 0 0).toNat < 1 ∨ 5 < (more.getD 0 0).toNat) : checkMessage (n :: more) = none := by
  have h72 : Config.maxMessagePayload = 72 := rfl
  unfold checkMessage
  simp only [List.getD_cons_zero, List.getD_cons_succ, List.take_succ_cons, List.drop_succ_cons, h72]
  refine if_neg ?_
  rintro ⟨h1, h2, h3, h4⟩
  rcases h with h | h | h | h
  · omega
  · exact h h2
  · omega
  · omega

/-! ## Messages that no command names -/

/-- The state that a message alone in the receive buffers leaves when it is taken. -/
theorem State.dropOldest_alone {s : State} (h : s.link.rx = []) (m : Message) :
    ({ s with link := { s.link with rx := [m] } } : State).dropOldest = s := by
  simp only [State.dropOldest, List.drop_succ_cons, List.drop_zero]
  rw [← h]

/-- A message alone in the receive buffers. -/
def State.receiving (m : Message) (s : State) : State := { s with link := { s.link with rx := [m] } }

theorem State.drainLink_request {s : State} {p : List Byte} {r : Request} (hp : readRequest p = some r) (hk : isRequestCode r.kind = true) :
    (s.receiving { kind := 4, payload := p }).drainLink = s.receiving { kind := 4, payload := p } := by
  simp [State.receiving, State.drainLink, State.drainLinkFuel, hp, hk]

/-- A request too short to be one is discarded at code 15 (R181). -/
theorem State.drainLink_short {s : State} {p : List Byte} (hr : s.link.rx = []) (hp : readRequest p = none) :
    (s.receiving { kind := 4, payload := p }).drainLink = s.count 15 := by
  have h : (s.receiving { kind := 4, payload := p }).drainLink = (s.receiving { kind := 4, payload := p }).dropOldest.count 15 := by
    simp [State.receiving, State.drainLink, State.drainLinkFuel, hp]
  rw [h]
  exact congrArg _ (State.dropOldest_alone hr _)

/-- A reply of one part to a request of the coach link enters the place reserved for it behind a busy transmitter. -/
theorem State.sendReply_one {s : State} {kind tag : Nat} {st : Status} {results : List Byte} (h : s.link.sending ≠ none)
    (hl : results.length ≤ 67) : s.sendReply .coachLink kind tag st results =
      { s with link := { s.link with
        txQ := s.link.txQ ++ [{ kind := 0x81, payload := byte kind :: (be16 tag ++ [byte st.code, 0x80] ++ results) }]
        reserved := s.link.reserved - 1 } } := by
  have hpieces : pieces Config.maxParts linkPartBytes results = [results] := if_pos hl
  have hplaces : (Answer.now st results).places = 1 := by rw [Answer.places, hpieces]; rfl
  obtain ⟨x, hx⟩ := Option.ne_none_iff_exists'.mp h
  rw [State.sendReply, hplaces, replyPayloads, hpieces]
  simp [Link.enterReply, Link.start, hx, replyParts]
  rfl

/-- A request of an unknown type is answered BAD_REQUEST (R173). -/
theorem State.drainLink_unknown {s : State} {p : List Byte} {r : Request} (hr : s.link.rx = []) (hp : readRequest p = some r)
    (hk : isRequestCode r.kind = false) (hf : 0 < s.link.free) : (s.receiving { kind := 4, payload := p }).drainLink =
      ({ s with link := { s.link with reserved := s.link.reserved + 1 } } : State).sendReply .coachLink r.kind r.tag .badRequest [] := by
  have hd : (s.receiving { kind := 4, payload := p }).dropOldest = s := State.dropOldest_alone hr _
  have hfree : 0 < (s.receiving { kind := 4, payload := p }).link.free := hf
  have h : (s.receiving { kind := 4, payload := p }).drainLink = State.drainLinkFuel 1 (s.receiving { kind := 4, payload := p }) := rfl
  rw [h, State.drainLinkFuel]
  simp only [show (s.receiving { kind := 4, payload := p }).link.rx = [{ kind := 4, payload := p }] from rfl, hp, hk, hfree, hd]
  rfl

end Sys2Proof.Machine
end

section

open Sys2Proof Sys2Proof.Machine

/-- Settles O12: the bytes of a frame pass the three checks, and an entry is read back from its eight bytes. -/
theorem framesAndEntriesReadAsSent : Obligations.FramesAndEntriesReadAsSent := by
  refine ⟨fun f h => ⟨fun hh => ?_, fun hh => ?_⟩, fun es h => ⟨readEntries_entriesBytes h, countMatches_entriesBytes es⟩⟩
  · rw [Frame.checkFrame_encode (f.wellFormed_iff.mp h), if_neg (by omega)]
  · rw [Frame.checkFrame_encode (f.wellFormed_iff.mp h), if_pos (by omega)]

/-- Settles O13: the bytes close the message, its check gives it back, and it waits or is taken as it stands. -/
theorem messageReceived : Obligations.MessageReceived := by
  intro s hp ha
  have hclose (m : Message) (hl : m.payload.length ≤ 72) : exec (.coachLinkMessageComplete m.encode) s = .next (s.closeMessage
      (byte m.payload.length :: (byte m.kind :: m.payload ++ crcBytes (byte m.payload.length :: byte m.kind :: m.payload)))) := by
    rw [exec_messageComplete hp, State.receiveBytes_encode ha hl]
  refine ⟨fun m h1 h3 hl hx => ⟨fun hr => ?_, fun hr hc => ?_⟩, fun n more hl hc h => ?_, fun p hl hr hc => ?_, ?_⟩
  · rw [hclose m hl, State.closeMessage_room (m.checkMessage_encode h1 (by omega) hl) hr, State.drainLink_waits]
    intro x hm
    rcases List.mem_append.mp hm with hm | hm
    · have := hx x hm; omega
    · rw [List.mem_singleton.mp hm]; omega
  · rw [hclose m hl, State.closeMessage_overrun (m.checkMessage_encode h1 (by omega) hl) hr hc]
  · rw [exec_messageComplete hp, State.receiveBytes_message ha hl, State.closeMessage_bad (checkMessage_bad h) hc]
  · have hn : readRequest p = none := by
      rcases p with _ | ⟨a, _ | ⟨b, _ | ⟨c, d⟩⟩⟩
      · rfl
      · rfl
      · rfl
      · simp at hl; omega
    have hm := Message.checkMessage_encode (m := { kind := 4, payload := p }) (show 1 ≤ 4 by decide) (show 4 ≤ 5 by decide)
      (show p.length ≤ 72 by omega)
    rw [hclose { kind := 4, payload := p } (show p.length ≤ 72 by omega), State.closeMessage_room hm (by rw [hr]; decide), hr]
    exact congrArg _ ((State.drainLink_short hr hn).trans (State.count_fifteen hc))
  · intro code h l args hl hr m
    have hm := m.checkMessage_encode (show 1 ≤ 4 by decide) (show 4 ≤ 5 by decide) (show args.length + 3 ≤ 72 by omega)
    have hread : readRequest m.payload = some { kind := code.toNat, tag := u16 h l, args := args } := rfl
    rw [hclose m (show args.length + 3 ≤ 72 by omega), State.closeMessage_room hm (by rw [hr]; decide), hr]
    refine ⟨fun h1 h2 => ?_, fun hk hq hb hv hs => ?_⟩
    · exact congrArg _ (State.drainLink_request (s := s) hread (by simp [isRequestCode, h1, h2]))
    · have hfree : 0 < s.link.free := by simp [Link.free, hq, hv, Config.txPlaces]
      refine congrArg _ ((State.drainLink_unknown hr hread (by simp [isRequestCode]; omega) hfree).trans ?_)
      have hone := State.sendReply_one (s := { s with link := { s.link with reserved := s.link.reserved + 1 } }) (kind := code.toNat)
        (tag := u16 h l) (st := .badRequest) (results := []) hs (show 0 ≤ 67 by decide)
      rw [hone, be16_u16, byte_of_toNat]
      simp only [hq, hv]
      rw [← hv]
      rfl

/-- Settles O49: what a cut, a completed transmission and bytes between messages do. -/
theorem messagesCutAndSent : Obligations.MessagesCutAndSent := by
  intro s hp
  refine ⟨fun bytes ha hb => ?_, fun n more ha hl hc => ?_, fun ha hc => ?_, fun h => ?_, fun h hr => ⟨fun hq => ?_, fun m q hq hb => ?_,
    fun m q b bs hq hb => ?_⟩⟩
  · rw [exec_byteTimeout hp, exec_byteError hp, exec_messageComplete hp, State.receiveBytes_ignored ha hb, State.cutMessage_between ha]
    exact ⟨rfl, rfl, rfl⟩
  · rw [exec_byteTimeout hp, exec_byteError hp, State.receiveBytes_partial ha hl,
      State.cutMessage_held (s := { s with link := { s.link with asm := some (n :: more) } }) rfl hc]
    have h0 : ({ s with link := { s.link with asm := none }, events := s.events.bump 15 } : State) = { s with events := s.events.bump 15 } := by
      rw [← ha]
    exact ⟨congrArg _ h0, congrArg _ h0⟩
  · obtain ⟨bs, hb⟩ := Option.ne_none_iff_exists'.mp ha
    rw [exec_byteTimeout hp, exec_byteError hp]
    have h0 : s.receiveBytes [] = s := rfl
    rw [h0, State.cutMessage_held hb hc]
    exact ⟨rfl, rfl⟩
  · rw [exec_linkTxComplete hp, State.linkTxComplete, if_pos h]
  · rw [exec_linkTxComplete hp, State.linkTxComplete, if_neg h, State.drainLink_empty]
    · simp [Link.start, hq]
    · rw [(Link.start_keeps _).2.1]; exact hr
  · rw [exec_linkTxComplete hp, State.linkTxComplete, if_neg h, State.drainLink_empty]
    · simp [Link.start, hq, hb]
    · rw [(Link.start_keeps _).2.1]; exact hr
  · rw [exec_linkTxComplete hp, State.linkTxComplete, if_neg h, State.drainLink_empty]
    · simp [Link.start, hq, hb]
    · rw [(Link.start_keeps _).2.1]; exact hr

end

section
/-! PROOFS. What an end unit does with the bytes of a closed assembly: discarded as unsound (O19), or handed to the relay unit. -/

namespace Sys2Proof.Machine

/-! ## Checks on the bytes of a frame -/

/-- The reasons for which an assembly fails the integrity check (R9), over the bytes it closed with. -/
def Unsound (overlong : Bool) (all : List Byte) : Prop :=
  overlong = true ∨ all.length < 18 ∨ 282 < all.length ∨ all.length ≠ 18 + u16 (all.getD 14 0) (all.getD 15 0)
    ∨ crcBytes (all.take (all.length - 2)) ≠ all.drop (all.length - 2)

theorem Assembly.extend_short {a : Assembly} {more : List Byte} (h : (a.bytes ++ more).length ≤ 282) :
    a.extend more = { bytes := a.bytes ++ more, overlong := a.overlong } := by
  have h282 : Config.maxFrameBytes = 282 := rfl
  simp only [Assembly.extend, h282, List.take_of_length_le h]
  rw [decide_eq_false (by omega), Bool.or_false]

theorem Assembly.extend_overlong {a : Assembly} {more : List Byte} (h : 282 < (a.bytes ++ more).length) : (a.extend more).overlong = true := by
  simp only [Assembly.extend, show Config.maxFrameBytes = 282 from rfl, decide_eq_true h, Bool.or_true]

/-- An unsound assembly fails the checks. -/
theorem checkFrame_unsound {a : Assembly} {more : List Byte} (h : Unsound a.overlong (a.bytes ++ more)) :
    checkFrame (a.extend more) = .bad := by
  refine if_neg ?_
  by_cases hl : 282 < (a.bytes ++ more).length
  · simp [soundFrameBytes, Assembly.extend_overlong hl]
  · rw [Assembly.extend_short (by omega)]
    simp only [soundFrameBytes, Bool.and_eq_true, decide_eq_true_eq, Bool.not_eq_true']
    rintro ⟨⟨⟨h1, h2⟩, h3⟩, h4⟩
    rcases h with h | h | h | h | h
    · rw [h1] at h; exact absurd h (by decide)
    · omega
    · exact hl h
    · exact h h3
    · exact h h4

/-- A sound assembly is judged by its fields. -/
theorem checkFrame_sound {a : Assembly} {more : List Byte} (h : ¬Unsound a.overlong (a.bytes ++ more)) :
    checkFrame (a.extend more) = checkFields (a.bytes ++ more) := by
  simp only [Unsound, not_or, not_lt, ne_eq, not_not, Bool.not_eq_true] at h
  obtain ⟨h1, h2, h3, h4, h5⟩ := h
  rw [Assembly.extend_short h3]
  refine if_pos ?_
  simp only [soundFrameBytes, h1, ← h4, h5, Bool.not_false, decide_true, Bool.and_true, Bool.true_and, decide_eq_true_eq]
  exact h2

theorem Dir.ofCode_none {n : Nat} (h : n ≠ 1 ∧ n ≠ 2) : Dir.ofCode n = none := by
  unfold Dir.ofCode
  split
  · exact absurd rfl h.1
  · exact absurd rfl h.2
  · rfl

theorem Dir.ofCode_isSome {n : Nat} (h : ¬(n ≠ 1 ∧ n ≠ 2)) : ∃ d, Dir.ofCode n = some d := by
  have h : n = 1 ∨ n = 2 := by omega
  rcases h with rfl | rfl
  · exact ⟨_, rfl⟩
  · exact ⟨_, rfl⟩

theorem DestKind.ofCode_none {n : Nat} (h : n < 1 ∨ 4 < n) : DestKind.ofCode n = none := by
  unfold DestKind.ofCode
  split
  · omega
  · omega
  · omega
  · omega
  · rfl

theorem DestKind.ofCode_isSome {n : Nat} (h : ¬(n < 1 ∨ 4 < n)) : ∃ k, DestKind.ofCode n = some k ∧ (k = .position ↔ n = 2) := by
  have h : n = 1 ∨ n = 2 ∨ n = 3 ∨ n = 4 := by omega
  rcases h with rfl | rfl | rfl | rfl
  · exact ⟨_, rfl, by decide⟩
  · exact ⟨_, rfl, by decide⟩
  · exact ⟨_, rfl, by decide⟩
  · exact ⟨_, rfl, by decide⟩

/-- The reasons for which a frame fails a field range (R10), over its bytes read as numbers. -/
def OutOfRange (b : Nat → Nat) : Prop :=
  31 < b 0 ∨ (b 1 % 4 ≠ 1 ∧ b 1 % 4 ≠ 2) ∨ 32 < b 4 ∨ b 5 < 1 ∨ 4 < b 5
    ∨ (b 5 = 2 ∧ (((b 10 * 256 + b 11) * 256 + b 12) * 256 + b 13 < 1 ∨ 32 < ((b 10 * 256 + b 11) * 256 + b 12) * 256 + b 13))

theorem u32_toNat (a b c d : Byte) : (u32 a b c d).toNat = ((a.toNat * 256 + b.toNat) * 256 + c.toNat) * 256 + d.toNat := by
  have := a.isLt
  have := b.isLt
  have := c.isLt
  have := d.isLt
  simp only [u32, BitVec.toNat_ofNat]
  omega

/-- Field ranges decide a frame before its hop count does (R10, R11). -/
theorem checkFields_cases (all : List Byte) :
    (OutOfRange (fun i => (all.getD i 0).toNat) → checkFields all = .bad)
    ∧ (¬OutOfRange (fun i => (all.getD i 0).toNat) → 40 ≤ (all.getD 2 0).toNat → checkFields all = .hopLimit) := by
  by_cases hd : (all.getD 1 0).toNat % 4 ≠ 1 ∧ (all.getD 1 0).toNat % 4 ≠ 2
  · refine ⟨fun _ => ?_, fun h => absurd (.inr (.inl hd)) h⟩
    simp only [checkFields, Dir.ofCode_none hd]
  · obtain ⟨d, hd'⟩ := Dir.ofCode_isSome hd
    by_cases hk : (all.getD 5 0).toNat < 1 ∨ 4 < (all.getD 5 0).toNat
    · refine ⟨fun _ => ?_, fun h => absurd (hk.elim (fun x => .inr (.inr (.inr (.inl x)))) fun x => .inr (.inr (.inr (.inr (.inl x))))) h⟩
      simp only [checkFields, hd', DestKind.ofCode_none hk]
    · obtain ⟨k, hk', hp⟩ := DestKind.ofCode_isSome hk
      have hfields : (31 < (all.getD 0 0).toNat ∨ 32 < (all.getD 4 0).toNat ∨ (k = .position ∧
          ((u32 (all.getD 10 0) (all.getD 11 0) (all.getD 12 0) (all.getD 13 0)).toNat < 1
            ∨ 32 < (u32 (all.getD 10 0) (all.getD 11 0) (all.getD 12 0) (all.getD 13 0)).toNat)))
          ↔ OutOfRange (fun i => (all.getD i 0).toNat) := by
        rw [u32_toNat, hp]
        unfold OutOfRange
        tauto
      refine ⟨fun h => ?_, fun h h40 => ?_⟩
      · simp only [checkFields, hd', hk']
        rw [if_pos (hfields.mpr h)]
      · simp only [checkFields, hd', hk']
        rw [if_neg (mt hfields.mp h), if_pos h40]

/-! ## Reception -/

theorem exec_lineFrameClosed {s : State} (h : s.powered = true) (p : Port) (bytes : List Byte) (byStart : Bool) :
    exec (.lineFrameClosed p bytes byStart) s = .next (s.frameClosed p bytes byStart) := State.run_powered _ h

theorem State.frameClosed_unmated {s : State} {p : Port} (h : (s.port p).pilot ≠ .mated) (bytes : List Byte) (byStart : Bool) :
    s.frameClosed p bytes byStart = s := if_neg (by simpa [State.mated] using h)

theorem State.frameClosed_mated {s : State} {p : Port} (h : (s.port p).pilot = .mated) (bytes : List Byte) (byStart : Bool) :
    s.frameClosed p bytes byStart =
      ((s.setPort p { s.port p with rx := if byStart then some Assembly.empty else none }).receive p
        (((s.port p).rx.getD Assembly.empty).extend bytes)).drainLine := if_pos (decide_eq_true h)

/-- No request of the line waits that no command names. -/
theorem State.drainLine_none {s : State} (h : takeClass 9 s.delivered = none) : s.drainLine = s := by
  unfold State.drainLine
  cases s.delivered.length with
  | zero => rfl
  | succ n => rw [State.drainLineFuel, h]

/-- Where no assembly is held, the receiver stays ready. -/
theorem State.setPort_rx {s : State} {p : Port} (h : (s.port p).rx = none) : s.setPort p { s.port p with rx := none } = s := by
  rw [← h]; exact s.setPort_port p

/-- A whole frame that passes the checks is classified (R12). -/
theorem State.frameClosed_good {s : State} {p : Port} {f : Frame} (hm : (s.port p).pilot = .mated) (hr : (s.port p).rx = none)
    (hf : f.wellFormed = true) (hh : f.hop ≤ 39) : s.frameClosed p f.encode false = (s.classify p f).drainLine := by
  have hc := Frame.checkFrame_encode (f.wellFormed_iff.mp hf)
  rw [if_neg (by omega)] at hc
  rw [State.frameClosed_mated hm]
  simp only [Bool.false_eq_true, if_false, State.setPort_rx hr, hr, Option.getD_none]
  rw [State.receive, hc]

/-- A discarded frame is counted at its code, and the receiver goes on. -/
theorem State.count_setPort {s : State} {p : Port} {x : LinePort} {code : Nat} (hc : code < s.events.counters.length) (h : code < 2)
    (hd : takeClass 9 s.delivered = none) :
    ((s.setPort p x).count code).drainLine = ({ s with events := s.events.bump code } : State).setPort p x := by
  have he : code < (s.setPort p x).events.counters.length := by rw [State.setPort_events]; exact hc
  rw [count_counted _ code he (by omega) (by omega) (by omega), State.drainLine_none (by cases p <;> exact hd)]
  cases p <;> rfl

end Sys2Proof.Machine
end

section

open Sys2Proof Sys2Proof.Machine

/-- Settles O19: the three checks in their order, on the bytes held and those that the command brings. -/
theorem unsoundFramesDiscarded : Obligations.UnsoundFramesDiscarded := by
  intro s p bytes byStart hp x held all next at' value unsound outOfRange counted
  refine ⟨fun hm => ?_, fun hm hd hc => ?_, fun f hm hr hd hc hf hh => ?_⟩
  · rw [exec_lineFrameClosed hp, State.frameClosed_unmated hm]
  · have hlost (code : Nat) (h2 : code < 2) (hk : ∀ s', State.receive p (held.extend bytes) s' = s'.count code) : counted code := by
      show exec _ _ = _
      rw [exec_lineFrameClosed hp, State.frameClosed_mated hm, show ((s.port p).rx.getD Assembly.empty) = held from rfl, hk,
        State.count_setPort (by omega) h2 hd]
      rfl
    refine ⟨fun h => ?_, fun h hr => ?_, fun h hr h40 => ?_⟩
    · exact hlost 0 (by decide) fun s' => by rw [State.receive, checkFrame_unsound h]
    · exact hlost 0 (by decide) fun s' => by rw [State.receive, checkFrame_sound h, (checkFields_cases all).1 hr]
    · exact hlost 1 (by decide) fun s' => by rw [State.receive, checkFrame_sound h, (checkFields_cases all).2 hr h40]
  · have hk := Frame.checkFrame_encode (f.wellFormed_iff.mp hf)
    rw [if_pos (by omega)] at hk
    rw [exec_lineFrameClosed hp, State.frameClosed_mated hm, hr, Option.getD_none, State.receive, hk]
    exact congrArg _ (State.count_setPort hc (by decide) hd)

end

section
/-! PROOFS. The census by its frames (O25 to O28): calls recorded or refused, returns and announces accepted or not, topology changes. -/

namespace Sys2Proof.Machine

/-! ## Frames taken and lists read -/

/-- A block takes the frame that waits for it. -/
theorem State.run_takeDelivered {cls : Nat} {act : Delivery → State → State} {s : State} {d : Delivery} {rest : List Delivery}
    (h : s.holds cls d rest) : s.run (State.takeDelivered cls act) = .next (act d { s with delivered := rest }) :=
  (State.run_powered _ h.1).trans (congrArg _ (State.takeDelivered_some h.2))

theorem Delivery.callAct_read {d : Delivery} {c : CallIn} (h : readCall d.frame.payload = some c) (s : State) :
    d.callAct s = s.takeCall d.endNo c := by rw [Delivery.callAct, h]

theorem Delivery.returnAct_read {d : Delivery} {r : ReturnIn} (h : readReturn d.frame.payload = some r) (s : State) :
    d.returnAct s = s.takeReturn r := by rw [Delivery.returnAct, h]

theorem Delivery.announceAct_read {d : Delivery} {a : AnnounceIn} (h : readAnnounce d.frame.payload = some a) (s : State) :
    d.announceAct s = s.takeAnnounce a := by rw [Delivery.announceAct, h]

theorem readEntries_length (bs : List Byte) : (readEntries bs).length = bs.length / 8 := by
  match bs with
  | a :: b :: c :: d :: e :: f :: g :: h :: rest =>
    rw [readEntries, List.length_cons, readEntries_length rest]
    simp only [List.length_cons]
    omega
  | [] => simp [readEntries]
  | [_] => simp [readEntries]
  | [_, _] => simp [readEntries]
  | [_, _, _] => simp [readEntries]
  | [_, _, _, _] => simp [readEntries]
  | [_, _, _, _, _] => simp [readEntries]
  | [_, _, _, _, _, _] => simp [readEntries]
  | [_, _, _, _, _, _, _] => simp [readEntries]

theorem countMatches_iff (n : Nat) (bs : List Byte) :
    countMatches n bs = true ↔ n = (readEntries bs).length ∧ 7 + bs.length = 7 + 8 * (readEntries bs).length := by
  rw [readEntries_length, countMatches, Bool.and_eq_true, decide_eq_true_eq, decide_eq_true_eq]
  omega

theorem distinctIds_iff (es : List Entry) : distinctIds es = true ↔ (es.map Entry.id).Nodup := by
  induction es with
  | nil => simp [distinctIds]
  | cons e es ih => simp [distinctIds, ih, List.all_eq_true]

/-- The list of a return is sound as R38 says on its bytes. -/
theorem State.soundReturn_iff {s : State} {p : List Byte} {r : ReturnIn} (h : readReturn p = some r) :
    s.soundReturn r = true ↔ s.listSound p r.entries 0 := by
  unfold readReturn at h
  split at h
  · rename_i a b c d t st n rest
    simp only [Option.some.injEq] at h
    subst h
    have hl : (a :: b :: c :: d :: t :: st :: n :: rest).length = 7 + rest.length := by simp only [List.length_cons]; omega
    simp only [State.soundReturn, State.listSound, Bool.and_eq_true, decide_eq_true_eq, countMatches_iff, distinctIds_iff, hl,
      List.getD_cons_succ, List.getD_cons_zero, and_assoc]
    cases readEntries rest <;> simp
  · exact absurd h (by simp)

/-- An announce passes the tests of R48 as its bytes give them. -/
theorem State.soundAnnounce_iff {s : State} {p : List Byte} {a : AnnounceIn} (h : readAnnounce p = some a) :
    s.soundAnnounce a = true ↔ s.announceSound p a := by
  unfold readAnnounce at h
  split at h
  · rename_i e a b c d t n rest
    simp only [Option.some.injEq] at h
    subst h
    have hl : (e :: a :: b :: c :: d :: t :: n :: rest).length = 7 + rest.length := by simp only [List.length_cons]; omega
    simp only [State.soundAnnounce, State.announceSound, State.listSound, Bool.and_eq_true, decide_eq_true_eq, countMatches_iff,
      distinctIds_iff, hl, List.getD_cons_succ, List.getD_cons_zero]
    cases (readEntries rest)[s.census.position - 1]?
    · simp
    · simp only [Bool.and_eq_true, decide_eq_true_eq, Option.some.injEq, exists_eq_left']
      tauto
  · exact absurd h (by simp)

/-! ## Calls (R43 to R46) -/

theorem State.refusesCall_iff (tag : Tag) (s : State) : s.refusesCall tag = true ↔
    s.census.lead ≠ .off ∨ (s.census.cs = .survey ∧ s.census.hold ≠ none ∧ ∃ u, s.census.tag = some u ∧ u.lead ≠ tag.lead) := by
  have ht : (match s.census.tag with
      | some t => decide (t.lead ≠ tag.lead)
      | none => false) = true ↔ ∃ u, s.census.tag = some u ∧ u.lead ≠ tag.lead := by
    cases s.census.tag <;> simp
  simp only [State.refusesCall, State.isLead, Bool.or_eq_true, Bool.and_eq_true, decide_eq_true_eq, Option.isSome_iff_ne_none, and_assoc]
  exact or_congr Iff.rfl (and_congr Iff.rfl (and_congr Iff.rfl ht))

theorem any_own_iff (es : List Entry) (id : NodeId) : (es.any fun e => decide (e.id = id)) = true ↔ ∃ e ∈ es, e.id = id := by simp

/-- A call refused draws a free value for its return, and is otherwise quiet (R43, R44; log 9). -/
theorem State.takeCall_refused {x : EndNo} {c : CallIn} {s : State}
    (h : s.refusesCall c.tag = true ∨ 32 ≤ c.entries.length ∨ ∃ e ∈ c.entries, e.id = s.nodeId) :
    ∃ status, Quiet { s with freeCount := s.freeCount + 1 } (s.takeCall x c)
      ∧ s.takeCall x c = s.sendReturn c.tag status [] (s.endPort x) := by
  rw [State.takeCall_eq]
  by_cases h1 : s.refusesCall c.tag = true
  · rw [if_pos h1]; exact ⟨3, State.sendReturn_quiet _ _ _ _ s, rfl⟩
  · rw [if_neg h1]
    by_cases h2 : 32 ≤ c.entries.length
    · rw [if_pos h2]; exact ⟨1, State.sendReturn_quiet _ _ _ _ s, rfl⟩
    · have h3 := (any_own_iff c.entries s.nodeId).mpr ((h.resolve_left h1).resolve_left h2)
      rw [if_neg h2, if_pos h3]
      exact ⟨2, State.sendReturn_quiet _ _ _ _ s, rfl⟩

theorem State.takeCall_taken {x : EndNo} {c : CallIn} {s : State} (h1 : ¬s.refusesCall c.tag = true) (h2 : c.entries.length < 32)
    (h3 : ¬∃ e ∈ c.entries, e.id = s.nodeId) : s.takeCall x c =
      let es := c.entries ++ [s.ownEntry (endOrientation x)]
      let t := s.surveyed x c.tag es.length
      if t.mated (t.endPort x.other) then t.sendCall c.tag es (t.endPort x.other) else t.sendReturn c.tag 0 es (t.endPort x) := by
  rw [State.takeCall_eq, if_neg h1, if_neg (by omega), if_neg (mt (any_own_iff _ _).mp h3)]

/-- A call taken leaves the node surveyed, but for the frame it sends on (R45, R46). -/
theorem State.takeCall_surveyed {x : EndNo} {c : CallIn} {s : State} (h1 : ¬s.refusesCall c.tag = true) (h2 : c.entries.length < 32)
    (h3 : ¬∃ e ∈ c.entries, e.id = s.nodeId) :
    ∃ n, Quiet { s.surveyed x c.tag (c.entries.length + 1) with freeCount := n } (s.takeCall x c) := by
  rw [State.takeCall_taken h1 h2 h3]
  simp only [List.length_append, List.length_singleton]
  split
  · exact ⟨_, State.sendCall_quiet _ _ _ _⟩
  · exact ⟨_, State.sendReturn_quiet _ _ _ _ _⟩

/-- A node outside SETTLED that is surveyed changes its census record alone. -/
theorem State.surveyed_outside {x : EndNo} {tag : Tag} {n : Nat} {s : State} (h : s.census.cs ≠ .settled) :
    s.surveyed x tag n = { s with census := { s.census.called x tag n with cs := .survey } } := by
  have hc : ¬(({ s with census := s.census.called x tag n } : State).census.cs = .settled ∧ CensusState.survey ≠ .settled) := fun k => h k.1
  have he := State.surveyed_census x tag n s
  rw [State.surveyed, State.enterCensus_stays hc] at he ⊢
  exact congrArg (fun c => ({ s with census := c } : State)) he

/-! ## Returns (R38 to R42) -/

theorem State.takeReturn_stale {r : ReturnIn} {s : State} (h : ¬(s.census.lead = .calling ∧ s.census.tag = some r.tag)) :
    s.takeReturn r = s := if_neg h

/-- An OK return that is current is accepted when its list is sound, and ignored otherwise. -/
theorem State.takeReturn_ok {r : ReturnIn} {s : State} (h : s.census.lead = .calling) (ht : s.census.tag = some r.tag) (hr : r.status = 0) :
    s.takeReturn r = if s.soundReturn r then s.acceptReturn r.tag r.entries else s := by
  rw [State.takeReturn, if_pos ⟨h, ht⟩, hr]
  rfl

/-- The reasons that a return's failure status gives (R39). -/
theorem State.takeReturn_fails {r : ReturnIn} {s : State} {why : Failure} (h : s.census.lead = .calling) (ht : s.census.tag = some r.tag)
    (hr : (r.status, why) ∈ [(1, Failure.tooLong), (2, Failure.duplicateId), (3, Failure.twoLeads)]) :
    s.takeReturn r = s.enterBlocked why := by
  rw [State.takeReturn, if_pos ⟨h, ht⟩]
  simp only [List.mem_cons, Prod.mk.injEq, List.not_mem_nil, or_false] at hr
  rcases hr with ⟨h, rfl⟩ | ⟨h, rfl⟩ | ⟨h, rfl⟩
  · rw [h]; rfl
  · rw [h]; rfl
  · rw [h]; rfl

theorem State.enterBlocked_sets (r : Failure) (s : State) : hasFlag (s.enterBlocked r).notices.flags .censusFailed = true :=
  State.failCensus_sets _ _

/-! ## The census restarted (R36) -/

theorem State.startAttempt_summary {ctr : Nat} {s : State} (h : s.mated s.nonCabPort = true) : (s.startAttempt ctr).summary =
    if s.census.lead = .holding then { recs := [], proven := false } else s.summary := by
  rw [State.startAttempt_mated h]
  exact ((State.sendCall_quiet _ _ _ _).summary).trans (s.calling_summary ctr)

theorem State.startAttempt_alloc {ctr : Nat} {s : State} (h : s.mated s.nonCabPort = true) : (s.startAttempt ctr).alloc =
    if s.census.lead = .holding then { s.alloc with recs := [], last := none } else s.alloc := by
  rw [State.startAttempt_mated h]
  exact ((State.sendCall_quiet _ _ _ _).alloc).trans (s.calling_alloc ctr)

theorem State.restartCensus_sets (s : State) : hasFlag s.restartCensus.notices.flags .topology = true :=
  (State.startAttempt_eventful 0 s.seeTopology).flags _ s.seeTopology_sets

/-- What a census restarted with the non-cab end MATED leaves (R35, R36). -/
structure Restarted (s t : State) : Prop where
  census : t.census = { s.census.calling s.nextTag 0 s.mgmt.working.coach.cabEnd with timer := some Config.censusTimerMs }
  summary : t.summary = if s.census.lead = .holding then { recs := [], proven := false } else s.summary
  alloc : t.alloc = if s.census.lead = .holding then { s.alloc with recs := [], last := none } else s.alloc
  line : t.line = let l := if s.census.lead = .holding then { s.line with beaconOn := false } else s.line
    if s.census.cs = .settled then l.ended else l

theorem State.restartCensus_mated {s : State} (h : s.mated s.nonCabPort = true) : Restarted s s.restartCensus := by
  have q := s.seeTopology_quiet
  have hm : s.seeTopology.mated s.seeTopology.nonCabPort = true := by rw [q.eventful.nonCabPort, q.mated, h]
  have ht : s.seeTopology.nextTag = s.nextTag := by simp [State.nextTag, Census.nextAttempt]
  refine ⟨?_, ?_, ?_, ?_⟩
  · rw [State.restartCensus, State.startAttempt_census, ht]
    simp [hm]
  · rw [State.restartCensus, State.startAttempt_summary hm, q.census, q.summary]
  · rw [State.restartCensus, State.startAttempt_alloc hm, q.census, q.alloc]
  · rw [State.restartCensus, State.startAttempt_line, if_pos hm, State.calling_line, q.census, q.line]

end Sys2Proof.Machine
end

section

open Sys2Proof Sys2Proof.Machine

/-- Settles O25: a call is refused and the record stands, or the node is surveyed. -/
theorem censusCallRecorded : Obligations.CensusCallRecorded := by
  intro s d rest c hs hc
  have hx : exec .censusCallTaken s = .next (State.takeCall d.endNo c { s with delivered := rest }) :=
    (State.run_takeDelivered hs).trans (congrArg _ (Delivery.callAct_read hc _))
  refine ⟨fun hl hv h32 hown => ⟨_, hx, ?_⟩, fun h => ⟨_, hx, ?_⟩⟩
  · have hr : ¬({ s with delivered := rest } : State).refusesCall c.tag = true := by
      rw [State.refusesCall_iff]
      rintro (h | ⟨h1, h2, u, h3, h4⟩)
      · exact h hl
      · exact h4 ((hv.resolve_left fun k => k h1).resolve_left h2 u h3)
    obtain ⟨n, q⟩ := State.takeCall_surveyed (x := d.endNo) hr h32 (fun ⟨e, he, hi⟩ => hown e he hi)
    have ev := State.surveyed_eventful d.endNo c.tag (c.entries.length + 1) { s with delivered := rest }
    refine ⟨?_, ⟨q.powered.trans ev.powered, q.nodeId.trans ev.nodeId, q.strap.trans ev.strap, q.mgmt.trans ev.mgmt, q.pending.trans ev.pending⟩,
      q.delivered.trans ev.delivered, q.alloc.trans (State.surveyed_alloc _ _ _ _), q.sense.trans ev.sense,
      q.summary.trans (State.surveyed_summary _ _ _ _), fun h => ?_, fun h => ?_⟩
    · rw [q.census]
      exact (State.surveyed_census _ _ _ _).trans rfl
    · rw [q.doors, q.line, q.heater]
      rw [State.surveyed_outside (s := { s with delivered := rest }) h]
      exact ⟨rfl, rfl, rfl⟩
    · rw [q.line, State.surveyed_line, if_pos h]
      exact ⟨rfl, rfl, rfl⟩
  · have hr : ({ s with delivered := rest } : State).refusesCall c.tag = true ∨ 32 ≤ c.entries.length ∨ ∃ e ∈ c.entries, e.id = s.nodeId := by
      rw [State.refusesCall_iff]
      rcases h with h | h | h
      · exact .inl (.inl h)
      · exact .inl (.inr h)
      · exact .inr h
    obtain ⟨_, q, _⟩ := State.takeCall_refused (x := d.endNo) hr
    exact ⟨q.census, ⟨q.powered, q.nodeId, q.strap, q.mgmt, q.pending⟩, q.delivered, q.alloc, q.sense, q.summary, q.doors, q.line, q.heater⟩

/-- Settles O26: the return by its currency, its status and its list. -/
theorem returnInstallsOrBlocks : Obligations.ReturnInstallsOrBlocks := by
  intro s d rest r hs hr sound
  have hx : exec .censusReturnTaken s = .next (State.takeReturn r { s with delivered := rest }) :=
    (State.run_takeDelivered hs).trans (congrArg _ (Delivery.returnAct_read hr _))
  have hsound : ({ s with delivered := rest } : State).soundReturn r = true ↔ sound := State.soundReturn_iff hr
  refine ⟨?_, fun h => ?_, fun hl ht why hw => ?_⟩
  · intro hl ht h0 hv epoch
    have ha := (State.takeReturn_ok (s := { s with delivered := rest }) hl ht h0).trans (if_pos (hsound.mpr hv))
    have ev := State.acceptReturn_eventful r.tag r.entries { s with delivered := rest }
    refine ⟨_, hx.trans (congrArg _ ha), State.acceptReturn_census _ _ _, ?_⟩
    rw [State.acceptReturn_line, State.acceptReturn_summary, State.acceptReturn_alloc]
    exact ⟨rfl, rfl, rfl, rfl, rfl, rfl, rfl, rfl, rfl, rfl, ev.sameFrame, ev.delivered, ev.sense⟩
  · rw [hx]
    by_cases hc : s.census.lead = .calling ∧ s.census.tag = some r.tag
    · obtain ⟨h0, hv⟩ := (h.resolve_left fun k => k hc.1).resolve_left fun k => k hc.2
      rw [State.takeReturn_ok (s := { s with delivered := rest }) hc.1 hc.2 h0, if_neg (mt hsound.mp hv)]
    · rw [State.takeReturn_stale (s := { s with delivered := rest }) hc]
  · have hb := State.takeReturn_fails (s := { s with delivered := rest }) hl ht hw
    have ev := State.enterBlocked_eventful why { s with delivered := rest }
    refine ⟨_, hx.trans (congrArg _ hb), ?_⟩
    rw [State.enterBlocked_census]
    exact ⟨rfl, rfl, rfl, rfl, rfl, rfl, rfl, rfl, State.enterBlocked_sets _ _, ev.sameFrame, ev.delivered, ev.sense⟩

/-- Settles O27: an announce by where it finds the node and by its tests. -/
theorem announceInstallsOrMismatches : Obligations.AnnounceInstallsOrMismatches := by
  intro s d rest a hs ha
  have hx : exec .consistAnnounceTaken s = .next (State.takeAnnounce a { s with delivered := rest }) :=
    (State.run_takeDelivered hs).trans (congrArg _ (Delivery.announceAct_read ha _))
  have hsound : ({ s with delivered := rest } : State).soundAnnounce a = true ↔ s.announceSound d.frame.payload a := State.soundAnnounce_iff ha
  refine ⟨fun h => ?_, fun hc hl hv => ⟨_, hx, ?_⟩, fun hc hl hv => ⟨_, hx, ?_⟩⟩
  · rw [hx, State.takeAnnounce_eq, if_neg fun k => h.elim (fun n => n k.1) fun n => n k.2]
  · rw [State.takeAnnounce_eq, if_pos ⟨hc, hl⟩, if_pos (hsound.mpr hv)]
    have ev := State.joined_eventful a.epoch a.entries { s with delivered := rest }
    rw [State.joined_census, State.joined_line, State.joined_alloc]
    exact ⟨rfl, rfl, rfl, rfl, ev.sameFrame, ev.delivered, ev.sense, rfl⟩
  · rw [State.takeAnnounce_eq, if_pos ⟨hc, hl⟩, if_neg (mt hsound.mp hv)]
    generalize hu : ({ s with delivered := rest, census := s.census.givenUp } : State) = u
    have hcs : ¬(u.census.cs = .settled ∧ u.census.standing ≠ .settled) := by rw [← hu]; exact fun k => by simp [Census.givenUp, hc] at k
    have hf : u.fallBack = { u with census := u.census.entering u.census.standing } := State.enterCensus_stays hcs
    have q := (State.seeTopology_quiet u.fallBack).trans (State.sendTopologyChange_quiet .announceMismatch _)
    have hflag := (State.sendTopologyChange_quiet .announceMismatch u.fallBack.seeTopology).flags _ (State.seeTopology_sets u.fallBack)
    rw [hf] at q hflag ⊢
    subst hu
    refine ⟨?_, ?_, ?_, ?_, ?_, hflag, ⟨q.powered, q.nodeId, q.strap, q.mgmt, q.pending⟩, q.delivered, q.sense, q.alloc, q.doors, q.line⟩
    · rw [q.census]; rfl
    · rw [q.census]; rfl
    · rw [q.census]; rfl
    · rw [q.census]; rfl
    · rw [q.census]; rfl

/-- Settles O28: a lead restarts its census, and no other node does anything. -/
theorem topologyChangeRestartsCensus : Obligations.TopologyChangeRestartsCensus := by
  intro s d rest hs
  have hx : exec .topologyChangeTaken s = .next (State.takeTopologyChange d.frame.payload { s with delivered := rest }) :=
    State.run_takeDelivered hs
  refine ⟨fun hl => ?_, fun hl h1 hm => ⟨_, hx, ?_⟩⟩
  · rw [hx, State.takeTopologyChange, if_neg fun k => by simp [State.isLead, hl] at k]
  · rw [State.takeTopologyChange, if_pos ⟨h1, decide_eq_true hl⟩]
    obtain ⟨hcensus, hsum, halloc, hline⟩ := State.restartCensus_mated (s := { s with delivered := rest }) hm
    have ev := State.restartCensus_eventful { s with delivered := rest }
    rw [hcensus]
    refine ⟨rfl, rfl, rfl, rfl, rfl, rfl, rfl, rfl, State.restartCensus_sets _, fun h => ?_, ev.sameFrame, ev.delivered, ev.sense⟩
    rw [hsum, halloc, hline]
    rw [if_pos h, if_pos h, if_pos h]
    refine ⟨rfl, rfl, rfl, rfl, ?_⟩
    split <;> rfl

end

section
/-! PROOFS. The lead role and the census timers (O29 to O31), and the ends that enter and leave MATED (O18). -/

namespace Sys2Proof.Machine

/-! ## Assertion and release of CAB (R33, R34) -/

theorem exec_cabAssertionTaken {s : State} (h : s.powered = true) : exec .cabAssertionTaken s = .next s.cabAssertion := State.run_powered _ h

theorem exec_cabReleaseTaken {s : State} (h : s.powered = true) : exec .cabReleaseTaken s = .next s.cabRelease := State.run_powered _ h

/-- The node with a new assertion of CAB taken, before it is judged. -/
def State.asserted (s : State) : State := { s with census := { s.census with cab := true, cabRefused := false } }

/-- The node with a release of CAB taken, before its role goes. -/
def State.released (s : State) : State := { s with census := { s.census with cab := false, cabRefused := false } }

theorem State.cabAssertion_new {s : State} (h : s.census.cab = false) : s.cabAssertion = s.asserted.judgeRole := if_neg (by simp [h])

theorem State.judgeRole_passed {s : State} (h : s.mgmt.working.coach.drivable = false) : s.judgeRole = s :=
  if_neg fun k => by simp [h] at k

theorem State.judgeRole_refused {s : State} (hl : s.census.lead = .off) (hd : s.mgmt.working.coach.drivable = true)
    (hm : s.mated s.cabPort = true) :
    s.judgeRole = ({ s with census := { s.census with cabRefused := true } } : State).failCensus .cabCoupled := by
  rw [State.judgeRole, if_pos ⟨hl, hd⟩, if_pos hm]

theorem State.judgeRole_gained {s : State} (hl : s.census.lead = .off) (hd : s.mgmt.working.coach.drivable = true)
    (hm : s.mated s.cabPort = false) : s.judgeRole = s.startAttempt 0 := by
  rw [State.judgeRole, if_pos ⟨hl, hd⟩, if_neg (by simp [hm])]

/-- A release of CAB takes the lead role where it is held. -/
theorem State.cabRelease_eq {s : State} (h : s.census.cab = true) :
    s.cabRelease = if s.isLead then s.released.stripped else s.released := by
  rw [State.cabRelease, if_pos h]
  refine ite_congr rfl (fun _ => ?_) fun _ => rfl
  rw [State.loseRole_eq]
  rfl

/-- Without HOLDING and CALLING the role alone goes. -/
theorem State.stripped_blocked {s : State} (h : s.census.lead = .blocked) : s.stripped = { s with census := s.census.dismissed } := by
  rw [State.stripped]
  simp only [h]
  rw [State.dismissed, State.enterLead_stays (by simp [h])]
  rfl

/-- A node that is not SETTLED strips itself of CALLING without a change to its doors. -/
theorem State.stripped_calling {s : State} (h : s.census.lead = .calling) (hc : s.census.cs ≠ .settled) :
    s.stripped = { s with census := s.census.dismissed.entering s.census.standing } := by
  rw [State.stripped]
  simp only [h]
  have hd : s.dismissed = { s with census := s.census.dismissed } := by
    rw [State.dismissed, State.enterLead_stays (by simp [h])]
    rfl
  rw [hd]
  exact State.enterCensus_stays fun k => hc k.1

/-- The census record without the lead role, field by field but for the report of a stale beacon (R34, R52). -/
theorem State.stripped_fields (s : State) : ∃ b, s.stripped.census =
    { s.census.dismissed with
      cs := if s.census.lead = .calling then s.census.standing else s.census.cs, staleArmed := b } := by
  rw [State.stripped_census]
  by_cases h : s.census.lead = .calling
  · rw [if_pos h, if_pos h]; exact ⟨_, rfl⟩
  · rw [if_neg h, if_neg h]; exact ⟨_, rfl⟩

/-! ## The census timers (R37, R47) -/

theorem exec_censusTimerExpiry {s : State} (h : s.powered = true) : exec .censusTimerExpiry s = .next s.censusTimeout := State.run_powered _ h

theorem exec_surveyHoldExpiry {s : State} (h : s.powered = true) : exec .surveyHoldExpiry s = .next s.surveyTimeout := State.run_powered _ h

theorem State.censusTimeout_retry {s : State} (hl : s.census.lead = .calling) (ht : s.census.timer ≠ none) (hc : s.census.attemptCtr ≤ 2) :
    s.censusTimeout = s.startAttempt (s.census.attemptCtr + 1) := by rw [State.censusTimeout, if_pos ⟨hl, ht⟩, if_pos hc]

theorem State.censusTimeout_last {s : State} (hl : s.census.lead = .calling) (ht : s.census.timer ≠ none) (hc : 3 ≤ s.census.attemptCtr) :
    s.censusTimeout = s.enterBlocked .noReturn := by rw [State.censusTimeout, if_pos ⟨hl, ht⟩, if_neg (by omega)]

/-- A survey given up changes the census record alone: there is nothing to leave. -/
theorem State.surveyTimeout_eq {s : State} (hc : s.census.cs = .survey) (hh : s.census.hold ≠ none) : s.surveyTimeout =
    let c := s.census.givenUp.entering s.census.standing
    { s with census := if s.hasTable then c else { c with position := 0, leadEnd := none } } := by
  have hf : ({ s with census := s.census.givenUp } : State).fallBack =
      { s with census := s.census.givenUp.entering s.census.standing } :=
    State.enterCensus_stays (s := { s with census := s.census.givenUp }) fun k => by simp [Census.givenUp, hc] at k
  rw [State.surveyTimeout, if_pos ⟨hc, hh⟩]
  refine (ite_congr rfl (fun _ => hf) fun _ => congrArg (fun u : State => { u with census := { u.census with position := 0, leadEnd := none } }) hf).trans ?_
  split <;> rfl

theorem Census.standing_table {c : Census} {tb : List ConsistRecord} (h : c.table = some tb) : c.standing = .stale := by
  simp [Census.standing, h]

theorem Census.standing_none {c : Census} (h : c.table = none) : c.standing = .detached := by simp [Census.standing, h]

/-! ## Ends that enter and leave MATED (R5 to R7, R15) -/

theorem State.portEnd_endPort (s : State) (e : EndNo) : s.portEnd (s.endPort e) = e := by
  cases h : s.strap ^^ s.mgmt.working.coach.endSwap <;> cases e <;> simp [State.portEnd, State.endPort, h]

theorem State.portEnd_cabPort (s : State) : s.portEnd s.cabPort = s.mgmt.working.coach.cabEnd := State.portEnd_endPort _ _

theorem State.portEnd_nonCabPort (s : State) : s.portEnd s.nonCabPort ≠ s.mgmt.working.coach.cabEnd := by
  rw [State.nonCabPort, State.portEnd_endPort]
  cases s.mgmt.working.coach.cabEnd <;> decide

/-- What a port that enters or leaves MATED leaves of the rest of the node before its report: the port stands as `y`, sending aside. -/
structure Repiloted (s : State) (p : Port) (y : LinePort) (u : State) : Prop where
  frame : s.sameFrame u
  census : u.census = s.census
  line : u.line = s.line
  summary : u.summary = s.summary
  alloc : u.alloc = s.alloc
  sense : u.sense = s.sense
  delivered : u.delivered = s.delivered
  moved : PortQuiet y (u.port p)
  other : PortQuiet (s.port (otherPort p)) (u.port (otherPort p))

theorem Repiloted.of_quiet {s u : State} {p : Port} {y : LinePort} (q : Quiet (s.setPort p y) u) : Repiloted s p y u :=
  { frame := ⟨by simp [q.powered], by simp [q.nodeId], by simp [q.strap], by simp [q.mgmt], by simp [q.pending]⟩
    census := by simp [q.census], line := by simp [q.line], summary := by simp [q.summary], alloc := by simp [q.alloc]
    sense := by simp [q.sense], delivered := by simp [q.delivered]
    moved := by simpa using q.port p
    other := by simpa using q.port (otherPort p) }

section
variable {s u t : State} {p : Port} {y : LinePort} (r : Repiloted s p y u)
include r

theorem Repiloted.endPort (e : EndNo) : u.endPort e = s.endPort e := by
  obtain ⟨_, _, hstrap, hmgmt, _⟩ := r.frame
  simp only [State.endPort, hstrap, hmgmt]

theorem Repiloted.nonCabPort : u.nonCabPort = s.nonCabPort := by
  obtain ⟨_, _, _, hmgmt, _⟩ := r.frame
  rw [State.nonCabPort, State.nonCabPort, r.endPort, hmgmt]

theorem Repiloted.nextTag : u.nextTag = s.nextTag := by
  obtain ⟨_, hid, _, _, _⟩ := r.frame
  rw [State.nextTag, State.nextTag, r.census, hid]

theorem Repiloted.cabEnd : u.mgmt.working.coach.cabEnd = s.mgmt.working.coach.cabEnd := by
  obtain ⟨_, _, _, hmgmt, _⟩ := r.frame
  rw [hmgmt]

theorem Repiloted.report (h : Eventful u t) : s.sameFrame t ∧ t.delivered = s.delivered ∧ t.sense = s.sense :=
  ⟨State.sameFrame_trans r.frame h.sameFrame, h.delivered.trans r.delivered, h.sense.trans r.sense⟩

theorem Repiloted.port (h : Eventful u t) : PortQuiet y (t.port p) := r.moved.trans (h.port p)

theorem Repiloted.ofMated (h : y.pilot = .mated) : u.mated p = true := decide_eq_true (r.moved.pilot.trans h)

theorem Repiloted.ofParted (h : y.pilot = .parted) : u.mated p = false := decide_eq_false (by rw [r.moved.pilot, h]; decide)

theorem Repiloted.atCab (h : p = s.cabPort) : s.portEnd p = u.mgmt.working.coach.cabEnd := by rw [r.cabEnd, h, State.portEnd_cabPort]

theorem Repiloted.atNonCab (h : p = s.nonCabPort) : s.portEnd p ≠ u.mgmt.working.coach.cabEnd := by
  rw [r.cabEnd, h]; exact s.portEnd_nonCabPort

end

/-- A port whose end has entered MATED (R5, R6). -/
def LinePort.entered (x : LinePort) : LinePort := { x with pilot := .mated, good := 0, tx := none, rx := none }

/-- A port whose end has left MATED, its traffic discarded (R5, R7). -/
def LinePort.left (x : LinePort) : LinePort := { x with pilot := .parted, bad := 0, tx := none, rx := none, urgentQ := [], normalQ := [] }

/-- The node with an end that has entered MATED, before its report. -/
def State.entered (p : Port) (s : State) : State := s.setPort p (s.port p).entered

/-- The node with an end that has left MATED and the frames it held counted, before its report. -/
def State.left (p : Port) (s : State) : State := (s.setPort p (s.port p).left).countTimes (s.port p).held 4

theorem State.entered_repiloted (p : Port) (s : State) : Repiloted s p (s.port p).entered (s.entered p) := Repiloted.of_quiet (Quiet.refl _)

theorem State.left_repiloted (p : Port) (s : State) : Repiloted s p (s.port p).left (s.left p) :=
  Repiloted.of_quiet (State.countTimes_quiet _ _ _)

/-- Whatever the report of an end that has left MATED does, its port stands. -/
theorem State.left_port {p : Port} {s t : State} (h : Eventful (s.left p) t) : t.port p = (s.port p).left :=
  ((s.left_repiloted p).port h).parted (by simp [LinePort.left])

/-- The twentieth good window (R5, R6). -/
theorem State.pilotWindow_enters {s : State} {p : Port} {edges : Nat} (he : (s.port p).edges = 0) (hm : (s.port p).pilot = .mating)
    (hg : 16 ≤ edges ∧ edges ≤ 24) (h19 : (s.port p).good = 19) :
    s.pilotWindow p edges = (s.entered p).matedReport true (s.portEnd p) := by
  have hy : ((s.port p).pilotMove true).pilot = .mated ∧ ((s.port p).pilotMove true).arm = (s.port p).entered := by
    generalize s.port p = x at he hm h19
    cases x
    simp only at he hm h19
    subst he hm h19
    exact ⟨rfl, rfl⟩
  rw [State.pilotWindow, he, goodWindow_eq, decide_eq_true hg, if_pos ⟨by rw [hm]; decide, hy.1⟩, hy.2]
  rfl

/-- The fifth bad window (R5, R7). -/
theorem State.pilotWindow_leaves {s : State} {p : Port} {edges : Nat} (he : (s.port p).edges = 0) (hm : (s.port p).pilot = .mated)
    (hg : ¬(16 ≤ edges ∧ edges ≤ 24)) (h4 : (s.port p).bad = 4) :
    s.pilotWindow p edges = (s.left p).matedReport false (s.portEnd p) := by
  have hy : ((s.port p).pilotMove false).pilot = .parted ∧ ((s.port p).pilotMove false).flush = (s.port p).left := by
    generalize s.port p = x at he hm h4
    cases x
    simp only at he hm h4
    subst he hm h4
    exact ⟨rfl, rfl⟩
  rw [State.pilotWindow, he, goodWindow_eq, decide_eq_false hg, hy.1, if_neg fun k => k.1 hm, if_pos ⟨hm, by decide⟩, hy.2]
  rfl

/-- A frame dropped raises FRAMES_DROPPED (R168). -/
theorem State.count_drop_sets {code : Nat} (h : code = 2 ∨ code = 3 ∨ code = 4) (s : State) :
    hasFlag (s.count code).notices.flags .framesDropped = true := by
  rw [State.count, State.countWith, if_pos h]
  exact State.raise_sets _ _

theorem State.countTimes_drop_sets {n : Nat} (h : 0 < n) (s : State) : hasFlag (s.countTimes n 4).notices.flags .framesDropped = true := by
  cases n with
  | zero => exact absurd h (by decide)
  | succ n => exact (State.countTimes_quiet n 4 _).flags _ (State.count_drop_sets (by decide) s)

theorem State.matedReport_member {s : State} (h : s.census.lead = .off) (on : Bool) (e : EndNo) :
    s.matedReport on e = s.memberReport (if on then .matedOn else .matedOff) := if_neg (by simp [State.isLead, h])

theorem State.matedReport_nonCab {s : State} {e : EndNo} (h : s.census.lead ≠ .off) (he : e ≠ s.mgmt.working.coach.cabEnd) (on : Bool) :
    s.matedReport on e = s.restartCensus := by
  rw [State.matedReport, if_pos (show s.isLead = true from decide_eq_true h), if_neg he]

theorem State.matedReport_cab {s : State} {e : EndNo} (h : s.census.lead ≠ .off) (he : e = s.mgmt.working.coach.cabEnd) (on : Bool) :
    s.matedReport on e = if on then s.stripped.failCensus .cabCoupled else s := by
  rw [State.matedReport, if_pos (show s.isLead = true from decide_eq_true h), if_pos he, State.loseRole_eq]
  rfl

/-- What a topology change seen by a member leaves (R51). -/
theorem State.memberReport_census (k : TopologyKind) (s : State) : (s.memberReport k).census =
    { s.census with
      cs := if s.census.cs = .settled then .stale else s.census.cs
      staleArmed := s.census.staleArmed || decide (s.census.cs = .settled) } := by
  rw [State.memberReport_eq, (State.sendTopologyChange_quiet _ _).census, (State.seeTopology_quiet _).census]
  by_cases h : s.census.cs = .settled
  · simp [State.settled, h, Census.entering]
  · simp [State.settled, h]

theorem State.memberReport_alloc (k : TopologyKind) (s : State) : (s.memberReport k).alloc = s.alloc := by
  rw [State.memberReport_eq, (State.sendTopologyChange_quiet _ _).alloc, (State.seeTopology_quiet _).alloc]
  split
  · exact State.enterCensus_alloc _ _
  · rfl

theorem State.memberReport_sets (k : TopologyKind) (s : State) : hasFlag (s.memberReport k).notices.flags .topology = true :=
  (State.sendTopologyChange_quiet _ _).flags _ (State.seeTopology_sets _)

/-- A census restarted with the non-cab end not MATED is completed alone (R35, R36). -/
theorem State.restartCensus_alone {s : State} (h : s.mated s.nonCabPort = false) : ∃ e, s.restartCensus.census =
    (s.census.calling s.nextTag 0 s.mgmt.working.coach.cabEnd).accepted [e] s.mgmt.working.coach.cabEnd := by
  have q := s.seeTopology_quiet
  have hm : s.seeTopology.mated s.seeTopology.nonCabPort = false := by rw [q.eventful.nonCabPort, q.mated, h]
  have ht : s.seeTopology.nextTag = s.nextTag := by simp [State.nextTag, Census.nextAttempt]
  rw [State.restartCensus, State.startAttempt_census, ht, hm, q.census, q.mgmt]
  exact ⟨_, rfl⟩

end Sys2Proof.Machine
end

section

open Sys2Proof Sys2Proof.Machine

/-- Settles O29: the assertion is taken and judged. -/
theorem cabAssertionJudged : Obligations.CabAssertionJudged := by
  intro s hp hc hl taken
  rw [exec_cabAssertionTaken hp, State.cabAssertion_new hc]
  refine ⟨fun hd => ?_, fun hd hm => ⟨_, rfl, ?_⟩, fun hd hm hn => ⟨_, rfl, ?_⟩, fun hd hm hn => ⟨_, rfl, ?_⟩⟩
  · rw [State.judgeRole_passed (s := s.asserted) hd]; rfl
  · rw [State.judgeRole_refused (s := s.asserted) hl hd hm]
    have ev := (Eventful.census { s.asserted.census with cabRefused := true } s.asserted).trans (State.failCensus_eventful .cabCoupled _)
    refine ⟨State.failCensus_census _ _, State.failCensus_sets _ _, ev.sameFrame, State.failCensus_doors _ _, State.failCensus_line _ _,
      State.failCensus_summary _ _, State.failCensus_heater _ _, State.failCensus_alloc _ _, ev.sense⟩
  · have ev := State.startAttempt_eventful 0 s.asserted
    have hn' : s.asserted.mated s.asserted.nonCabPort = true := hn
    have hl' : s.asserted.census.lead ≠ .holding := by rw [show s.asserted.census.lead = .off from hl]; decide
    rw [State.judgeRole_gained (s := s.asserted) hl hd hm, State.startAttempt_census, State.startAttempt_alloc hn', if_pos hn', if_neg hl']
    exact ⟨rfl, rfl, rfl, rfl, rfl, rfl, rfl, rfl, ev.sameFrame, ev.sense, rfl⟩
  · have ev := State.startAttempt_eventful 0 s.asserted
    have hn' : s.asserted.mated s.asserted.nonCabPort = false := hn
    rw [State.judgeRole_gained (s := s.asserted) hl hd hm, State.startAttempt_census, State.startAttempt_line, hn']
    exact ⟨rfl, rfl, rfl, rfl, ev.sameFrame, ev.sense⟩

/-- Settles O30: the role goes, by the lead census state. -/
theorem cabReleaseTakesRole : Obligations.CabReleaseTakesRole := by
  intro s hp hc c released
  rw [exec_cabReleaseTaken hp, State.cabRelease_eq hc]
  refine ⟨fun hl => ?_, fun hl => ?_, fun hl => ⟨_, rfl, ?_⟩, fun hl hs => ⟨_, rfl, ?_⟩⟩
  · rw [if_neg (by simp [State.isLead, hl])]; rfl
  · rw [if_pos (by simp [State.isLead, hl]), State.stripped_blocked (s := s.released) hl]; rfl
  · have hl' : s.released.census.lead = .holding := hl
    have ev := State.stripped_eventful s.released
    rw [if_pos (by simp [State.isLead, hl]), State.stripped_census, State.stripped_summary, State.stripped_alloc, State.stripped_line, hl']
    exact ⟨rfl, rfl, rfl, rfl, rfl, rfl, rfl, rfl, rfl, rfl, ev.sameFrame, ev.delivered, ev.sense⟩
  · rw [if_pos (by simp [State.isLead, hl]),
      State.stripped_calling (s := s.released) hl (by rw [show s.released.census.cs = .survey from hs]; decide)]
    exact ⟨rfl, rfl, rfl, rfl, rfl, ⟨rfl, rfl, rfl, rfl, rfl⟩, rfl, rfl, rfl, rfl⟩

/-- Settles O31: the census timer by the attempt counter, the survey hold by the table. -/
theorem censusTimersExpire : Obligations.CensusTimersExpire := by
  intro s hp
  rw [exec_censusTimerExpiry hp, exec_surveyHoldExpiry hp]
  refine ⟨fun hl ht hc hm => ⟨_, rfl, ?_⟩, fun hl ht hc => ⟨_, rfl, ?_⟩, fun hc hh tb htb => ?_, fun hc hh htb => ?_⟩
  · have ev := State.startAttempt_eventful (s.census.attemptCtr + 1) s
    rw [State.censusTimeout_retry hl ht hc, State.startAttempt_census, if_pos hm]
    exact ⟨rfl, rfl, rfl, rfl, rfl, rfl, ev.sameFrame, ev.delivered, ev.sense⟩
  · have ev := State.enterBlocked_eventful .noReturn s
    rw [State.censusTimeout_last hl ht hc, State.enterBlocked_census]
    exact ⟨rfl, rfl, rfl, rfl, rfl, State.enterBlocked_sets _ _, ev.sameFrame, ev.delivered, ev.sense⟩
  · rw [State.surveyTimeout_eq hc hh, Census.standing_table htb]
    simp [State.hasTable, htb, Census.entering, Census.givenUp, hc]
  · rw [State.surveyTimeout_eq hc hh, Census.standing_none htb]
    simp [State.hasTable, htb, Census.entering, Census.givenUp, hc]

/-- Settles O18: the port moves, and its report is a topology change, a restart, or the end of the role. -/
theorem pilotEntersAndLeavesMated : Obligations.PilotEntersAndLeavesMated := by
  intro s p edges hp he x good enters leaves parted after restarted
  rw [exec_pilotWindowClose hp]
  have ron := s.entered_repiloted p
  have roff := s.left_repiloted p
  have hafter {u : State} {y : LinePort} (r : Repiloted s p y u) (k : TopologyKind) : after (u.memberReport k) := by
    have ev := State.memberReport_eventful k u
    obtain ⟨hf, hd, hs⟩ := r.report ev
    refine ⟨?_, State.memberReport_sets _ _, hf, hd, (State.memberReport_alloc _ _).trans r.alloc, hs,
      ((ev.port _).pilot).trans r.other.pilot⟩
    rw [State.memberReport_census, r.census]
  refine ⟨fun hl ⟨hm, hg, h19⟩ => ⟨_, congrArg _ (State.pilotWindow_enters he hm hg h19), ?_⟩,
    fun hl ⟨hm, hg, h4⟩ => ⟨_, congrArg _ (State.pilotWindow_leaves he hm hg h4), ?_⟩,
    fun hl hpp ⟨hm, hg, h19⟩ => ⟨_, congrArg _ (State.pilotWindow_enters he hm hg h19), ?_⟩,
    fun hl hpp ⟨hm, hg, h4⟩ => ⟨_, congrArg _ (State.pilotWindow_leaves he hm hg h4), ?_⟩,
    fun hl hpp ⟨hm, hg, h19⟩ => ⟨_, congrArg _ (State.pilotWindow_enters he hm hg h19), ?_⟩,
    fun hl hpp ⟨hm, hg, h4⟩ ht hu hn => ?_⟩
  · rw [State.matedReport_member (ron.census ▸ hl)]
    have q := ron.port (State.memberReport_eventful .matedOn _)
    exact ⟨q.pilot, q.good, q.rx, hafter ron _⟩
  · rw [State.matedReport_member (roff.census ▸ hl)]
    have ev := State.memberReport_eventful .matedOff (s.left p)
    exact ⟨State.left_port ev, fun h => ev.flags _ (State.countTimes_drop_sets h _), hafter roff _⟩
  · rw [State.matedReport_nonCab (ron.census ▸ hl) (ron.atNonCab hpp)]
    have ev := State.restartCensus_eventful (s.entered p)
    have hcensus := (State.restartCensus_mated (by rw [ron.nonCabPort, ← hpp]; exact ron.ofMated rfl)).census
    obtain ⟨hf, hd, hs⟩ := ron.report ev
    rw [ron.census, ron.nextTag] at hcensus
    refine ⟨(ron.port ev).pilot, ?_, ?_, ?_, ?_, ?_, ?_, ?_, ?_, State.restartCensus_sets _, hf, hd, hs⟩ <;> rw [hcensus] <;> rfl
  · rw [State.matedReport_nonCab (roff.census ▸ hl) (roff.atNonCab hpp)]
    have ev := State.restartCensus_eventful (s.left p)
    obtain ⟨e, hcensus⟩ := State.restartCensus_alone (s := s.left p) (by rw [roff.nonCabPort, ← hpp]; exact roff.ofParted rfl)
    obtain ⟨hf, hd, hs⟩ := roff.report ev
    rw [roff.census, roff.nextTag] at hcensus
    refine ⟨State.left_port ev, ?_, ?_, ?_, ?_, ?_, ?_, ?_, State.restartCensus_sets _, hf, hd, hs⟩ <;> rw [hcensus] <;> rfl
  · rw [State.matedReport_cab (ron.census ▸ hl) (ron.atCab hpp), if_pos rfl]
    have ev := (s.entered p).stripped_eventful.trans (State.failCensus_eventful .cabCoupled _)
    obtain ⟨hf, hd, hs⟩ := ron.report ev
    obtain ⟨b, hb⟩ := State.stripped_fields (s.entered p)
    have hcensus := State.failCensus_census .cabCoupled (s.entered p).stripped
    rw [hb, ron.census] at hcensus
    refine ⟨(ron.port ev).pilot, ?_, ?_, ?_, ?_, ?_, ?_, ?_, ?_, fun h => ?_, State.failCensus_sets _ _, hf, hd, hs⟩
    · rw [hcensus]; rfl
    · rw [hcensus]
    · rw [hcensus]; rfl
    · rw [hcensus]; rfl
    · rw [hcensus]; rfl
    · rw [hcensus]; rfl
    · rw [hcensus]; rfl
    · rw [hcensus]; rfl
    · rw [State.failCensus_summary, State.failCensus_alloc, State.failCensus_line, State.stripped_summary, State.stripped_alloc,
        State.stripped_line, ron.census, ron.line, h]
      exact ⟨rfl, rfl, rfl, rfl, rfl, rfl, rfl, rfl⟩
  · rw [State.pilotWindow_leaves he hm hg h4, State.matedReport_cab (roff.census ▸ hl) (roff.atCab hpp), if_neg (by decide)]
    have h0 : (s.port p).held = 0 := by simp [LinePort.held, show (s.port p).tx = none from ht, show (s.port p).urgentQ = [] from hu,
      show (s.port p).normalQ = [] from hn]
    rw [State.left, h0]
    rfl

end

section
/-! PROOFS. The door sides event by event (O39 to O43): permit and withdrawals, orders, loops and timers. -/

namespace Sys2Proof.Machine

/-! ## A side that an event moves -/

/-- What an event on one door side leaves: that side as `y`, the other as it was, the blocks of census and line untouched. -/
structure SideMoved (s : State) (sd : Side) (y : DoorSide) (t : State) : Prop where
  side : t.doors.side sd = y
  others : ∀ sd', sd' ≠ sd → t.doors.side sd' = s.doors.side sd'
  frame : s.sameFrame t
  delivered : t.delivered = s.delivered
  census : t.census = s.census
  line : t.line = s.line

/-- Events counted and raised on the way, and what follows the move of a side, leave the sides. -/
theorem State.changeSide_moved {s u : State} {sd : Side} {f : DoorSide → DoorSide} (q : Quiet (s.changeSide sd f) u) :
    SideMoved s sd (f (s.doors.side sd)) (u.afterSides s.doors) := by
  have ev := ((State.changeSide_eventful sd f s).trans q.eventful).trans (State.afterSides_eventful s.doors u)
  refine ⟨?_, fun sd' h => ?_, ev.sameFrame, ev.delivered, ?_, ?_⟩
  · rw [State.afterSides_side, q.doors, State.side_changeSide]
  · rw [State.afterSides_side, q.doors, State.side_changeSide_ne f s h]
  · rw [State.afterSides_census, q.census, State.changeSide_census]
  · rw [State.afterSides_line, q.line, State.changeSide_line]

/-- Two changes that agree on the side at hand are one. -/
theorem State.changeSide_congr {s : State} {sd : Side} {f g : DoorSide → DoorSide} (h : f (s.doors.side sd) = g (s.doors.side sd)) :
    s.changeSide sd f = s.changeSide sd g := by
  cases sd
  · exact congrArg (fun x => ({ s with doors := { s.doors with side1 := x } } : State)) h
  · exact congrArg (fun x => ({ s with doors := { s.doors with side2 := x } } : State)) h

theorem State.changeSide_id {s : State} {sd : Side} {f : DoorSide → DoorSide} (h : f (s.doors.side sd) = s.doors.side sd) :
    s.changeSide sd f = s := (State.changeSide_congr (g := id) h).trans (by cases sd <;> rfl)

/-- Nothing follows a change that leaves the side's state. -/
theorem State.afterSides_still {s : State} {sd : Side} {f : DoorSide → DoorSide} (h : (f (s.doors.side sd)).st = (s.doors.side sd).st) :
    (s.changeSide sd f).afterSides s.doors = s.changeSide sd f := by
  refine State.afterSides_unmoved ?_
  cases sd
  · simp only [Doors.moved, State.changeSide, Bool.not_eq_false', decide_eq_true_eq, and_true]; exact h
  · simp only [Doors.moved, State.changeSide, Bool.not_eq_false', decide_eq_true_eq, true_and]; exact h

/-- A side that leaves LOCKED or ABSENT for another state has door-derate formed on (R101). -/
theorem State.afterSides_derates {s : State} {sd : Side} {f : DoorSide → DoorSide} (h : (f (s.doors.side sd)).st ≠ (s.doors.side sd).st)
    (ho : (f (s.doors.side sd)).shut = false) : ((s.changeSide sd f).afterSides s.doors).doors.derate = true := by
  have hm : s.doors.moved (s.changeSide sd f).doors = true := by
    cases sd
    · simp only [Doors.moved, State.changeSide, Bool.not_eq_true', decide_eq_false_iff_not, and_true]; exact h
    · simp only [Doors.moved, State.changeSide, Bool.not_eq_true', decide_eq_false_iff_not, true_and]; exact h
  rw [State.afterSides_doors, if_pos hm]
  cases sd
  · simp only [Doors.derated, State.changeSide]
    rw [show (f s.doors.side1).shut = false from ho]
    rfl
  · simp only [Doors.derated, State.changeSide]
    rw [show (f s.doors.side2).shut = false from ho, Bool.and_false]
    rfl

theorem DoorTable.count_eq (t : DoorTable) (sd : Side) : t.count sd =
    match sd with
    | .one => t.count1
    | .two => t.count2 := by cases sd <;> rfl

/-! ## Withdrawals by cause (R92 to R94) -/

theorem DoorSide.toClosing_made {x : DoorSide} (h : x.loop = true) (t : DoorTable) : x.toClosing t = x.rest .locked := if_pos h

theorem DoorSide.toClosing_broken {x : DoorSide} (h : x.loop = false) (t : DoorTable) :
    x.toClosing t = { x with st := .closing, rel := false, warn := true, timer := startTimer (t.closeTimeout * 1000) } :=
  if_neg (by simp [h])

theorem DoorSide.withdraw_released {x : DoorSide} (h : x.st = .released) (t : DoorTable) {c : Cause} (hc : c ≠ .zeroSpeedLost) :
    x.withdraw t c = ({ x with cause := c } : DoorSide).toWarning t := by
  rw [DoorSide.withdraw, h]
  exact if_neg hc

theorem Cause.one_le_rank (c : Cause) : 1 ≤ c.rank := by cases c <;> decide

theorem Cause.rank_le_one {c : Cause} (h : c.rank ≤ 1) : c = .zeroSpeedLost := by
  cases c with
  | zeroSpeedLost => rfl
  | none => exact absurd h (by decide)
  | lineLost => exact absurd h (by decide)
  | consistChanged => exact absurd h (by decide)
  | closeOrder => exact absurd h (by decide)
  | releaseTimeout => exact absurd h (by decide)

/-- A loss of zero speed takes an open side to CLOSING whatever its cause was (R92, R93). -/
theorem DoorSide.withdraw_zeroSpeedLost {x : DoorSide} (h : x.st = .released ∨ x.st = .warning) (t : DoorTable) :
    x.withdraw t .zeroSpeedLost = ({ x with cause := .zeroSpeedLost } : DoorSide).toClosing t := by
  rcases h with h | h
  · rw [DoorSide.withdraw, h]
    exact if_pos rfl
  · rw [DoorSide.withdraw, h]
    dsimp only
    rw [if_pos rfl]
    split
    · rfl
    · rename_i hr
      have hz : x.cause = .zeroSpeedLost := Cause.rank_le_one (Nat.not_lt.mp hr)
      exact congrArg (fun c => ({ x with cause := c } : DoorSide).toClosing t) hz

theorem DoorSide.withdraw_shut {x : DoorSide} (h1 : x.st ≠ .released) (h2 : x.st ≠ .warning) (t : DoorTable) (c : Cause) :
    x.withdraw t c = x := by
  rw [DoorSide.withdraw]
  cases h : x.st with
  | released => exact absurd h h1
  | warning => exact absurd h h2
  | absent => rfl
  | locked => rfl
  | closing => rfl
  | fault => rfl

/-! ## The line (R61, R68) -/

theorem exec_zspChangeTaken {s : State} (h : s.powered = true) (level : Bool) :
    exec (.zspChangeTaken level) s = .next (s.zspChange level) := State.run_powered _ h

theorem exec_supervisionTimerExpiry {s : State} (h : s.powered = true) :
    exec .supervisionTimerExpiry s = .next s.supervisionExpiry := State.run_powered _ h

/-- The line supervisor with a new level of ZSP, before the permit is formed (R61). -/
def State.zspTo (level : Bool) (s : State) : State :=
  { s with line := { s.line with zsp := level, flag := if s.holding then level else s.line.flag } }

theorem State.zspChange_to {level : Bool} {s : State} (h : s.line.zsp ≠ level) : s.zspChange level = (s.zspTo level).formPermit := if_neg h

/-- The line lost and told of, before doors and permit follow (R68). -/
def State.lineLost (s : State) : State := (({ s with line := { s.line with sup := .lost, timer := none } } : State).count 7).raise .lineLost

theorem State.lineLost_quiet (s : State) : Quiet { s with line := { s.line with sup := .lost, timer := none } } s.lineLost :=
  (State.count_quiet _ _).trans (State.raise_quiet _ _)

theorem State.supervisionExpiry_lost {s : State} (h : s.line.timer ≠ none) (hs : s.census.cs = .settled) :
    s.supervisionExpiry = (s.lineLost.withdrawBoth .lineLost).formPermit := if_pos ⟨h, decide_eq_true hs⟩

/-! ## Door orders (R78 to R80) -/

theorem Delivery.orderAct_read {d : Delivery} {o : OrderIn} (h : readDoorOrder d.frame.payload = some o) (s : State) :
    d.orderAct s = (s.takeOrder o).2 := by rw [Delivery.orderAct, h]

/-- Whether an order is ignored, by its form or by its range (R78). -/
def State.ignoresOrder (s : State) (o : OrderIn) : Prop :=
  o.side = none ∨ o.action = none ∨ o.first < 1 ∨ 32 < o.first ∨ o.last < 1 ∨ 32 < o.last ∨ o.last < o.first
    ∨ s.census.position < o.first ∨ o.last < s.census.position

theorem State.takeOrder_ignored {s : State} {o : OrderIn} (h : s.ignoresOrder o) : (s.takeOrder o).2 = s := by
  rw [State.takeOrder]
  split
  · rename_i hs ha
    split
    · rfl
    · rename_i hf
      refine congrArg Prod.snd (if_pos ?_)
      rcases h with h | h | h
      · rw [hs] at h; exact absurd h (by simp)
      · rw [ha] at h; exact absurd h (by simp)
      · omega
  · rfl

section
variable {s : State} {side : TrainSide} {a : DoorAction} {f l e : Nat}

/-- An order of good form and in range that passes the four checks (R79, R80). -/
theorem State.takeOrder_accepted (h1 : 1 ≤ f) (h2 : f ≤ s.census.position) (h3 : s.census.position ≤ l) (h4 : l ≤ 32)
    (h : s.checkOrder (mapSide s.census.orient side) a e = .none) :
    s.takeOrder { side := some side, action := some a, first := f, last := l, epoch := e }
      = (.accepted, s.acceptOrder (mapSide s.census.orient side) a e) := by
  rw [State.takeOrder]
  dsimp only
  rw [if_neg (by omega), if_neg (by omega), h]

/-- One that fails a check (R79). -/
theorem State.takeOrder_refused (h1 : 1 ≤ f) (h2 : f ≤ s.census.position) (h3 : s.census.position ≤ l) (h4 : l ≤ 32)
    {r : DoorRefusal} (h : s.checkOrder (mapSide s.census.orient side) a e = r) (hr : r ≠ .none) :
    s.takeOrder { side := some side, action := some a, first := f, last := l, epoch := e }
      = (.refused r, s.refuseOrder (mapSide s.census.orient side) r) := by
  rw [State.takeOrder]
  dsimp only
  rw [if_neg (by omega), if_neg (by omega), h]
  cases r with
  | none => exact absurd rfl hr
  | notSettled => rfl
  | epochMismatch => rfl
  | noDoors => rfl
  | noZeroSpeed => rfl

end

theorem mapSide_eq (o : Orientation) (t : TrainSide) : mapSide o t = if (o = .normal) = (t = .left) then .one else .two := by
  cases o <;> cases t <;> simp [mapSide]

/-- The four checks of R79 in their order. -/
theorem State.checkOrder_eq (s : State) (sd : Side) (a : DoorAction) (e : Nat) : s.checkOrder sd a e =
    if s.census.cs ≠ .settled then .notSettled else if e ≠ s.census.epoch then .epochMismatch
    else if (match sd with
      | .one => s.mgmt.working.door.count1
      | .two => s.mgmt.working.door.count2) = 0 then .noDoors
    else if a = .release ∧ s.line.permit = false then .noZeroSpeed else .none := by
  have hs : ((!s.settled) = true) = (s.census.cs ≠ .settled) := by simp [State.settled]
  rw [State.checkOrder, DoorTable.count_eq]
  exact ite_congr hs (fun _ => rfl) fun _ => rfl

/-- What a refusal leaves (R79). -/
theorem State.refuseOrder_quiet (sd : Side) (r : DoorRefusal) (s : State) :
    Quiet (s.changeSide sd fun x => { x with refusal := r }) (s.refuseOrder sd r) :=
  (State.count_quiet _ _).trans (State.raise_quiet _ _)

/-- The side with an accepted order recorded and obeyed (R80, R85, R86). -/
def DoorSide.obey (x : DoorSide) (t : DoorTable) (a : DoorAction) (e : Nat) : DoorSide :=
  let y := { x with refusal := .none, order := some (a, e) }
  match a with
  | .release => y.acceptRelease t
  | .close => y.acceptClose t

theorem State.acceptOrder_eq (sd : Side) (a : DoorAction) (e : Nat) (s : State) :
    s.acceptOrder sd a e = (s.changeSide sd fun x => x.obey s.mgmt.working.door a e).afterSides s.doors := rfl

theorem DoorSide.obey_release {x : DoorSide} (h1 : x.st ≠ .absent) (h2 : x.st ≠ .released) (t : DoorTable) (e : Nat) :
    x.obey t .release e = ({ x with refusal := .none, order := some (.release, e) } : DoorSide).toReleased t := by
  simp only [DoorSide.obey, DoorSide.acceptRelease]
  cases h : x.st with
  | absent => exact absurd h h1
  | released => exact absurd h h2
  | locked => rfl
  | warning => rfl
  | closing => rfl
  | fault => rfl

theorem DoorSide.obey_close {x : DoorSide} (h : x.st = .released) (t : DoorTable) (e : Nat) :
    x.obey t .close e = ({ x with refusal := .none, order := some (.close, e), cause := .closeOrder } : DoorSide).toWarning t :=
  (if_pos h).trans (DoorSide.withdraw_released (x := { x with refusal := .none, order := some (.close, e) }) h t (by decide))

theorem DoorSide.obey_still {x : DoorSide} {a : DoorAction} (h : (a = .release ∧ x.st = .released) ∨ (a = .close ∧ x.st ≠ .released))
    (t : DoorTable) (e : Nat) : x.obey t a e = { x with refusal := .none, order := some (a, e) } := by
  rcases h with ⟨rfl, h⟩ | ⟨rfl, h⟩
  · simp only [DoorSide.obey, DoorSide.acceptRelease, h]
  · exact if_neg h

/-! ## Loops, phases and timers (R82, R83, R87 to R90, R96) -/

theorem exec_loopChangeTaken {s : State} (h : s.powered = true) (sd : Side) (made : Bool) :
    exec (.loopChangeTaken sd made) s = .next (s.loopChange sd made) := State.run_powered _ h

theorem exec_warningPhaseChange {s : State} (h : s.powered = true) (sd : Side) :
    exec (.warningPhaseChange sd) s = .next (s.changeSide sd DoorSide.phaseChange) := State.run_powered _ h

theorem exec_maximumReleaseTimeExpiry {s : State} (h : s.powered = true) (sd : Side) :
    exec (.maximumReleaseTimeExpiry sd) s = .next (s.releaseTimeout sd) := State.run_powered _ h

theorem exec_warningLeadTimeExpiry {s : State} (h : s.powered = true) (sd : Side) :
    exec (.warningLeadTimeExpiry sd) s = .next (s.warningTimeout sd) := State.run_powered _ h

theorem exec_closeTimeoutExpiry {s : State} (h : s.powered = true) (sd : Side) :
    exec (.closeTimeoutExpiry sd) s = .next (s.closeTimeout sd) := State.run_powered _ h

/-- A loop change that forces no side (R83, R89, R90). -/
theorem State.loopChange_plain {s : State} {sd : Side} {made : Bool} (h : (s.doors.side sd).loop ≠ made)
    (hf : ¬(made = false ∧ (s.doors.side sd).st = .locked)) :
    s.loopChange sd made = (s.changeSide sd fun y => y.loopTo made).afterSides s.doors := by
  rw [State.loopChange, if_neg h]
  dsimp only
  rw [if_neg hf]

/-- A LOCKED side whose loop breaks is forced (R87). -/
theorem State.loopChange_forced {s : State} {sd : Side} (h : (s.doors.side sd).loop = true) (hl : (s.doors.side sd).st = .locked) :
    s.loopChange sd false = (((s.changeSide sd fun y => y.loopTo false).count 10).raise .doorForced).afterSides s.doors := by
  rw [State.loopChange, if_neg (by simp [h])]
  dsimp only
  rw [if_pos ⟨rfl, hl⟩]

theorem DoorSide.loopTo_made {x : DoorSide} (h : x.st = .closing ∨ x.st = .fault) :
    x.loopTo true = ({ x with loop := true } : DoorSide).rest .locked := by
  rcases h with h | h <;> rw [DoorSide.loopTo, if_pos rfl, h]

theorem DoorSide.loopTo_broken {x : DoorSide} (h : x.st = .locked) : x.loopTo false = ({ x with loop := false } : DoorSide).rest .fault := by
  rw [DoorSide.loopTo, if_neg (by decide), h]

theorem DoorSide.loopTo_level {x : DoorSide} (h : x.st = .absent ∨ x.st = .released ∨ x.st = .warning) (made : Bool) :
    x.loopTo made = { x with loop := made } := by
  cases made
  · rcases h with h | h | h <;> rw [DoorSide.loopTo, if_neg (by decide), h]
  · rcases h with h | h | h <;> rw [DoorSide.loopTo, if_pos rfl, h]

end Sys2Proof.Machine
end

section

open Sys2Proof Sys2Proof.Machine

/-- Settles O39: the permit formed afresh, and a withdrawal with ZERO_SPEED_LOST where it falls. -/
theorem zeroSpeedLossClosesDoors : Obligations.ZeroSpeedLossClosesDoors := by
  intro s level hp
  rw [exec_zspChangeTaken hp]
  refine ⟨fun h => ?_, fun h => ⟨_, rfl, ?_⟩⟩
  · rw [State.zspChange, if_pos h]
  · have ev := State.zspChange_eventful level s
    have hflag : (if s.holding = true then level else s.line.flag) = if s.census.lead = .holding then level else s.line.flag := by
      simp [State.holding]
    rw [State.zspChange_census, State.zspChange_alloc, State.zspChange_line, if_neg h]
    refine ⟨rfl, hflag, rfl, ?_, rfl, rfl, rfl, rfl, fun hk => ?_, ?_, ev.sameFrame, ev.delivered, rfl, ev.sense⟩
    · simp only [Supervisor.formed]
      cases s.line.sup <;> rfl
    · rw [State.zspChange_to h]
      rcases (s.zspTo level).formPermit_cases with ⟨h1, h2, _⟩ | ⟨_, he⟩
      · rcases hk with hk | hk
        · exact absurd (hk.symm.trans h1) (by decide)
        · exact absurd (hk.symm.trans h2) (by decide)
      · rw [he]; rfl
    · intro h1 h2 sd x y
      have hy : y = x.withdraw s.mgmt.working.door .zeroSpeedLost := by
        show (s.zspChange level).doors.side sd = _
        rw [State.zspChange_to h]
        rcases (s.zspTo level).formPermit_cases with ⟨_, _, he⟩ | ⟨hk, _⟩
        · rw [he, State.withdrawBoth_side]; rfl
        · rcases hk with hk | hk
          · exact absurd (h1.symm.trans hk) (by decide)
          · exact absurd (h2.symm.trans hk) (by decide)
      rw [hy]
      refine ⟨fun hs => ?_, fun hs1 hs2 => DoorSide.withdraw_shut hs1 hs2 _ _⟩
      rw [DoorSide.withdraw_zeroSpeedLost hs]
      by_cases hl : x.loop = true
      · rw [DoorSide.toClosing_made (x := { x with cause := .zeroSpeedLost }) hl]
        exact ⟨rfl, rfl, rfl, fun _ => ⟨rfl, rfl, rfl⟩, fun k => absurd (hl.symm.trans k) (by decide)⟩
      · have hl : x.loop = false := Bool.not_eq_true _ ▸ hl
        rw [DoorSide.toClosing_broken (x := { x with cause := .zeroSpeedLost }) hl]
        exact ⟨rfl, rfl, rfl, fun k => absurd (hl.symm.trans k) (by decide), fun _ => ⟨rfl, rfl, _, rfl, rfl, rfl⟩⟩

/-- Settles O40: the line is lost, the doors are withdrawn, and the permit stands by ZSP alone. -/
theorem supervisionExpiryLosesLine : Obligations.SupervisionExpiryLosesLine := by
  intro s hp
  rw [exec_supervisionTimerExpiry hp]
  refine ⟨fun h => ?_, fun h hs => ⟨_, rfl, ?_⟩⟩
  · rw [State.supervisionExpiry, if_neg fun k => k.1 h]
  · have ev := s.supervisionExpiry_eventful
    rw [State.supervisionExpiry_census, State.supervisionExpiry_alloc, State.supervisionExpiry_line, if_pos ⟨h, decide_eq_true hs⟩]
    refine ⟨rfl, rfl, rfl, rfl, rfl, ?_, fun hz sd hr => ?_, rfl, ev.sameFrame, ev.delivered, rfl, ev.sense⟩
    · rw [State.supervisionExpiry_lost h hs]
      exact ((State.withdrawBoth_eventful .lineLost _).trans (State.formPermit_eventful _)).flags _ (State.raise_sets _ _)
    · have hside : (s.supervisionExpiry.doors.side sd) = (s.doors.side sd).withdraw s.mgmt.working.door .lineLost := by
        rw [State.supervisionExpiry_lost h hs]
        rcases (s.lineLost.withdrawBoth .lineLost).formPermit_cases with ⟨_, hk, _⟩ | ⟨_, he⟩
        · rw [State.withdrawBoth_line, s.lineLost_quiet.line] at hk
          exact absurd (hz.symm.trans hk) (by decide)
        · rw [he]
          exact (State.withdrawBoth_side _ _ _).trans (by rw [s.lineLost_quiet.doors, s.lineLost_quiet.mgmt])
      rw [hside, DoorSide.withdraw_released hr _ (by decide)]
      exact ⟨rfl, rfl, rfl, rfl, rfl⟩

/-- Settles O41: an order is ignored, refused at its first failing check, or obeyed. -/
theorem doorOrderObeyedOrRefused : Obligations.DoorOrderObeyedOrRefused := by
  intro s d rest o hs ho
  have hx : exec .doorOrderTaken s = .next (({ s with delivered := rest } : State).takeOrder o).2 :=
    (State.run_takeDelivered hs).trans (congrArg _ (Delivery.orderAct_read ho _))
  refine ⟨fun h => ?_, ?_⟩
  · rw [hx, State.takeOrder_ignored (s := { s with delivered := rest }) h]
  · intro side a f l e ho h1 h2 h3 h4 sd x count why
    subst ho
    have hsd : sd = mapSide s.census.orient side := (mapSide_eq _ _).symm
    have hwhy : ({ s with delivered := rest } : State).checkOrder sd a e = why := State.checkOrder_eq _ _ _ _
    have hacc (h : why = .none) : exec .doorOrderTaken s = .next (({ s with delivered := rest } : State).acceptOrder sd a e) := by
      rw [hx, State.takeOrder_accepted (s := { s with delivered := rest }) h1 h2 h3 h4 (by rw [← hsd, hwhy, h]), hsd]
    have hmoved := State.changeSide_moved (s := { s with delivered := rest }) (sd := sd)
      (f := fun x => x.obey s.mgmt.working.door a e) (Quiet.refl _)
    refine ⟨fun h => ⟨_, hx, ?_⟩, fun h ha h5 h6 => ⟨_, hacc h, ?_⟩, fun h ha h5 => ⟨_, hacc h, ?_⟩, fun h h5 => ?_⟩
    · rw [State.takeOrder_refused (s := { s with delivered := rest }) h1 h2 h3 h4 (hsd ▸ hwhy) h, ← hsd]
      have q := State.refuseOrder_quiet sd why { s with delivered := rest }
      have ev := State.refuseOrder_eventful sd why { s with delivered := rest }
      refine ⟨?_, fun sd' hne => ?_, ?_, State.raise_sets _ _, ev.sameFrame, ev.delivered, ?_, ?_, ?_, ?_⟩
      · rw [q.doors, State.side_changeSide]
      · rw [q.doors, State.side_changeSide_ne _ _ hne]
      · rw [q.doors, State.derate_changeSide]
      · rw [q.census, State.changeSide_census]
      · rw [q.line, State.changeSide_line]
      · rw [q.heater, State.changeSide_heater]
      · rw [q.summary, State.changeSide_summary]
    · subst ha
      have hobey := DoorSide.obey_release h5 h6 s.mgmt.working.door e
      rw [State.acceptOrder_eq, hmoved.side]
      refine ⟨?_, ?_, ?_, ?_, ?_, ?_, hmoved.others, ?_, hmoved.frame, hmoved.delivered, hmoved.census, hmoved.line⟩
      · exact congrArg DoorSide.st hobey
      · exact congrArg DoorSide.rel hobey
      · exact congrArg DoorSide.warn hobey
      · exact congrArg DoorSide.cause hobey
      · exact congrArg DoorSide.refusal hobey
      · exact congrArg DoorSide.order hobey
      · refine State.afterSides_derates ?_ ?_
        · rw [congrArg DoorSide.st hobey]; exact fun k => h6 k.symm
        · exact (congrArg DoorSide.shut hobey).trans rfl
    · subst ha
      have hobey := DoorSide.obey_close h5 s.mgmt.working.door e
      rw [State.acceptOrder_eq, hmoved.side]
      refine ⟨?_, ?_, ?_, ?_, ?_, hmoved.others, hmoved.frame, hmoved.delivered, hmoved.census, hmoved.line⟩
      · exact congrArg DoorSide.st hobey
      · exact congrArg DoorSide.rel hobey
      · exact congrArg DoorSide.warn hobey
      · exact congrArg DoorSide.cause hobey
      · exact congrArg DoorSide.order hobey
    · have hobey := DoorSide.obey_still h5 s.mgmt.working.door e
      have hstill := State.afterSides_still (s := { s with delivered := rest }) (sd := sd) (f := fun x => x.obey s.mgmt.working.door a e)
        (congrArg DoorSide.st hobey :)
      exact (hacc h).trans (congrArg _ (hstill.trans (State.changeSide_congr (s := { s with delivered := rest }) hobey)))

/-- Settles O42: the loop level and the warning phase by the state of the side. -/
theorem loopAndPhaseMoveSide : Obligations.LoopAndPhaseMoveSide := by
  intro s sd made hp x
  rw [exec_loopChangeTaken hp, exec_warningPhaseChange hp]
  refine ⟨fun h => ?_, fun hl hm hs => ⟨_, rfl, ?_⟩, fun hl hm hs => ⟨_, rfl, ?_⟩, fun h hs => ?_, fun h => ?_, fun h hm => ?_, fun h hm => ?_⟩
  · rw [State.loopChange, if_pos h]
  · subst hm
    have hf : ¬(true = false ∧ (s.doors.side sd).st = .locked) := fun k => absurd k.1 (by decide)
    have hne : (s.doors.side sd).loop ≠ true := by rw [show (s.doors.side sd).loop = false from hl]; decide
    rw [State.loopChange_plain hne hf]
    have m := State.changeSide_moved (s := s) (sd := sd) (f := fun y => y.loopTo true) (Quiet.refl _)
    exact ⟨m.side.trans (DoorSide.loopTo_made hs), m.others, m.frame, m.census, m.line⟩
  · subst hm
    rw [State.loopChange_forced hl hs]
    have m := State.changeSide_moved (s := s) (sd := sd) (f := fun y => y.loopTo false)
      ((State.count_quiet 10 _).trans (State.raise_quiet .doorForced _))
    exact ⟨m.side.trans (DoorSide.loopTo_broken hs), (State.afterSides_eventful _ _).flags _ (State.raise_sets _ _), m.others, m.frame, m.census,
      m.line⟩
  · have hk := DoorSide.loopTo_level hs made
    have hf : ¬(made = false ∧ (s.doors.side sd).st = .locked) := fun k => by
      have hst : (s.doors.side sd).st = .absent ∨ (s.doors.side sd).st = .released ∨ (s.doors.side sd).st = .warning := hs
      rw [k.2] at hst
      simp at hst
    rw [State.loopChange_plain h hf, State.afterSides_still (f := fun y => y.loopTo made) (congrArg DoorSide.st hk :)]
    exact congrArg _ (State.changeSide_congr hk)
  · exact congrArg _ (State.changeSide_id (if_neg h))
  · refine congrArg _ (State.changeSide_congr ((if_pos h).trans ?_))
    rw [show (s.doors.side sd).mode = .pulsed from hm]
  · refine congrArg _ (State.changeSide_congr ((if_pos h).trans ?_))
    rw [show (s.doors.side sd).mode = .steady from hm]

/-- Settles O43: each timer by the state it runs in. -/
theorem sideTimersExpire : Obligations.SideTimersExpire := by
  intro s sd hp x
  rw [exec_maximumReleaseTimeExpiry hp, exec_warningLeadTimeExpiry hp, exec_closeTimeoutExpiry hp]
  refine ⟨fun h => ?_, fun h => ?_, fun h => ?_, fun hs ht => ⟨_, rfl, ?_⟩, fun hs ht => ⟨_, rfl, ?_⟩, fun hs ht => ⟨_, rfl, ?_⟩⟩
  · rw [State.releaseTimeout, if_neg fun k => h.elim (fun n => n k.1) k.2]
  · rw [State.warningTimeout, if_neg fun k => h.elim (fun n => n k.1) k.2]
  · rw [State.closeTimeout, if_neg fun k => h.elim (fun n => n k.1) k.2]
  · rw [State.releaseTimeout, if_pos ⟨hs, ht⟩]
    have m := State.changeSide_moved (s := s) (sd := sd) (f := fun x => x.withdraw s.mgmt.working.door .releaseTimeout) (Quiet.refl _)
    have hw := DoorSide.withdraw_released hs s.mgmt.working.door (c := .releaseTimeout) (by decide)
    rw [State.withdrawSide, m.side, hw]
    exact ⟨rfl, rfl, rfl, rfl, rfl, m.others, m.frame, m.census, m.line⟩
  · rw [State.warningTimeout, if_pos ⟨hs, ht⟩]
    have m := State.changeSide_moved (s := s) (sd := sd) (f := fun y => y.toClosing s.mgmt.working.door) (Quiet.refl _)
    rw [m.side]
    cases hl : x.loop
    · rw [DoorSide.toClosing_broken hl]
      exact ⟨rfl, rfl, fun k => absurd k (by decide), fun _ => ⟨rfl, rfl, rfl⟩, m.others, m.frame, m.census, m.line⟩
    · rw [DoorSide.toClosing_made hl]
      exact ⟨rfl, rfl, fun _ => ⟨rfl, rfl, rfl⟩, fun k => absurd k (by decide), m.others, m.frame, m.census, m.line⟩
  · rw [State.closeTimeout, if_pos ⟨hs, ht⟩]
    have m := State.changeSide_moved (s := s) (sd := sd) (f := fun y => y.rest .fault)
      ((State.count_quiet 9 _).trans (State.raise_quiet .doorFault _))
    exact ⟨m.side, (State.afterSides_eventful _ _).flags _ (State.raise_sets _ _), m.others, m.frame, m.census, m.line⟩

end

section
/-! PROOFS. Reports, commands and demands (O44 to O46): what the coach and the other nodes tell the door and heating blocks. -/

namespace Sys2Proof.Machine

/-! ## Messages taken by their blocks -/

/-- The oldest message taken by its block, where no other waits behind it. -/
theorem State.run_takeMessage {kind : Nat} {p : List Byte} {act : List Byte → State → State} {s : State} (h : s.brings kind p)
    (hr : (act p s.emptied).link.rx = []) : s.run (State.takeMessage kind act) = .next (act p s.emptied) := by
  obtain ⟨hp, hrx⟩ := h
  have hd : s.dropOldest = s.emptied := by rw [State.dropOldest, State.emptied, hrx]; rfl
  rw [State.run_powered _ hp, State.takeMessage, hrx]
  simp only [if_true, hd]
  rw [State.drainLink_empty hr]

theorem State.emptied_count {s : State} (h : 15 < s.events.counters.length) : s.emptied.count 15 = { s.emptied with events := s.events.bump 15 } :=
  State.count_fifteen (s := s.emptied) h

/-! ## Door reports (R97, R98) and the summary (R106 to R108) -/

theorem readDoorReport_lists {l1 l2 : List Byte} (h1 : l1.length ≤ 255) (h2 : l2.length ≤ 255) :
    readDoorReport (byte l1.length :: (l1 ++ byte l2.length :: l2)) = some (l1, l2) := by
  have e1 : (byte l1.length).toNat = l1.length := byte_toNat_of_lt _ (by omega)
  have e2 : (byte l2.length).toNat = l2.length := byte_toNat_of_lt _ (by omega)
  have hd : (l1 ++ byte l2.length :: l2).drop l1.length = byte l2.length :: l2 := List.drop_left
  rw [readDoorReport, e1]
  simp [hd, e2]

theorem goodStatuses_iff (l : List Byte) : goodStatuses l = true ↔ l.length ≤ 8 ∧ ∀ b ∈ l, b.toNat ≤ 3 := by
  simp [goodStatuses]

theorem byte_eq_iff (b : Byte) (n : Nat) (h : n < 256) : b = BitVec.ofNat 8 n ↔ b.toNat = n := by
  rw [← BitVec.toNat_inj, BitVec.toNat_ofNat, Nat.mod_eq_of_lt h]

/-- The counts of a report by the values of its statuses (R97). -/
theorem DoorSide.takeReport_eq (x : DoorSide) (d : Nat) (l : List Byte) : x.takeReport d l =
    { x with openN := ((l.take d).filter fun b => b = 1 ∨ b = 2).length, obstrN := ((l.take d).filter fun b => b = 2).length } := by
  have h1 : (fun b : Byte => decide (b.toNat = 1 ∨ b.toNat = 2)) = fun b => decide (b = 1 ∨ b = 2) :=
    funext fun b => by rw [decide_eq_decide, ← byte_eq_iff b 1 (by decide), ← byte_eq_iff b 2 (by decide)]; rfl
  have h2 : (fun b : Byte => decide (b.toNat = 2)) = fun b => decide (b = 2) :=
    funext fun b => by rw [decide_eq_decide, ← byte_eq_iff b 2 (by decide)]; rfl
  simp only [DoorSide.takeReport, List.countP_eq_length_filter, h1, h2]

theorem Delivery.doorStateAct_read {d : Delivery} {r : DoorStateIn} {a b : SideReport} (h : readDoorState d.frame.payload = some r)
    (h1 : r.side1 = some a) (h2 : r.side2 = some b) (s : State) :
    d.doorStateAct s = if s.doorStatePasses d.frame.srcId r then s.recordDoors r.pos a b r.permit else s := by
  rw [Delivery.doorStateAct, h]
  simp only [h1, h2]

theorem Delivery.doorStateAct_bad {d : Delivery} {r : DoorStateIn} (h : readDoorState d.frame.payload = some r)
    (hs : r.side1 = none ∨ r.side2 = none) (s : State) : d.doorStateAct s = s := by
  rw [Delivery.doorStateAct, h]
  dsimp only
  rcases hs with hs | hs
  · rw [hs]
  · rw [hs]
    cases r.side1 <;> rfl

theorem State.doorStatePasses_iff (src : NodeId) (r : DoorStateIn) (s : State) : s.doorStatePasses src r = true ↔
    s.census.lead = .holding ∧ r.epoch = s.census.epoch ∧ 2 ≤ r.pos ∧ r.pos ≤ s.summary.recs.length
      ∧ ∃ x ∈ s.summary.recs, x.pos = r.pos ∧ x.id = src := by
  simp only [State.doorStatePasses, State.holding, Bool.and_eq_true, decide_eq_true_eq, List.any_eq_true, and_assoc]

/-- A report mapped by the record's own orientation (R106). -/
theorem SummaryRecord.take_eq (r : SummaryRecord) (a b : SideReport) (p : Bool) : r.take a b p =
    { r with left := (if r.orient = .normal then a else b), right := (if r.orient = .normal then b else a), permit := some p, age := 0 } := by
  rw [SummaryRecord.take]
  cases r.orient <;> rfl

theorem State.recordDoors_holding {s : State} (h : s.census.lead = .holding) (pos : Nat) (a b : SideReport) (p : Bool) :
    s.recordDoors pos a b p =
      let recs := s.summary.recs.map fun x =>
        if x.pos = pos then
          { x with left := (if x.orient = .normal then a else b), right := (if x.orient = .normal then b else a), permit := some p, age := 0 }
        else x
      { s with summary := { recs := recs, proven := recs.all SummaryRecord.proves } } := by
  simp only [State.recordDoors, State.judgeProven, SummaryRecord.take_eq, State.holding, h, decide_true, Bool.true_and]

/-! ## DEMAND, HEAT_DEMAND and HEAT_GRANT (R115 to R117, R124, R137) -/

theorem exec_demandHoldExpiry {s : State} (h : s.powered = true) : exec .demandHoldExpiry s = .next s.demandTimeout := State.run_powered _ h

theorem State.takeDemand_bad {p : List Byte} (h : p.length ≠ 1) (s : State) : s.takeDemand p = s.count 15 := by
  rcases p with _ | ⟨_, _ | ⟨_, _⟩⟩
  · rfl
  · exact absurd rfl h
  · rfl

theorem Delivery.demandAct_read {d : Delivery} {r : DemandIn} (h : readHeatDemand d.frame.payload = some r) (s : State) : d.demandAct s =
    if s.demandPasses d.frame.srcId r then s.recordDemand r.pos r.rating r.demand (decide (r.priority = 1)) else s := by
  rw [Delivery.demandAct, h]

theorem State.demandPasses_iff (src : NodeId) (r : DemandIn) (s : State) : s.demandPasses src r = true ↔
    s.census.lead = .holding ∧ r.epoch = s.census.epoch ∧ 2 ≤ r.pos ∧ r.pos ≤ s.alloc.recs.length
      ∧ (∃ x ∈ s.alloc.recs, x.pos = r.pos ∧ x.id = src) ∧ r.rating ≤ 2047 ∧ r.demand ≤ 100 ∧ r.priority ≤ 1 := by
  simp only [State.demandPasses, State.holding, Bool.and_eq_true, decide_eq_true_eq, List.any_eq_true, and_assoc]

/-- The tests of R137 but for the grant itself. -/
def State.grantTests (s : State) (g : GrantIn) : Prop :=
  s.census.cs = .settled ∧ s.census.lead ≠ .holding ∧ g.epoch = s.census.epoch ∧ 1 ≤ g.n ∧ g.n ≤ 32
    ∧ 1 ≤ s.census.position ∧ s.census.position ≤ g.n

section
variable {d : Delivery} {g : GrantIn} {s : State} (h : readHeatGrant d.frame.payload = some g)
include h

theorem Delivery.grantAct_staged (ht : s.grantTests g) {x : Nat} (hx : g.grants[s.census.position - 1]? = some x) (h2 : x ≤ 2047) :
    d.grantAct s = s.stageGrant { grant := x, epoch := g.epoch, cyc := g.cyc } := by
  obtain ⟨h3, h4, h5, h6, h7, h8, h9⟩ := ht
  have ha : g.at' s.census.position = some x := by rw [GrantIn.at', if_neg (by omega), hx]
  rw [Delivery.grantAct, h]
  simp only [ha]
  exact if_pos ⟨decide_eq_true h3, decide_eq_false h4, h5, h6, h7, h9, h2⟩

theorem Delivery.grantAct_discarded (ht : ¬s.grantTests g ∨ ∀ x, g.grants[s.census.position - 1]? = some x → 2047 < x) :
    d.grantAct s = s := by
  rw [Delivery.grantAct, h]
  dsimp only
  split
  · rename_i x hx
    refine if_neg fun k => ?_
    obtain ⟨k1, k2, k3, k4, k5, k6, k7⟩ := k
    rw [GrantIn.at'] at hx
    split at hx
    · exact absurd hx (by simp)
    · rename_i h0
      rcases ht with ht | ht
      · exact ht ⟨of_decide_eq_true k1, of_decide_eq_false k2, k3, k4, k5, by omega, k6⟩
      · have := ht x hx; omega
  · rfl

end

/-! ## DOOR_COMMAND (R75 to R77) -/

/-- A DOOR_COMMAND whose train side and action are read from its first two bytes. -/
structure CommandRead (sd a : Byte) (side : TrainSide) (action : DoorAction) : Prop where
  read : ∀ f l : Byte, readDoorCommand [sd, a, f, l] = some (side, action, f.toNat, l.toNat)
  sideByte : byte side.code = sd
  actionByte : byte action.code = a
  left : side = .left ↔ sd = 0
  release : action = .release ↔ a = 0
  close : action = .close ↔ a = 1

theorem byte_le_one {b : Byte} (h : b.toNat ≤ 1) : b = 0 ∨ b = 1 := by
  rcases Nat.le_one_iff_eq_zero_or_eq_one.mp h with h | h
  · exact .inl (BitVec.eq_of_toNat_eq h)
  · exact .inr (BitVec.eq_of_toNat_eq h)

theorem commandRead {sd a : Byte} (hs : sd.toNat ≤ 1) (ha : a.toNat ≤ 1) : ∃ side action, CommandRead sd a side action := by
  rcases byte_le_one hs with rfl | rfl
  · rcases byte_le_one ha with rfl | rfl
    · exact ⟨.left, .release, fun _ _ => rfl, rfl, rfl, by decide, by decide, by decide⟩
    · exact ⟨.left, .close, fun _ _ => rfl, rfl, rfl, by decide, by decide, by decide⟩
  · rcases byte_le_one ha with rfl | rfl
    · exact ⟨.right, .release, fun _ _ => rfl, rfl, rfl, by decide, by decide, by decide⟩
    · exact ⟨.right, .close, fun _ _ => rfl, rfl, rfl, by decide, by decide, by decide⟩

theorem TrainSide.ofCode_none {n : Nat} (h : 1 < n) : TrainSide.ofCode n = none := by
  rw [TrainSide.ofCode]
  · rintro rfl; exact absurd h (by decide)
  · rintro rfl; exact absurd h (by decide)

theorem DoorAction.ofCode_none {n : Nat} (h : 1 < n) : DoorAction.ofCode n = none := by
  rw [DoorAction.ofCode]
  · rintro rfl; exact absurd h (by decide)
  · rintro rfl; exact absurd h (by decide)

theorem readDoorCommand_none {p : List Byte} (h : p.length ≠ 4 ∨ 1 < (p.getD 0 0).toNat ∨ 1 < (p.getD 1 0).toNat) : readDoorCommand p = none := by
  unfold readDoorCommand
  split
  · rename_i sd a f l
    rcases h with h | h | h
    · exact absurd rfl h
    · rw [TrainSide.ofCode_none (n := sd.toNat) h]
    · rw [DoorAction.ofCode_none (n := a.toNat) h]
      cases TrainSide.ofCode sd.toNat <;> rfl
  · rfl

/-- The lead's own order, with its outcome (R76, R77). -/
def State.ownOrder (side : TrainSide) (action : DoorAction) (first last : Nat) (s : State) : OrderOutcome × State :=
  s.takeOrder { side := some side, action := some action, first := first, last := last, epoch := s.census.epoch }

theorem State.commandDoors_eq (side : TrainSide) (action : DoorAction) (first last : Nat) (s : State) :
    s.commandDoors side action first last =
      ((s.ownOrder side action first last).2.originate (s.doorOrderSending side action first last) (.one s.nonCabPort)).pushMessage
        (doorReply .ok .none [byte s.census.epoch, byte first, byte last, byte (s.ownOrder side action first last).1.code]) := rfl

section
variable {sd a : Byte} {side : TrainSide} {action : DoorAction} (c : CommandRead sd a side action) {s : State} (f l : Byte)
include c

theorem State.takeDoorCommand_off (h : s.census.lead = .off) :
    s.takeDoorCommand [sd, a, f, l] = s.pushMessage (doorReply .refused .notLead []) := by
  rw [State.takeDoorCommand, c.read]
  simp only [h]

theorem State.takeDoorCommand_unsettled (h : s.census.lead = .calling ∨ s.census.lead = .blocked) :
    s.takeDoorCommand [sd, a, f, l] = s.pushMessage (doorReply .refused .notSettled []) := by
  rw [State.takeDoorCommand, c.read]
  rcases h with h | h
  · simp only [h]
  · simp only [h]

theorem State.takeDoorCommand_holding (h : s.census.lead = .holding) : s.takeDoorCommand [sd, a, f, l] =
    if clampPosition s.tableSize l.toNat < clampPosition s.tableSize f.toNat then s.pushMessage (doorReply .badRange .none [])
    else s.commandDoors side action (clampPosition s.tableSize f.toNat) (clampPosition s.tableSize l.toNat) := by
  rw [State.takeDoorCommand, c.read]
  simp only [h]

end

/-- A broadcast by one end: none where it is not MATED, begun where it is idle (R26). -/
theorem State.originate_broadcast {s : State} {m : Sending} {p : Port} (hc : m.cls ≤ 11) (hk : m.destKind = .broadcast)
    (h : s.mated p = false ∨ s.Ready p) : s.originate m (.one p) =
      if s.mated p then s.begun p (s.ownFrame m.cls m.dir m.epoch m.destKind m.destVal m.payload) else s := by
  rcases h with h | h
  · rw [if_neg (by simp [h]), State.originate, State.originateWith, hk]
    refine (if_neg (by simp [State.isOwnDestination_broadcast])).trans ?_
    exact (if_neg (by simp [h])).trans (if_pos hk)
  · rw [if_pos h.mated, State.originate_ready hc (by rw [hk]; exact s.isOwnDestination_broadcast _) h]

theorem State.ownFrame_congr {s t : State} (hc : t.census = s.census) (hn : t.nodeId = s.nodeId) : t.ownFrame = s.ownFrame := by
  funext cls dir epoch kind val payload
  simp only [State.ownFrame, hc, hn]

/-- A lead in HOLDING sends nothing of its own doors: their state goes to its own summary (R109). -/
theorem State.afterSides_lead {b : Doors} {s : State} (h : s.settled = true ∧ s.holding = true) :
    (s.afterSides b).portA = s.portA ∧ (s.afterSides b).portB = s.portB ∧ (s.afterSides b).link = s.link := by
  cases hm : b.moved s.doors
  · rw [State.afterSides_unmoved hm]; exact ⟨rfl, rfl, rfl⟩
  · rw [State.afterSides_moved hm, State.doorStateWork_lead (s := s.formDerate) h]
    exact ⟨rfl, rfl, rfl⟩

theorem State.changeSide_ports (sd : Side) (f : DoorSide → DoorSide) (s : State) (p : Port) : (s.changeSide sd f).port p = s.port p := by
  cases p
  · exact State.changeSide_portA sd f s
  · exact State.changeSide_portB sd f s

theorem State.takeOrder_outOfRange {s : State} {side : TrainSide} {a : DoorAction} {f l e : Nat} (h1 : s.census.position < f) (h2 : f ≤ l)
    (h3 : l ≤ 32) (h4 : 1 ≤ f) :
    s.takeOrder { side := some side, action := some a, first := f, last := l, epoch := e } = (.outOfRange, s) := by
  rw [State.takeOrder]
  dsimp only
  rw [if_neg (by omega), if_pos (.inl h1)]

/-- A frame begun and a message told are told and begun. -/
theorem State.begun_tell (s : State) (p : Port) (f : Frame) (m : Message) : (s.begun p f).tell m = (s.tell m).begun p f := by
  cases p <;> rfl

/-- What a frame begun at a MATED end leaves of the node. -/
theorem State.begunIf_keeps (u : State) (q : Port) (f : Frame) :
    (if u.mated q then u.begun q f else u).doors = u.doors ∧ (if u.mated q then u.begun q f else u).census = u.census
      ∧ (if u.mated q then u.begun q f else u).line = u.line ∧ u.sameFrame (if u.mated q then u.begun q f else u)
      ∧ (if u.mated q then u.begun q f else u).link = u.link
      ∧ (if u.mated q then u.begun q f else u).port q = if u.mated q then { u.port q with tx := some f } else u.port q := by
  by_cases h : u.mated q = true
  · simp only [if_pos h]
    exact ⟨by simp [State.begun], by simp [State.begun], by simp [State.begun], ⟨by simp [State.begun], by simp [State.begun],
      by simp [State.begun], by simp [State.begun], by simp [State.begun]⟩, by simp [State.begun], State.port_begun _ _ _⟩
  · rw [if_neg h, if_neg h]
    exact ⟨rfl, rfl, rfl, ⟨rfl, rfl, rfl, rfl, rfl⟩, rfl, rfl⟩

theorem State.port_tell (u : State) (m : Message) (p : Port) : (u.tell m).port p = u.port p := by cases p <;> rfl

/-- The DOOR_ORDER of an accepted command and its answer, behind the lead's own order (R76, R77). -/
theorem State.commandDoors_sent {s u : State} {side : TrainSide} {action : DoorAction} {first last : Nat} {outcome : OrderOutcome}
    (ho : s.ownOrder side action first last = (outcome, u)) (hm : u.mated s.nonCabPort = false ∨ u.Ready s.nonCabPort) (hr : u.Room) :
    s.commandDoors side action first last =
      (if u.mated s.nonCabPort then u.begun s.nonCabPort (u.ownFrame 5 .away s.census.epoch .broadcast 0
        [byte side.code, byte action.code, byte first, byte last, byte s.census.epoch]) else u).tell
        (doorReply .ok .none [byte s.census.epoch, byte first, byte last, byte outcome.code]) := by
  rw [State.commandDoors_eq, ho, State.originate_broadcast (show 5 ≤ 11 by decide) rfl hm]
  refine State.pushMessage_room ?_ _
  split
  · exact ⟨by rw [State.begun, State.setPort_link]; exact hr.busy, by rw [State.begun, State.setPort_link]; exact hr.places⟩
  · exact hr

/-- A refusal that is already told of records itself and counts at code 8 (R79). -/
theorem State.refuseOrder_standing {sd : Side} {r : DoorRefusal} {s : State} (h : hasFlag s.notices.flags .doorRefused = true)
    (hc : 8 < s.events.counters.length) :
    s.refuseOrder sd r = { s.changeSide sd fun x => { x with refusal := r } with events := s.events.bump 8 } := by
  have he : 8 < (s.changeSide sd fun x => { x with refusal := r }).events.counters.length := by rw [State.changeSide_events]; exact hc
  rw [State.refuseOrder, count_counted _ 8 he (by decide) (by decide) (by decide), State.changeSide_events, State.raise_standing]
  exact (congrArg (fun n => hasFlag n.flags .doorRefused) (State.changeSide_notices sd _ s)).trans h

theorem State.acceptOrder_lead {sd : Side} {a : DoorAction} {e : Nat} {s : State} (h : s.settled = true ∧ s.holding = true) :
    (∀ p, (s.acceptOrder sd a e).port p = s.port p) ∧ (s.acceptOrder sd a e).link = s.link := by
  have hc : (s.changeSide sd fun x => x.obey s.mgmt.working.door a e).settled = true
      ∧ (s.changeSide sd fun x => x.obey s.mgmt.working.door a e).holding = true := by simpa [State.settled, State.holding] using h
  obtain ⟨ha, hb, hl⟩ := State.afterSides_lead (b := s.doors) hc
  rw [State.acceptOrder_eq]
  refine ⟨fun p => ?_, hl.trans (State.changeSide_link _ _ _)⟩
  cases p
  · exact ha.trans (State.changeSide_portA _ _ _)
  · exact hb.trans (State.changeSide_portB _ _ _)

end Sys2Proof.Machine
end

section

open Sys2Proof Sys2Proof.Machine

/-- Settles O44: statuses counted or discarded, and a DOOR_STATE recorded or not. -/
theorem doorReportsTaken : Obligations.DoorReportsTaken := by
  intro s
  refine ⟨?_, fun d rest r hs hr h => ?_, fun d rest r a b hs hr h1 h2 => ?_⟩
  · intro l1 l2 hb n1 n2 d opened obstructed
    have hread : ∀ u : State, u.takeDoorReport (byte l1.length :: (l1 ++ byte l2.length :: l2)) =
        if goodStatuses l1 && goodStatuses l2 then
          (u.changeSide .one fun x => x.takeReport u.mgmt.working.door.count1 l1).changeSide .two fun x =>
            x.takeReport u.mgmt.working.door.count2 l2
        else u.count 15 := fun u => by rw [State.takeDoorReport, readDoorReport_lists n1 n2]
    refine ⟨fun ⟨h1, h2, hv⟩ => ?_, fun h hc => ?_⟩
    · have hg : (goodStatuses l1 && goodStatuses l2) = true := by
        rw [Bool.and_eq_true, goodStatuses_iff, goodStatuses_iff]
        exact ⟨⟨h1, fun b hb => hv b (List.mem_append_left _ hb)⟩, h2, fun b hb => hv b (List.mem_append_right _ hb)⟩
      have hx : exec .doorReport s = _ := State.run_takeMessage hb (by rw [hread, if_pos hg]; rfl)
      rw [hx, hread, if_pos hg]
      simp only [DoorSide.takeReport_eq]
      rfl
    · have hg : ¬(goodStatuses l1 && goodStatuses l2) = true := by
        rw [Bool.and_eq_true, goodStatuses_iff, goodStatuses_iff]
        rintro ⟨⟨k1, k2⟩, k3, k4⟩
        rcases h with h | h | ⟨b, hm, h⟩
        · omega
        · omega
        · rcases List.mem_append.mp hm with hm | hm
          · have := k2 b hm; omega
          · have := k4 b hm; omega
      have hx : exec .doorReport s = _ := State.run_takeMessage hb (by rw [hread, if_neg hg, State.emptied_count hc]; rfl)
      rw [hx, hread, if_neg hg, State.emptied_count hc]
  · have hx : exec .doorStateTaken s = .next (d.doorStateAct { s with delivered := rest }) := State.run_takeDelivered hs
    rw [hx, Delivery.doorStateAct_bad hr h]
  · intro passes
    have hx : exec .doorStateTaken s = .next (d.doorStateAct { s with delivered := rest }) := State.run_takeDelivered hs
    have hp : ({ s with delivered := rest } : State).doorStatePasses d.frame.srcId r = true ↔ passes := State.doorStatePasses_iff _ _ _
    rw [hx, Delivery.doorStateAct_read hr h1 h2]
    refine ⟨fun h => ?_, ?_⟩
    · rw [if_neg (mt hp.mp h)]
    · intro h recs
      rw [if_pos (hp.mpr h), State.recordDoors_holding (s := { s with delivered := rest }) h.1]

/-- Settles O46: each payload by its tests. -/
theorem demandsAndGrantsTaken : Obligations.DemandsAndGrantsTaken := by
  intro s
  refine ⟨?_, fun p hb hl hc => ?_, fun hp hh => ?_, fun d rest r hs hr => ?_, fun d rest g hs hg => ?_⟩
  · intro b hb x
    have hx : exec .demand s = .next (s.emptied.takeDemand [b]) := State.run_takeMessage hb (by rw [State.takeDemand]; rfl)
    rw [hx, State.takeDemand]
    rfl
  · have hk := State.takeDemand_bad hl s.emptied
    have hx : exec .demand s = .next (s.emptied.takeDemand p) := State.run_takeMessage hb (by rw [hk, State.emptied_count hc]; rfl)
    rw [hx, hk, State.emptied_count hc]
  · have h0 : ∀ derate percent, effectiveDemand 0 derate percent = 0 := fun derate percent => by cases derate <;> simp [effectiveDemand]
    rw [exec_demandHoldExpiry hp, State.demandTimeout, if_neg hh]
    simp only [State.formD, h0]
  · intro passes
    have hx : exec .heatDemandTaken s = .next (d.demandAct { s with delivered := rest }) := State.run_takeDelivered hs
    have hp : ({ s with delivered := rest } : State).demandPasses d.frame.srcId r = true ↔ passes := State.demandPasses_iff _ _ _
    rw [hx, Delivery.demandAct_read hr]
    refine ⟨fun h => ?_, fun h => ?_⟩
    · rw [if_neg (mt hp.mp h)]
    · rw [if_pos (hp.mpr h)]
      rfl
  · intro tests
    have hx : exec .heatGrantTaken s = .next (d.grantAct { s with delivered := rest }) := State.run_takeDelivered hs
    refine ⟨fun h => ?_, fun x ht hx1 hx2 => ?_⟩
    · rw [hx, Delivery.grantAct_discarded (s := { s with delivered := rest }) hg h]
    · rw [hx, Delivery.grantAct_staged (s := { s with delivered := rest }) hg ht hx1 hx2]
      rfl

/-- Settles O45: the first case of R75 that fits, and then the lead's own order and the frame. -/
theorem doorCommandAnswered : Obligations.DoorCommandAnswered := by
  intro s hq hv hsend reply replied
  have hroom : s.emptied.Room := ⟨hsend, show s.link.txQ.length + s.link.reserved < 8 by rw [hq, hv]; decide⟩
  have hanswer {p : List Byte} (hb : s.brings 3 p) {st : Status} {why : CommandReason}
      (hk : s.emptied.takeDoorCommand p = s.emptied.pushMessage (doorReply st why [])) :
      exec .doorCommand s = .next (replied [byte st.code, 0x80, byte why.code]) := by
    rw [State.pushMessage_room hroom] at hk
    have hx : exec .doorCommand s = _ := State.run_takeMessage hb (by rw [hk]; rfl)
    rw [hx, hk]
    simp only [State.tell, State.emptied, hq, List.nil_append]
    rfl
  refine ⟨fun p hb hbad => ?_, ?_⟩
  · exact hanswer hb (st := .badRequest) (why := .none) (by rw [State.takeDoorCommand, readDoorCommand_none hbad])
  · intro sd a f l hb hsd ha n first last ok q order
    obtain ⟨side, action, c⟩ := commandRead hsd ha
    refine ⟨fun h => hanswer hb (st := .refused) (why := .notLead) (State.takeDoorCommand_off c (s := s.emptied) f l h),
      fun h => hanswer hb (st := .refused) (why := .notSettled) (State.takeDoorCommand_unsettled c (s := s.emptied) f l h),
      fun h hlt => hanswer hb (st := .badRange) (why := .none) ((State.takeDoorCommand_holding c (s := s.emptied) f l h).trans (if_pos hlt)), ?_, ?_⟩
    · intro h hle h1 h32 hp1
      have hk := (State.takeDoorCommand_holding c (s := s.emptied) f l h).trans (if_neg (Nat.not_lt.mpr hle))
      have ho : s.emptied.ownOrder side action first last = (.outOfRange, s.emptied) :=
        State.takeOrder_outOfRange (s := s.emptied) (show s.census.position < first by omega) hle h32 (by omega)
      refine ⟨fun hm => ?_, fun hi => ?_⟩
      · have hsent := hk.trans (State.commandDoors_sent ho (.inl hm) hroom)
        rw [show s.emptied.mated s.emptied.nonCabPort = false from hm] at hsent
        have hx : exec .doorCommand s = _ := State.run_takeMessage hb (by rw [hsent]; rfl)
        rw [hx, hsent]
        simp only [State.tell, State.emptied, hq]
        rfl
      · have hready : s.emptied.Ready q := (State.ready_of_idleEnd hi).congr rfl
        have hsent := hk.trans (State.commandDoors_sent ho (.inr hready) hroom)
        rw [show s.emptied.mated s.emptied.nonCabPort = true from hready.mated, if_pos rfl, State.begun_tell, c.sideByte, c.actionByte] at hsent
        have hx : exec .doorCommand s = _ := State.run_takeMessage hb (by rw [hsent, State.begun, State.setPort_link]; rfl)
        rw [hx, hsent]
        simp only [State.tell, State.emptied, hq, List.nil_append]
        rfl
    · intro h h1 h32 hp1 hset hends mine x hcount answers
      have hmine : mapSide s.emptied.census.orient side = mine := by
        rw [mapSide_eq]
        exact if_congr (by rw [propext c.left]; exact Iff.rfl) rfl rfl
      have hle : first ≤ last := by rw [h1]; exact Nat.le_max_left _ _
      have hk := (State.takeDoorCommand_holding c (s := s.emptied) f l h).trans (if_neg (Nat.not_lt.mpr hle))
      have hlead : s.emptied.settled = true ∧ s.emptied.holding = true := ⟨decide_eq_true hset, decide_eq_true h⟩
      have hpos : first ≤ s.emptied.census.position ∧ s.emptied.census.position ≤ last := by
        rw [show s.emptied.census.position = 1 from hp1]; omega
      have hcheck : s.emptied.checkOrder mine action s.census.epoch =
          if action = .release ∧ s.line.permit = false then .noZeroSpeed else .none :=
        (s.emptied.checkOrder_eq mine action s.census.epoch).trans
          ((if_neg fun k => k hset).trans ((if_neg fun k => k rfl).trans (if_neg hcount)))
      have hdone {outcome : OrderOutcome} {u : State} {y : DoorSide} (ho : s.emptied.ownOrder side action first last = (outcome, u))
          (m : SideMoved s.emptied mine y u) (hport : ∀ p, u.port p = s.port p) (hlink : u.link = s.emptied.link) :
          ∃ t, answers (byte outcome.code) t ∧ t.doors.side mine = y := by
        have hroom' : u.Room := ⟨hlink ▸ hroom.busy, hlink ▸ hroom.places⟩
        have hmat : u.mated q = s.mated q := by rw [State.mated, State.mated, hport]
        have hends' : u.mated s.emptied.nonCabPort = false ∨ u.Ready s.emptied.nonCabPort :=
          hends.imp (fun k => hmat.trans k) fun k => (State.ready_of_idleEnd k).congr (hport _)
        have hsent := hk.trans (State.commandDoors_sent ho hends' hroom')
        rw [c.sideByte, c.actionByte, State.ownFrame_congr m.census m.frame.2.1] at hsent
        obtain ⟨hdoors, hcensus, hline, hframe, hlink', hport'⟩ := u.begunIf_keeps q order
        have hx : exec .doorCommand s = .next ((if u.mated q then u.begun q order else u).tell
            (doorReply .ok .none [byte s.census.epoch, byte first, byte last, byte outcome.code])) :=
          (State.run_takeMessage hb (by rw [hsent]; exact (congrArg Link.rx (hlink'.trans hlink)))).trans (congrArg _ hsent)
        refine ⟨_, ⟨hx, fun sd' hne => ?_, ?_, ?_, State.sameFrame_trans m.frame hframe, hcensus.trans m.census, hline.trans m.line⟩, ?_⟩
        · exact (congrArg (fun d => d.side sd') hdoors).trans (m.others sd' hne)
        · simp only [State.tell, hlink', hlink, State.emptied, hq, List.nil_append]
          rfl
        · rw [State.port_tell, hport', hmat, hport]
        · exact (congrArg (fun d => d.side mine) hdoors).trans m.side
      have haccept (hc : s.emptied.checkOrder mine action s.census.epoch = .none) :
          ∃ t, answers 0 t ∧ t.doors.side mine = x.obey s.mgmt.working.door action s.census.epoch := by
        have ho := State.takeOrder_accepted (s := s.emptied) (side := side) (a := action) (e := s.census.epoch) (by omega) hpos.1 hpos.2 h32
          (by rw [hmine]; exact hc)
        rw [hmine] at ho
        obtain ⟨hp, hl⟩ := State.acceptOrder_lead (sd := mine) (a := action) (e := s.census.epoch) hlead
        exact hdone ho (State.changeSide_moved (s := s.emptied) (f := fun x => x.obey s.mgmt.working.door action s.census.epoch) (Quiet.refl _)) (fun p => (hp p).trans (by cases p <;> rfl)) hl
      refine ⟨fun h0 hperm hna hnr => ?_, fun h0 hrel => ?_, fun h0 hperm hflag hc => ?_⟩
      · have hrel := c.release.mpr h0
        obtain ⟨t, ht, hy⟩ := haccept (hcheck.trans (if_neg fun k => absurd (hperm.symm.trans k.2) (by decide)))
        refine ⟨t, ht, ?_⟩
        rw [hy, hrel, DoorSide.obey_release hna hnr]
        exact ⟨rfl, rfl, rfl, rfl⟩
      · have hclose := c.close.mpr h0
        obtain ⟨t, ht, hy⟩ := haccept (hcheck.trans (if_neg fun k => absurd (hclose.symm.trans k.1) (by decide)))
        refine ⟨t, ht, ?_⟩
        rw [hy, hclose, DoorSide.obey_close hrel]
        exact ⟨rfl, rfl, rfl, rfl⟩
      · have hrel := c.release.mpr h0
        have ho := State.takeOrder_refused (s := s.emptied) (side := side) (a := action) (e := s.census.epoch) (by omega) hpos.1 hpos.2 h32
          (r := .noZeroSpeed) (by rw [hmine]; exact hcheck.trans (if_pos ⟨hrel, hperm⟩)) (by decide)
        have hr := State.refuseOrder_standing (sd := mine) (r := .noZeroSpeed) (s := s.emptied) hflag hc
        have q := State.refuseOrder_quiet mine .noZeroSpeed s.emptied
        rw [hmine] at ho
        refine hdone ho ⟨?_, fun sd' hne => ?_, (State.refuseOrder_eventful _ _ _).sameFrame, (State.refuseOrder_eventful _ _ _).delivered,
          q.census.trans (State.changeSide_census _ _ _), q.line.trans (State.changeSide_line _ _ _)⟩ (fun p => ?_) ?_
        · rw [q.doors, State.side_changeSide]; rfl
        · rw [q.doors, State.side_changeSide_ne _ _ hne]
        · rw [hr]
          cases p
          · exact State.changeSide_portA _ _ _
          · exact State.changeSide_portB _ _ _
        · rw [hr]; exact State.changeSide_link _ _ _

end

section
/-! PROOFS. The cycle clock: what an index entry does (O33), the slot boundary (O37), the grant of a cycle start (O35), and the beacon
(O38). -/

namespace Sys2Proof.Machine

/-! ## Index entries -/

/-- What an index entry leaves as it was, and the slot position it has the heater switch read (R62, R63). -/
structure Clocked (s t : State) : Prop where
  frame : s.sameFrame t
  delivered : t.delivered = s.delivered
  census : t.census = s.census
  doors : t.doors = s.doors
  freeCount : t.freeCount = s.freeCount
  line : t.line = { s.line with lastStart := t.line.lastStart }
  slot : t.heater.slot = s.line.slotPosition

theorem State.readSlot_clocked (s : State) : Clocked s s.readSlot :=
  ⟨s.readSlot_heated.sameFrame, rfl, rfl, rfl, rfl, rfl, rfl⟩

theorem Clocked.quiet {s t u : State} (h : Clocked s t) (q : Quiet t u) : Clocked s u :=
  ⟨State.sameFrame_trans h.frame q.eventful.sameFrame, q.delivered.trans h.delivered, q.census.trans h.census, q.doors.trans h.doors,
    q.freeCount.trans h.freeCount, by rw [q.line]; exact h.line, by rw [q.heater]; exact h.slot⟩

theorem State.compute_keeps (s : State) : s.compute.census = s.census ∧ s.compute.freeCount = s.freeCount := by
  rw [State.compute_eq]
  have q := State.originate_quiet (s.grantSending s.grants) (.one s.nonCabPort)
    ({ s with alloc := s.allocation (nextCycle s.line.cyc) } : State)
  exact ⟨q.census, q.freeCount⟩

theorem State.demandWork_keeps (s : State) : s.demandWork.census = s.census ∧ s.demandWork.freeCount = s.freeCount := by
  unfold State.demandWork
  split
  · exact ⟨rfl, rfl⟩
  · split
    · exact ⟨(State.toLead_quiet _ s).census, (State.toLead_quiet _ s).freeCount⟩
    · exact ⟨rfl, rfl⟩

theorem State.indexWork_keeps (s : State) : s.indexWork.census = s.census ∧ s.indexWork.freeCount = s.freeCount := by
  unfold State.indexWork
  split
  · exact ⟨by simp, by simp⟩
  · split
    · exact s.demandWork_keeps
    · split
      · exact s.compute_keeps
      · exact ⟨rfl, rfl⟩

theorem State.readSlot_indexWork_clocked (s : State) : Clocked s s.readSlot.indexWork := by
  have e := s.readSlot.indexWork_eventful
  have k := s.readSlot.indexWork_keeps
  have d := s.readSlot.indexWork_keeps_doors
  exact ⟨State.sameFrame_trans s.readSlot_clocked.frame e.sameFrame, e.delivered, k.1, d.1, k.2, by rw [d.2]; rfl, by rw [e.heater]; rfl⟩

/-! ## The cycle start -/

theorem State.ageSummary_eq (s : State) : ∃ x : Summary, s.ageSummary = { s with summary := x } := by
  unfold State.ageSummary
  split
  · exact ⟨s.summary, rfl⟩
  · exact ⟨_, rfl⟩

/-- The heater switch with the grant of the clock's cycle applied, before it reads the slot (R138, steps 1 to 4). -/
def State.granted (s : State) : State := (s.marked.tested.chooseGrant s.line.cyc).formDuty

theorem State.granted_heated (s : State) : Heated s.marked s.granted :=
  (s.marked.tested_heated.trans (State.chooseGrant_heated s.line.cyc _)).trans (State.formDuty_heated _)

/-- After the grant a cycle start reads the slot, ends its cycle, and changes the summary (R110, R138). -/
theorem State.cycleStart_granted (s : State) : ∃ x : Summary, s.cycleStart = { s.granted.readSlot.endCycleStart with summary := x } :=
  State.ageSummary_eq s.granted.readSlot.endCycleStart

theorem Clocked.ofStart {s t : State} (h : Heated s.marked t) (x : Summary) :
    Clocked s ({ t.readSlot.endCycleStart with summary := x } : State) :=
  ⟨State.sameFrame_trans s.marked_eventful.sameFrame h.sameFrame, h.delivered, h.census, h.doors, h.freeCount,
    (show t.line = { s.line with lastStart := t.line.lastStart } by rw [h.line]; rfl),
    (show t.line.slotPosition = s.line.slotPosition by rw [h.line]; rfl)⟩

theorem State.cycleStart_clocked (s : State) : Clocked s s.cycleStart := by
  obtain ⟨x, hx⟩ := s.cycleStart_granted
  rw [hx]
  exact Clocked.ofStart s.granted_heated x

/-- A cycle start is marked, the staged slot is emptied and every on-sample count is 0 (R62, R138). -/
theorem State.cycleStart_ends (s : State) : s.cycleStart.line.lastStart = some s.line.cyc ∧ s.cycleStart.heater.staged = none
    ∧ (s.cycleStart.sense.onWins.all fun w => decide (w.count = 0)) = true := by
  obtain ⟨x, hx⟩ := s.cycleStart_granted
  rw [hx]
  exact ⟨congrArg Supervisor.lastStart s.granted_heated.line, rfl, by simp [State.endCycleStart]⟩

/-- Whether the pair the clock holds is a cycle start not yet marked (R62). -/
def State.startsCycle (s : State) : Prop := s.line.idx = 0 ∧ s.line.lastStart ≠ some s.line.cyc

theorem State.indexEntry_start {s : State} (h : s.startsCycle) : s.indexEntry = s.cycleStart := if_pos h

theorem State.indexEntry_work {s : State} (h : ¬s.startsCycle) : s.indexEntry = s.readSlot.indexWork := if_neg h

theorem State.indexEntry_clocked (s : State) : Clocked s s.indexEntry := by
  by_cases h : s.startsCycle
  · rw [State.indexEntry_start h]; exact s.cycleStart_clocked
  · rw [State.indexEntry_work h]; exact s.readSlot_indexWork_clocked

/-! ## The tick (R62) -/

theorem Supervisor.advance_eq {l : Supervisor} (h : l.idx ≤ 19) : l.advance =
    { l with idx := (l.idx + 1) % 20, cyc := if l.idx = 19 then (l.cyc + 1) % 256 else l.cyc, tick := 0 } := by
  unfold Supervisor.advance
  by_cases h19 : l.idx = 19
  · simp [h19]
  · have hm : (l.idx + 1) % 20 = l.idx + 1 := Nat.mod_eq_of_lt (by omega)
    simp [h19, hm, show ¬19 ≤ l.idx by omega]

/-- The clock advanced, before the entry of its new index (R62). -/
def State.ticked (s : State) : State := { s with line := s.line.advance }

theorem exec_cycleTick {s : State} (h : s.powered = true) : exec .cycleTick s = .next s.ticked.indexEntry.sendBeacon :=
  State.run_powered State.cycleTick h

theorem State.sendBeacon_ends (s : State) : Quiet s.indexEntry s.indexEntry.sendBeacon := State.sendBeacon_quiet _

/-! ## The slot boundary (R63, R143) -/

theorem exec_slotBoundary {s : State} (h : s.powered = true) : exec .slotBoundary s = .next s.slotBoundary := State.run_powered _ h

/-- A slot lies in the window of a group when it is one of the n slots from slot 25 k on (R143). -/
theorem inWindow_iff {k n slot : Nat} (hs : slot < 100) (hn : n ≤ 100) :
    inWindow k n slot = true ↔ ∃ i, i < n ∧ (25 * k + i) % 100 = slot := by
  rw [inWindow, decide_eq_true_eq]
  refine ⟨fun h => ⟨_, h, by omega⟩, ?_⟩
  rintro ⟨i, hi, hm⟩
  omega

theorem State.slotBoundary_moves {s : State} {j : Nat} (hj : j < 4) (hs : s.heater.slot = 5 * s.line.idx + j)
    (ht : s.line.tick ≤ 20 * (j + 1)) :
    s.slotBoundary = ({ s with line := { s.line with tick := 20 * (j + 1) } } : State).readSlot := by
  have hp : s.heater.slot - 5 * s.line.idx = j := by omega
  have hm : max s.line.tick (20 * (j + 1)) = 20 * (j + 1) := Nat.max_eq_right ht
  unfold State.slotBoundary
  simp only [hp, hj, if_true, hm]

/-! ## The grant chosen (R139 to R141) -/

theorem State.missedGrant_chooses (s : State) :
    (s.missedGrant.heater.applied, s.missedGrant.heater.source, s.missedGrant.heater.missed) =
      if s.heater.missed ≤ 1 then (s.heater.applied, .held, s.heater.missed + 1) else (s.fallbackGrant, .fallback, 3) := by
  unfold State.missedGrant
  split <;> rw [(State.count_quiet 13 _).heater] <;> rfl

/-- Grant, source and missed count after the choice (R139). -/
theorem State.chooseGrant_chooses (c : Nat) (s : State) :
    ((s.chooseGrant c).heater.applied, (s.chooseGrant c).heater.source, (s.chooseGrant c).heater.missed) =
      if s.census.cs = .settled then
        match s.heater.staged with
        | some g => if g.cyc = c then (g.grant, .onTime, 0) else if g.cyc = prevCycle c then (g.grant, .late, 0)
            else if s.heater.missed ≤ 1 then (s.heater.applied, .held, s.heater.missed + 1) else (s.fallbackGrant, .fallback, 3)
        | none => if s.heater.missed ≤ 1 then (s.heater.applied, .held, s.heater.missed + 1) else (s.fallbackGrant, .fallback, 3)
      else (s.fallbackGrant, .fallback, 3) := by
  have hm := s.missedGrant_chooses
  unfold State.chooseGrant
  by_cases hs : s.settled = true
  · have hc : s.census.cs = .settled := by simpa [State.settled] using hs
    rw [if_pos hs, if_pos hc]
    cases s.heater.staged with
    | none => exact hm
    | some g =>
      dsimp only
      split
      · rfl
      · split
        · rw [(State.count_quiet 14 _).heater]; rfl
        · exact hm
  · have hc : s.census.cs ≠ .settled := by simpa [State.settled] using hs
    rw [if_neg hs, if_neg hc]
    rfl

/-- Nothing of the heater switch but its groups differs. -/
def OnlyGroups (s t : State) : Prop := t.heater = { s.heater with groups := t.heater.groups }

theorem OnlyGroups.trans {s t u : State} (h : OnlyGroups s t) (k : OnlyGroups t u) : OnlyGroups s u := by
  unfold OnlyGroups at h k ⊢
  rw [k, h]

theorem OnlyGroups.quiet {s t u : State} (h : OnlyGroups s t) (q : Quiet t u) : OnlyGroups s u :=
  h.trans (by unfold OnlyGroups; rw [q.heater])

theorem State.changeGroup_onlyGroups (k : Nat) (f : Group → Group) (s : State) : OnlyGroups s (s.changeGroup k f) := rfl

theorem State.setOutputs_onlyGroups (s : State) : OnlyGroups s s.setOutputs := rfl

theorem State.strikeTest_onlyGroups (k : Nat) (fails : Bool) (s : State) : OnlyGroups s (s.strikeTest k fails) := by
  unfold State.strikeTest
  split
  · split
    · exact (((State.changeGroup_onlyGroups k _ s).trans (State.setOutputs_onlyGroups _)).quiet (State.count_quiet 11 _)).quiet
        (State.raise_quiet _ _)
    · exact State.changeGroup_onlyGroups k _ s
  · exact State.changeGroup_onlyGroups k _ s

theorem State.openTest_onlyGroups (k : Nat) (fails : Bool) (s : State) : OnlyGroups s (s.openTest k fails) := by
  unfold State.openTest
  split
  · split
    · rfl
    · exact ((State.changeGroup_onlyGroups k _ s).quiet (State.count_quiet 12 _)).quiet (State.raise_quiet _ _)
  · exact State.changeGroup_onlyGroups k _ s

theorem State.testGroup_onlyGroups (k : Nat) (s : State) : OnlyGroups s (s.testGroup k) := by
  unfold State.testGroup
  dsimp only
  split
  · split
    · exact (State.strikeTest_onlyGroups _ _ s).trans (State.openTest_onlyGroups _ _ _)
    · rfl
  · rfl

/-- The tests of a cycle start change the groups, and the rating formed of them (R138, steps 1 and 2). -/
theorem State.tested_heater (s : State) :
    s.tested.heater = { s.heater with groups := s.tested.heater.groups, rating := s.tested.heater.rating } := by
  have h : ∀ (ks : List Nat) (t : State), OnlyGroups t (ks.foldl (fun acc k => State.testGroup k acc) t) := fun ks => by
    induction ks with
    | nil => exact fun t => rfl
    | cons k ks ih => exact fun t => (State.testGroup_onlyGroups k t).trans (ih _)
  have e := h [0, 1, 2, 3] s
  unfold OnlyGroups at e
  generalize ht : List.foldl (fun acc k => State.testGroup k acc) s [0, 1, 2, 3] = t at e
  have hs : s.tested = t.formR := congrArg State.formR ht
  rw [hs]
  unfold State.formR
  rw [e]

theorem State.formDuty_getElem? {s : State} {k : Nat} {g : Group} (h : s.formDuty.heater.groups[k]? = some g) :
    g.n = if g.st = .enabled then
        (if s.sense.supervised k then (dutyOf s.heater.applied s.heater.rating + 5) / 10
          else min ((dutyOf s.heater.applied s.heater.rating + 5) / 10) 25)
      else 0 := by
  simp only [State.formDuty, onSlotsFrom_eq, List.getElem?_mapIdx, Nat.zero_add] at h
  obtain ⟨x, -, rfl⟩ := Option.map_eq_some_iff.mp h
  rfl

/-- The slot read and the cycle ended leave duty, grant and demand, and of each group all but the output (R138). -/
theorem State.readSlot_getElem? {s : State} {k : Nat} {g : Group} (h : s.readSlot.heater.groups[k]? = some g) :
    ∃ x, s.heater.groups[k]? = some x ∧ x.n = g.n ∧ x.st = g.st := by
  simp only [State.readSlot, State.setOutputs, setOutputsFrom_eq, List.getElem?_mapIdx] at h
  obtain ⟨x, hx, rfl⟩ := Option.map_eq_some_iff.mp h
  exact ⟨x, hx, rfl, rfl⟩

/-! ## The beacon at the line supervisor (R65, R67) and the census controller (R52) -/

theorem exec_beaconTaken {s : State} {d : Delivery} {rest : List Delivery} (h : s.holds 4 d rest) :
    exec .beaconTaken s = .next (({ s with delivered := rest } : State).takeBeacon d.frame) := State.run_takeDelivered h

theorem State.takeBeacon_read {f : Frame} {b : BeaconIn} (h : readBeacon f.payload = some b) (s : State) :
    s.takeBeacon f = (s.supervisorBeacon f.epoch b).censusBeacon f.epoch := by
  unfold State.takeBeacon
  rw [h]

/-- The clock as a beacon sets it (R65). -/
def State.aligned (b : BeaconIn) (s : State) : State := { s with line := { s.line with idx := b.idx, cyc := b.cyc, tick := 0 } }

/-- The realignment is that of an index entry of the beacon's pair (R63, R65). -/
theorem State.realign_clocked (b : BeaconIn) (s : State) : Clocked (s.aligned b) (s.realign b) := by
  unfold State.realign
  dsimp only
  split
  · exact (s.aligned b).readSlot_clocked
  · exact (s.aligned b).indexEntry_clocked

/-- Whatever a beacon does for supervision, a node that is not a lead in HOLDING has the clock of the beacon after it (R65, R67). -/
theorem State.supervisorBeacon_aligned {epoch : Nat} {b : BeaconIn} {s : State} (hl : s.census.lead ≠ .holding) (hb : b.idx ≤ 19) :
    let t := s.supervisorBeacon epoch b
    t.line.idx = b.idx ∧ t.line.cyc = b.cyc ∧ t.line.tick = 0 ∧ t.heater.slot = 5 * b.idx := by
  have c := State.realign_clocked b s
  have hline := c.line
  have hslot : (s.realign b).heater.slot = 5 * b.idx := c.slot.trans (by simp [Supervisor.slotPosition, State.aligned])
  have hh : ¬(s.holding = true ∨ 19 < b.idx) := by simp [State.holding, hl]; omega
  unfold State.supervisorBeacon
  rw [if_neg hh]
  intro t
  have key : t = s.realign b ∨ t = (s.realign b).acceptBeacon b.flag := by
    exact (ite_eq_or_eq _ _ _).symm
  rcases key with e | e <;> rw [e]
  · rw [hline]; exact ⟨rfl, rfl, rfl, hslot⟩
  · rw [State.acceptBeacon_line, hline, (State.acceptBeacon_eventful _ _).heater]; exact ⟨rfl, rfl, rfl, hslot⟩

theorem State.supervisorBeacon_keeps (epoch : Nat) (b : BeaconIn) (s : State) :
    (s.supervisorBeacon epoch b).census = s.census ∧ (s.supervisorBeacon epoch b).delivered = s.delivered := by
  have c := State.realign_clocked b s
  rcases s.supervisorBeacon_cases epoch b with h | ⟨_, _, h⟩ | ⟨_, _, _, _, h⟩ <;> rw [h]
  · exact ⟨rfl, rfl⟩
  · exact ⟨c.census, c.delivered⟩
  · exact ⟨(State.acceptBeacon_census _ _).trans c.census, (State.acceptBeacon_eventful _ _).delivered.trans c.delivered⟩

/-- At a SETTLED member a beacon of the installed epoch is accepted, any other one realigns alone (R65, R67). -/
theorem State.supervisorBeacon_settled {epoch : Nat} {b : BeaconIn} {s : State} (hl : s.census.lead = .off) (hs : s.census.cs = .settled)
    (hb : b.idx ≤ 19) : s.supervisorBeacon epoch b =
      if epoch = s.census.epoch then (s.realign b).acceptBeacon b.flag else s.realign b := by
  have c := (State.realign_clocked b s).census
  have hh : ¬(s.holding = true ∨ 19 < b.idx) := by simp [State.holding, hl]; omega
  unfold State.supervisorBeacon
  rw [if_neg hh]
  simp only [State.settled, c, State.aligned, hs, hl, decide_true, true_and]

theorem State.censusBeacon_lead {s : State} (h : s.census.lead ≠ .off) (epoch : Nat) : s.censusBeacon epoch = s :=
  if_pos (decide_eq_true h)

/-- A node with another census record only in the census, as the beacon of an unknown epoch leaves it (R52). -/
def State.disarmed (s : State) : State := { s with census := { s.census with staleArmed := false } }

theorem State.notLead {s : State} (h : s.census.lead = .off) : ¬s.isLead = true := by simp [State.isLead, h]

theorem State.censusBeacon_settled {epoch : Nat} {s : State} (hl : s.census.lead = .off) (hs : s.census.cs = .settled) :
    s.censusBeacon epoch = if epoch = s.census.epoch then s else (s.enterCensus .stale).seeTopology.sendTopologyChange .epochMismatch := by
  rw [State.censusBeacon, if_neg (State.notLead hl), hs]

theorem State.censusBeacon_survey {epoch : Nat} {s : State} (hl : s.census.lead = .off) (hs : s.census.cs = .survey) :
    s.censusBeacon epoch = s := by
  rw [State.censusBeacon, if_neg (State.notLead hl), hs]

theorem State.censusBeacon_adrift {epoch : Nat} {s : State} (hl : s.census.lead = .off) (hs : s.census.cs = .stale ∨ s.census.cs = .detached) :
    s.censusBeacon epoch = if s.census.staleArmed = true then (s.seeTopology.sendTopologyChange .notInTable).disarmed else s := by
  rw [State.censusBeacon, if_neg (State.notLead hl)]
  rcases hs with hs | hs <;> rw [hs] <;> rfl

/-- The census controller leaves the clock (R52). -/
theorem State.censusBeacon_clock (epoch : Nat) (s : State) : let t := s.censusBeacon epoch
    t.line.idx = s.line.idx ∧ t.line.cyc = s.line.cyc ∧ t.line.tick = s.line.tick ∧ t.heater.slot = s.heater.slot := by
  have hslot : (s.censusBeacon epoch).heater.slot = s.heater.slot := by rw [(State.censusBeacon_eventful epoch s).heater]
  by_cases hl : s.census.lead = .off
  · cases hs : s.census.cs
    case settled =>
      refine ⟨?_, ?_, ?_, hslot⟩ <;> rw [State.censusBeacon_settled hl hs] <;> split <;>
        simp [State.enterCensus_line, hs, Supervisor.ended]
    case survey => rw [State.censusBeacon_survey hl hs]; exact ⟨rfl, rfl, rfl, rfl⟩
    case stale | detached =>
      refine ⟨?_, ?_, ?_, hslot⟩ <;> rw [State.censusBeacon_adrift hl (by simp [hs])] <;> split <;> simp [State.disarmed]
  · rw [State.censusBeacon_lead hl]; exact ⟨rfl, rfl, rfl, rfl⟩

end Sys2Proof.Machine
end

section
open Sys2Proof Sys2Proof.Machine

/-- Settles O33: the index entry of the advanced clock, by whether it is a cycle start not yet marked. -/
theorem cycleTickAdvancesClock : Obligations.CycleTickAdvancesClock := by
  intro s hp hi idx cyc
  refine ⟨_, exec_cycleTick hp, ?_⟩
  have hl : s.ticked.line = { s.line with idx := idx, cyc := cyc, tick := 0 } := Supervisor.advance_eq hi
  have q := s.ticked.sendBeacon_ends
  have c := s.ticked.indexEntry_clocked.quiet q
  have hline := c.line
  rw [hl] at hline
  have hslot : s.ticked.line.slotPosition = 5 * idx := by rw [hl]; simp [Supervisor.slotPosition]
  have hs : s.ticked.startsCycle ↔ idx = 0 ∧ s.line.lastStart ≠ some cyc := by rw [State.startsCycle, hl]
  refine ⟨by rw [hline], by rw [hline], by rw [hline], c.slot.trans hslot, fun h => ?_, fun h => ?_, c.frame, c.census, c.doors, c.delivered,
    c.freeCount⟩
  · obtain ⟨h1, h2, h3⟩ := s.ticked.cycleStart_ends
    rw [q.line, q.heater, q.sense, State.indexEntry_start (hs.mpr h)]
    exact ⟨h1.trans (by rw [hl]), h2, h3⟩
  · rw [q.line, State.indexEntry_work (mt hs.mp h), (State.indexWork_keeps_doors _).2, (State.readSlot_heated _).line, hl]

/-- Settles O37: the slot position read at the next 20 ms of the tick, and the window of each group. -/
theorem slotBoundarySetsOutputs : Obligations.SlotBoundarySetsOutputs := by
  intro s j hp hj hs ht
  refine ⟨_, (exec_slotBoundary hp).trans (congrArg _ (State.slotBoundary_moves hj hs ht)), ?_⟩
  have hslot : ({ s.line with tick := 20 * (j + 1) } : Supervisor).slotPosition = 5 * s.line.idx + j + 1 := by
    simp only [Supervisor.slotPosition]
    omega
  generalize hu : ({ s with line := { s.line with tick := 20 * (j + 1) } } : State) = u
  have hl : u.line.slotPosition = 5 * s.line.idx + j + 1 := by rw [← hu]; exact hslot
  have hg : ∀ k, u.readSlot.heater.group k =
      { s.heater.group k with output := inWindow k (s.heater.group k).n (5 * s.line.idx + j + 1) } := fun k => by
    rw [State.readSlot, State.setOutputs_group]
    dsimp only
    rw [hl, ← hu]
    rfl
  have hr : u.readSlot.heater.slot = 5 * s.line.idx + j + 1 := hl
  refine ⟨hr, ?_, ?_, ?_, fun k _ _ h100 hn => ?_, fun k => ?_, ?_⟩
  · rw [← hu]; rfl
  · rw [← hu]; rfl
  · rw [← hu]; rfl
  · rw [hr] at h100 ⊢
    rw [hg k]
    exact inWindow_iff h100 hn
  · rw [hg k]; exact ⟨rfl, rfl⟩
  · rw [← hu]; exact ⟨⟨rfl, rfl, rfl, rfl, rfl⟩, rfl, rfl, rfl, rfl, rfl, rfl, rfl⟩

/-- Settles O35: the grant chosen, and the duty and on-slots formed from it, as the cycle start of the new cycle leaves them. -/
theorem cycleStartAppliesGrant : Obligations.CycleStartAppliesGrant := by
  intro s hp hi hm c before watched
  refine ⟨_, exec_cycleTick hp, ?_⟩
  have hl : s.ticked.line = { s.line with idx := 0, cyc := c, tick := 0 } := by
    refine (Supervisor.advance_eq (by omega)).trans ?_
    rw [if_pos hi, hi]
  have hst : s.ticked.startsCycle := by rw [State.startsCycle, hl]; exact ⟨rfl, hm⟩
  obtain ⟨x, hx⟩ := s.ticked.cycleStart_granted
  have hh : s.ticked.indexEntry.sendBeacon.heater = s.ticked.granted.readSlot.endCycleStart.heater := by
    rw [s.ticked.sendBeacon_ends.heater, State.indexEntry_start hst, hx]
  rw [hh]
  have ht := s.ticked.marked.tested_heated
  have hth := s.ticked.marked.tested_heater
  have hg : s.ticked.granted = (s.ticked.marked.tested.chooseGrant c).formDuty := by rw [State.granted, hl]
  rw [hg]
  generalize s.ticked.marked.tested = u at ht hth
  have hc := State.chooseGrant_chooses c u
  have hk := State.chooseGrant_heated c u
  obtain ⟨g, src, m, -, q⟩ := State.chooseGrant_heater c u
  have hv : (u.chooseGrant c).heater = { u.heater with applied := g, source := src, missed := m } := q.heater
  generalize u.chooseGrant c = v at hc hk hv
  have hrating : v.heater.rating = u.heater.rating := by rw [hv]
  have hD : v.heater.demandD = s.heater.demandD := by rw [hv, hth]; rfl
  have hT : v.heater.demandT = s.heater.demandT := by rw [hv, hth]; rfl
  have hlen : v.formDuty.readSlot.endCycleStart.heater.groups.length = s.heater.groups.length :=
    ((State.endCycleStart_heated _).length.trans ((State.readSlot_heated _).length.trans (State.formDuty_heated v).length)).trans
      (hk.length.trans ht.length)
  have hw : ∀ k, v.sense.supervised k = true ↔ watched k := fun k => by
    rw [Sense.supervised_iff, hk.sense, ht.sense]; rfl
  have hf : u.fallbackGrant = min (u.heater.rating * s.heater.demandD / 100) s.mgmt.working.heat.fallbackCap := by
    rw [State.fallbackGrant, ht.mgmt, hth]; rfl
  refine ⟨?_, rfl, hlen, fun k g' hg' => ?_, hD, hT⟩
  · show (v.heater.applied, v.heater.source, v.heater.missed) = _
    have e1 : u.census.cs = s.census.cs := congrArg Census.cs ht.census
    have e2 : u.heater.staged = s.heater.staged := by rw [hth]; rfl
    have e3 : u.heater.missed = s.heater.missed := by rw [hth]; rfl
    have e4 : u.heater.applied = s.heater.applied := by rw [hth]; rfl
    rw [hc, hf, e1, e2, e3, e4]
    rw [show v.formDuty.readSlot.endCycleStart.heater.rating = u.heater.rating from hrating]
    exact if_congr Iff.rfl (by cases s.heater.staged <;> rfl) rfl
  · obtain ⟨y, hy, hn, hs⟩ := State.readSlot_getElem? (s := v.formDuty) (k := k) (g := g') hg'
    have hyn := State.formDuty_getElem? hy
    rw [hs] at hyn
    rw [← hn]
    refine ⟨fun h1 h2 => ?_, fun h1 h2 => ?_, fun h1 => ?_⟩
    · rw [hyn, if_pos h1, if_pos ((hw k).mpr h2)]; rfl
    · rw [hyn, if_pos h1, if_neg (mt (hw k).mp h2)]; rfl
    · rw [hyn, if_neg h1]

/-- Settles O38: the beacon at the line supervisor and then at the census controller, by lead and census state. -/
theorem beaconRealignsAndSupervises : Obligations.BeaconRealignsAndSupervises := by
  intro s d rest b h hb
  rw [exec_beaconTaken h, State.takeBeacon_read hb]
  generalize hu : ({ s with delivered := rest } : State) = u
  have hc : u.census = s.census := by rw [← hu]
  have hline : u.line = s.line := by rw [← hu]
  have hd : u.delivered = rest := by rw [← hu]
  have hfr : s.sameFrame u := by rw [← hu]; exact ⟨rfl, rfl, rfl, rfl, rfl⟩
  obtain ⟨kc, kd⟩ := u.supervisorBeacon_keeps d.frame.epoch b
  rw [hc] at kc
  rw [hd] at kd
  have kf := State.sameFrame_trans hfr (State.supervisorBeacon_sameFrame d.frame.epoch b u)
  have ke := State.censusBeacon_eventful d.frame.epoch (u.supervisorBeacon d.frame.epoch b)
  have ra := (State.realign_clocked b u).line
  refine ⟨fun hl => ?_, fun hl hi => ⟨_, rfl, ?_⟩, fun hl hi hs he => ⟨_, rfl, ?_⟩, fun hl hi hs he => ⟨_, rfl, ?_⟩, fun hl hs => ⟨_, rfl, ?_⟩,
    fun hl hs => ⟨_, rfl, ?_⟩⟩
  · have e : u.supervisorBeacon d.frame.epoch b = u := if_pos (.inl (by rw [State.holding, hc]; exact decide_eq_true hl))
    rw [e, State.censusBeacon_lead (by rw [hc, hl]; decide)]
  · obtain ⟨a1, a2, a3, a4⟩ := State.supervisorBeacon_aligned (epoch := d.frame.epoch) (s := u) (hc ▸ hl) hi
    obtain ⟨b1, b2, b3, b4⟩ := State.censusBeacon_clock d.frame.epoch (u.supervisorBeacon d.frame.epoch b)
    exact ⟨b1.trans a1, b2.trans a2, b3.trans a3, b4.trans a4, State.sameFrame_trans kf ke.sameFrame, ke.delivered.trans kd⟩
  · rw [State.censusBeacon_settled (by rw [kc]; exact hl) (by rw [kc]; exact hs), if_pos (by rw [kc]; exact he)]
    refine ⟨?_, ?_, ?_, ?_, kc⟩ <;>
      rw [State.supervisorBeacon_settled (by rw [hc]; exact hl) (by rw [hc]; exact hs) hi, if_pos (by rw [hc]; exact he),
        State.acceptBeacon_line, ra] <;> simp [Supervisor.accepted, State.aligned, hline, Config.supervisionMs]
  · have hne : ¬d.frame.epoch = (u.supervisorBeacon d.frame.epoch b).census.epoch := by rw [kc]; exact he
    have hse : u.supervisorBeacon d.frame.epoch b = u.realign b := by
      rw [State.supervisorBeacon_settled (by rw [hc]; exact hl) (by rw [hc]; exact hs) hi, if_neg (by rw [hc]; exact he)]
    rw [State.censusBeacon_settled (by rw [kc]; exact hl) (by rw [kc]; exact hs), if_neg hne]
    have hend : ((u.supervisorBeacon d.frame.epoch b).enterCensus .stale).line = (u.realign b).line.ended := by
      rw [State.enterCensus_line, if_pos ⟨by rw [kc]; exact hs, nofun⟩, hse]
    refine ⟨?_, ?_, ?_, ?_, ?_, (State.sendTopologyChange_quiet _ _).flags _ (State.seeTopology_sets _)⟩
    · simp [kc, Census.entering, hs]
    all_goals simp [hend, Supervisor.ended]
    rw [ra]
    exact (congrArg Supervisor.zsp hline :)
  · rw [State.censusBeacon_adrift (by rw [kc]; exact hl) (by rw [kc]; exact hs), kc]
    split
    · rename_i ha
      refine ⟨?_, ?_, State.sameFrame_trans kf ?_, fun _ => ?_⟩
      · simp [State.disarmed, kc]
      · simp [State.disarmed, kd]
      · exact State.sameFrame_trans ((State.seeTopology_quiet _).trans (State.sendTopologyChange_quiet _ _)).eventful.sameFrame
          ⟨rfl, rfl, rfl, rfl, rfl⟩
      · exact (State.sendTopologyChange_quiet .notInTable _).flags _ (State.seeTopology_sets _)
    · rename_i ha
      refine ⟨?_, kd, kf, fun z => absurd z ha⟩
      rw [kc]
      have : s.census.staleArmed = false := by simpa using ha
      rw [← this]
  · rw [State.censusBeacon_survey (by rw [kc]; exact hl) (by rw [kc]; exact hs)]
    exact ⟨kc, kd⟩

end

section
/-! PROOFS. The current tests of a cycle start (O36): which codes count, and what the test of one group leaves of the others. -/

namespace Sys2Proof.Machine

/-! ## A counter that an operation leaves -/

/-- The counter of a code is the same. -/
def Uncounted (code : Nat) (s t : State) : Prop := t.events.counters[code]? = s.events.counters[code]?

theorem Uncounted.trans {code : Nat} {s t u : State} (h : Uncounted code s t) (k : Uncounted code t u) : Uncounted code s u :=
  Eq.trans k h

/-- A code that neither a dropped frame nor a lost message counts. -/
def Apart (code : Nat) : Prop := code ≠ 2 ∧ code ≠ 3 ∧ code ≠ 4 ∧ code ≠ 15

theorem Events.bump_getElem? (e : Events) (d code : Nat) :
    (e.bump d).counters[code]? = if d = code then e.counters[code]?.map Counter.up else e.counters[code]? := by
  unfold Events.bump
  split
  · rw [List.getElem?_modify]
    split
    · rfl
    · simp
  · rename_i h
    split
    · rename_i e'; subst e'; rw [List.getElem?_eq_none (Nat.le_of_not_lt h)]; rfl
    · rfl

section
variable {code : Nat} (ha : Apart code) {count : Nat → State → State} (hc : ∀ d s, d ≠ code → Uncounted code s (count d s))
include ha hc

theorem State.offer_uncounted (p : Port) (u : Bool) (f : Frame) (s : State) : Uncounted code s (s.offer count p u f) := by
  unfold State.offer
  split
  · cases p <;> rfl
  · refine hc _ _ ?_
    split
    · exact ha.2.1.symm
    · exact ha.1.symm

theorem State.sendOne_uncounted (p : Port) (u : Bool) (f : Frame) (s : State) : Uncounted code s (s.sendOne count p u f) := by
  unfold State.sendOne
  split
  · exact State.offer_uncounted ha hc _ _ _ s
  · split
    · rfl
    · exact hc _ _ ha.2.2.1.symm

theorem State.sendCopy_uncounted (p : Port) (u : Bool) (f : Frame) (s : State) : Uncounted code s (s.sendCopy count p u f) := by
  unfold State.sendCopy
  split
  · exact State.offer_uncounted ha hc _ _ _ s
  · rfl

theorem State.originateWith_uncounted (m : Sending) (l : Leave) (s : State) : Uncounted code s (s.originateWith count m l) := by
  unfold State.originateWith
  split
  · rfl
  · cases l with
    | one p => exact State.sendOne_uncounted ha hc _ _ _ s
    | both => exact (State.sendCopy_uncounted ha hc _ _ _ s).trans (State.sendCopy_uncounted ha hc _ _ _ _)

theorem State.offerMessage_uncounted (m : Message) (s : State) : Uncounted code s (s.offerMessage count m) := by
  unfold State.offerMessage
  split
  · rfl
  · exact hc _ _ ha.2.2.2.symm

theorem State.sendNotice_uncounted (f : Flag) (s : State) : Uncounted code s (s.sendNotice count f) := by
  unfold State.sendNotice
  dsimp only
  split
  · exact State.offerMessage_uncounted ha hc _ s
  · exact (State.offerMessage_uncounted ha hc _ s).trans (State.originateWith_uncounted ha hc _ _ _)

end

/-- What a count does beside its own counter, it does by raising conditions (R164). -/
theorem State.countWith_bumps {code : Nat} {raise : Flag → State → State} (hr : ∀ f s, Uncounted code s (raise f s)) (d : Nat) (s : State) :
    Uncounted code { s with events := s.events.bump d } (State.countWith raise d s) := by
  unfold State.countWith
  dsimp only
  by_cases h : d < s.events.counters.length
  · rw [if_pos h]
    split
    · exact hr _ _
    · rfl
  · rw [if_neg h]
    split
    · exact (hr _ _).trans (hr _ _)
    · exact hr _ _

theorem State.countWith_uncounted {code : Nat} {raise : Flag → State → State} (hr : ∀ f s, Uncounted code s (raise f s)) {d : Nat}
    (hd : d ≠ code) (s : State) : Uncounted code s (State.countWith raise d s) :=
  Eq.trans (State.countWith_bumps hr d s) ((s.events.bump_getElem? d code).trans (if_neg hd))

theorem State.raiseFuel_uncounted {code : Nat} (ha : Apart code) : ∀ (n : Nat) (f : Flag) (s : State), Uncounted code s (State.raiseFuel n f s)
  | 0, _, _ => rfl
  | n + 1, f, s => by
    unfold State.raiseFuel
    split
    · rfl
    · split
      · exact State.sendNotice_uncounted ha (fun d s hd => State.countWith_uncounted (State.raiseFuel_uncounted ha n) hd s) f (s.setFlag f)
      · rfl

section
variable {code : Nat} (ha : Apart code)
include ha

/-- A condition that arises counts nothing but lost messages and dropped frames (R169). -/
theorem State.raise_uncounted (f : Flag) (s : State) : Uncounted code s (s.raise f) := State.raiseFuel_uncounted ha 3 f s

theorem State.count_uncounted {d : Nat} (hd : d ≠ code) (s : State) : Uncounted code s (s.count d) :=
  State.countWith_uncounted (State.raise_uncounted ha) hd s

/-- An event counted at a code moves its counter by one (R164). -/
theorem State.count_up (s : State) : (s.count code).events.counters[code]? = s.events.counters[code]?.map Counter.up :=
  Eq.trans (State.countWith_bumps (State.raise_uncounted ha) code s) ((s.events.bump_getElem? code code).trans (if_pos rfl))

theorem State.originate_uncounted (m : Sending) (l : Leave) (s : State) : Uncounted code s (s.originate m l) :=
  State.originateWith_uncounted ha (fun _ s hd => State.count_uncounted ha hd s) m l s

end

/-! ## The test of one group (R146, R147) -/

/-- The verdict on a group at a cycle start: none where it is not tested, and otherwise whether overcurrent and open circuit stand. -/
def State.verdict (s : State) (k : Nat) : Option (Bool × Bool) :=
  if (s.heater.group k).st = .enabled ∧ 4 ≤ (s.sense.onWin k).count then
    (s.sense.onCurrent k).map fun c =>
      (overcurrent c (s.mgmt.working.heat.rating k) (s.sense.onWin k).window, openCircuit c (s.mgmt.working.heat.rating k))
  else none

/-- A group without its output, which is a matter of the slot (R143). -/
def Group.core (g : Group) : Group := { g with output := false }

/-- A group after the overcurrent test with its result (R146). -/
def Group.struck (high : Bool) (g : Group) : Group :=
  if high then
    if 2 ≤ g.strikes then { g with st := .failed, n := 0, output := false, strikes := 3 } else { g with strikes := g.strikes + 1 }
  else { g with strikes := 0 }

/-- A group after its tests with their verdict (R146, R147). -/
def Group.judged (v : Option (Bool × Bool)) (g : Group) : Group :=
  match v with
  | none => g
  | some (high, opens) => { g.struck high with openFlag := opens }

/-- Whether a verdict takes a group to FAILED (R146). -/
def Group.fails (v : Option (Bool × Bool)) (g : Group) : Bool :=
  match v with
  | none => false
  | some (high, _) => high && decide (2 ≤ g.strikes)

/-- Whether a verdict sets a group's open flag where it was clear (R147). -/
def Group.opens (v : Option (Bool × Bool)) (g : Group) : Bool :=
  match v with
  | none => false
  | some (_, opens) => opens && !g.openFlag

/-- The tests read the same of both states: the table, and of each channel window, count and current. -/
structure SameReadings (s t : State) : Prop where
  heat : t.mgmt.working.heat = s.mgmt.working.heat
  window : ∀ k, (t.sense.onWin k).window = (s.sense.onWin k).window
  count : ∀ k, (t.sense.onWin k).count = (s.sense.onWin k).count
  current : ∀ k, t.sense.onCurrent k = s.sense.onCurrent k

theorem SameReadings.refl (s : State) : SameReadings s s := ⟨rfl, fun _ => rfl, fun _ => rfl, fun _ => rfl⟩

theorem SameReadings.trans {s t u : State} (h : SameReadings s t) (k : SameReadings t u) : SameReadings s u :=
  ⟨k.heat.trans h.heat, fun j => (k.window j).trans (h.window j), fun j => (k.count j).trans (h.count j),
    fun j => (k.current j).trans (h.current j)⟩

theorem SameReadings.quiet {s t u : State} (h : SameReadings s t) (q : Quiet t u) : SameReadings s u :=
  h.trans ⟨by rw [q.mgmt], fun _ => by rw [q.sense], fun _ => by rw [q.sense], fun _ => by rw [q.sense]⟩

theorem State.setOutputs_sameReadings (s : State) : SameReadings s s.setOutputs := by
  have hw : ∀ k, (s.setOutputs.sense.onWin k).window = (s.sense.onWin k).window := fun k => by rw [State.setOutputs_onWin]; split <;> rfl
  refine ⟨rfl, hw, fun k => ?_, fun k => ?_⟩
  · rw [State.setOutputs_onWin]; split <;> rfl
  · rw [Sense.onCurrent, hw k]; rfl

theorem SameReadings.verdict {s t : State} (h : SameReadings s t) {k : Nat} (hs : (t.heater.group k).st = (s.heater.group k).st) :
    t.verdict k = s.verdict k := by
  unfold State.verdict
  rw [hs, h.heat, h.window, h.count, h.current]

/-- What tests of group `k` do: the group becomes `g`, the others stand, and codes 11 and 12 are counted, with their flags set, where the
tests fail. -/
structure Tried (k : Nat) (g : Group) (fails opens : Bool) (s t : State) : Prop where
  readings : SameReadings s t
  heated : Heated s t
  self : (t.heater.group k).core = g.core
  others : ∀ j, j ≠ k → (t.heater.group j).core = (s.heater.group j).core
  failed : t.events.counters[11]? = if fails then s.events.counters[11]?.map Counter.up else s.events.counters[11]?
  opened : t.events.counters[12]? = if opens then s.events.counters[12]?.map Counter.up else s.events.counters[12]?
  failFlag : fails = true → hasFlag t.notices.flags .groupFailed = true
  openFlag : opens = true → hasFlag t.notices.flags .groupOpen = true

theorem Tried.still {k : Nat} {s : State} : Tried k (s.heater.group k) false false s s :=
  ⟨SameReadings.refl s, Heated.refl s, rfl, fun _ _ => rfl, rfl, rfl, nofun, nofun⟩

/-- A change of one group that nothing reports. -/
theorem State.changeGroup_tried {k : Nat} {s : State} (hk : k < s.heater.groups.length) {f : Group → Group} {g : Group}
    (hf : f (s.heater.group k) = g) : Tried k g false false s (s.changeGroup k f) :=
  ⟨⟨rfl, fun _ => rfl, fun _ => rfl, fun _ => rfl⟩, State.changeGroup_heated k f s,
    congrArg Group.core ((State.changeGroup_group_self hk).trans hf),
    fun _ hj => congrArg Group.core (State.changeGroup_group_ne hj), rfl, rfl, nofun, nofun⟩

theorem Tried.setOutputs {k : Nat} {g : Group} {s t : State} (h : Tried k g false false s t) : Tried k g false false s t.setOutputs := by
  have hc : ∀ j, (t.setOutputs.heater.group j).core = (t.heater.group j).core := fun j => by rw [State.setOutputs_group]; rfl
  exact ⟨h.readings.trans t.setOutputs_sameReadings, h.heated.trans t.setOutputs_heated, (hc k).trans h.self,
    fun j hj => (hc j).trans (h.others j hj), h.failed, h.opened, nofun, nofun⟩

theorem apart_failed : Apart 11 := ⟨by decide, by decide, by decide, by decide⟩
theorem apart_opened : Apart 12 := ⟨by decide, by decide, by decide, by decide⟩

/-- Code 11 and GROUP_FAILED after a change (R146). -/
theorem Tried.reportFailed {k : Nat} {g : Group} {s t : State} (h : Tried k g false false s t) :
    Tried k g true false s ((t.count 11).raise .groupFailed) := by
  have q := (State.count_quiet 11 t).trans (State.raise_quiet .groupFailed _)
  refine ⟨h.readings.quiet q, h.heated.trans q.heated, by rw [q.heater]; exact h.self, fun j hj => by rw [q.heater]; exact h.others j hj, ?_, ?_,
    fun _ => State.raise_sets _ _, nofun⟩
  · rw [State.raise_uncounted apart_failed, State.count_up apart_failed, h.failed]; rfl
  · rw [State.raise_uncounted apart_opened, State.count_uncounted apart_opened (by decide), h.opened]

/-- Code 12 and GROUP_OPEN after a change (R147). -/
theorem Tried.reportOpen {k : Nat} {g : Group} {s t : State} (h : Tried k g false false s t) :
    Tried k g false true s ((t.count 12).raise .groupOpen) := by
  have q := (State.count_quiet 12 t).trans (State.raise_quiet .groupOpen _)
  refine ⟨h.readings.quiet q, h.heated.trans q.heated, by rw [q.heater]; exact h.self, fun j hj => by rw [q.heater]; exact h.others j hj, ?_, ?_,
    nofun, fun _ => State.raise_sets _ _⟩
  · rw [State.raise_uncounted apart_failed, State.count_uncounted apart_failed (by decide), h.failed]
  · rw [State.raise_uncounted apart_opened, State.count_up apart_opened, h.opened]; rfl

/-- The overcurrent test (R146). -/
theorem State.strikeTest_tried {k : Nat} {s : State} (hk : k < s.heater.groups.length) (high : Bool) :
    Tried k ((s.heater.group k).struck high) (high && decide (2 ≤ (s.heater.group k).strikes)) false s (s.strikeTest k high) := by
  unfold State.strikeTest Group.struck
  cases high
  · exact State.changeGroup_tried hk rfl
  · by_cases h2 : 2 ≤ (s.heater.group k).strikes
    · have h3 : 3 ≤ (s.heater.group k).strikes + 1 := by omega
      simp only [h2, h3, if_true, decide_true, Bool.and_true]
      refine Tried.reportFailed (Tried.setOutputs ?_)
      exact State.changeGroup_tried hk rfl
    · have h3 : ¬3 ≤ (s.heater.group k).strikes + 1 := by omega
      simp only [h2, h3, if_true, if_false, decide_false, Bool.and_false]
      exact State.changeGroup_tried hk rfl

/-- The open-circuit test (R147). -/
theorem State.openTest_tried {k : Nat} {s : State} (hk : k < s.heater.groups.length) (opens : Bool) :
    Tried k { s.heater.group k with openFlag := opens } false (opens && !(s.heater.group k).openFlag) s (s.openTest k opens) := by
  unfold State.openTest
  cases opens
  · exact State.changeGroup_tried hk rfl
  · cases ho : (s.heater.group k).openFlag
    · refine Tried.reportOpen ?_
      exact State.changeGroup_tried hk rfl
    · have e : ({ s.heater.group k with openFlag := true } : Group) = s.heater.group k := by rw [← ho]
      rw [e]
      exact Tried.still

/-- The two tests of a group, one after the other. -/
theorem Tried.then {k : Nat} {g : Group} {a b opens : Bool} {s t u : State} (h : Tried k g a false s t)
    (k' : Tried k { t.heater.group k with openFlag := opens } false b t u) : Tried k { g with openFlag := opens } a b s u := by
  refine ⟨h.readings.trans k'.readings, h.heated.trans k'.heated, k'.self.trans ?_, fun j hj => (k'.others j hj).trans (h.others j hj), ?_, ?_,
    fun x => k'.heated.flags _ (h.failFlag x), k'.openFlag⟩
  · exact congrArg (fun x : Group => { x with openFlag := opens }) h.self
  · rw [k'.failed]; exact h.failed
  · rw [k'.opened, h.opened]; rfl

theorem Group.struck_openFlag (high : Bool) (g : Group) : (g.struck high).openFlag = g.openFlag := by
  unfold Group.struck
  split <;> (try split) <;> rfl

theorem State.verdict_absent {s : State} {k : Nat} (h : ¬k < s.heater.groups.length) : s.verdict k = none := by
  have : s.heater.group k = Group.absent := by rw [Heater.group_eq, List.getElem?_eq_none (Nat.le_of_not_lt h)]; rfl
  rw [State.verdict, this]
  exact if_neg fun x => by simp [Group.absent] at x

/-- The tests of a group are a matter of its verdict (R146, R147). -/
theorem State.testGroup_verdict (k : Nat) (s : State) : s.testGroup k =
    match s.verdict k with
    | some (high, opens) => (s.strikeTest k high).openTest k opens
    | none => s := by
  unfold State.testGroup State.verdict
  dsimp only
  by_cases h : (s.heater.group k).st = .enabled ∧ 4 ≤ (s.sense.onWin k).count
  · rw [if_pos h]
    cases s.sense.onCurrent k with
    | none => rfl
    | some c => exact if_pos h
  · rw [if_neg h]
    cases s.sense.onCurrent k with
    | none => rfl
    | some c => exact if_neg h

theorem State.testGroup_tried (k : Nat) (s : State) :
    Tried k ((s.heater.group k).judged (s.verdict k)) ((s.heater.group k).fails (s.verdict k)) ((s.heater.group k).opens (s.verdict k)) s
      (s.testGroup k) := by
  rw [State.testGroup_verdict]
  cases hv : s.verdict k with
  | none => exact Tried.still
  | some v =>
    obtain ⟨high, opens⟩ := v
    have hk : k < s.heater.groups.length := by
      by_contra hn
      rw [State.verdict_absent hn] at hv
      exact absurd hv (by simp)
    have h1 := State.strikeTest_tried hk high
    have h2 := State.openTest_tried (s := s.strikeTest k high) (k := k) (by rw [(State.strikeTest_heated _ _ s).length]; exact hk) opens
    have ho : ((s.strikeTest k high).heater.group k).openFlag = (s.heater.group k).openFlag :=
      (congrArg Group.openFlag h1.self :).trans (Group.struck_openFlag high _)
    rw [ho] at h2
    exact h1.then h2

/-! ## The tests of all groups -/

/-- The counter of a code after as many events. -/
def counted (n : Nat) (c : Option Counter) : Option Counter := (Option.map Counter.up)^[n] c

/-- What the tests of some groups do. -/
structure AllTried (ks : List Nat) (s t : State) : Prop where
  readings : SameReadings s t
  heated : Heated s t
  group : ∀ k, k ∈ ks → (t.heater.group k).core = ((s.heater.group k).judged (s.verdict k)).core
  others : ∀ k, k ∉ ks → (t.heater.group k).core = (s.heater.group k).core
  failed : t.events.counters[11]? = counted (ks.countP fun k => (s.heater.group k).fails (s.verdict k)) s.events.counters[11]?
  opened : t.events.counters[12]? = counted (ks.countP fun k => (s.heater.group k).opens (s.verdict k)) s.events.counters[12]?
  failFlag : ∀ k, k ∈ ks → (s.heater.group k).fails (s.verdict k) = true → hasFlag t.notices.flags .groupFailed = true
  openFlag : ∀ k, k ∈ ks → (s.heater.group k).opens (s.verdict k) = true → hasFlag t.notices.flags .groupOpen = true

theorem counted_ite (b : Bool) (n : Nat) (c : Option Counter) :
    counted n (if b then c.map Counter.up else c) = counted (n + if b then 1 else 0) c := by
  cases b <;> rfl

theorem Group.core_judged {g h : Group} (e : g.core = h.core) (v : Option (Bool × Bool)) : (g.judged v).core = (h.judged v).core := by
  cases g
  cases h
  simp only [Group.core, Group.mk.injEq] at e
  obtain ⟨rfl, rfl, -, rfl, rfl⟩ := e
  cases v with
  | none => rfl
  | some v => simp only [Group.judged, Group.struck]; split <;> (try split) <;> rfl

theorem Group.core_fails {g h : Group} (e : g.core = h.core) (v : Option (Bool × Bool)) : g.fails v = h.fails v := by
  have : g.strikes = h.strikes := (congrArg Group.strikes e :)
  cases v <;> simp [Group.fails, this]

theorem Group.core_opens {g h : Group} (e : g.core = h.core) (v : Option (Bool × Bool)) : g.opens v = h.opens v := by
  have : g.openFlag = h.openFlag := (congrArg Group.openFlag e :)
  cases v <;> simp [Group.opens, this]

theorem State.testGroups_tried (ks : List Nat) (s : State) (hn : ks.Nodup) :
    AllTried ks s (ks.foldl (fun acc k => State.testGroup k acc) s) := by
  induction ks generalizing s with
  | nil => exact ⟨SameReadings.refl s, Heated.refl s, nofun, fun _ _ => rfl, rfl, rfl, nofun, nofun⟩
  | cons k ks ih =>
    obtain ⟨hk, hn⟩ := List.nodup_cons.mp hn
    have h := s.testGroup_tried k
    have r := ih (s.testGroup k) hn
    have core : ∀ j, j ∈ ks → ((s.testGroup k).heater.group j).core = (s.heater.group j).core := fun j hj =>
      h.others j fun e => hk (e ▸ hj)
    have verdict : ∀ j, j ∈ ks → (s.testGroup k).verdict j = s.verdict j := fun j hj =>
      h.readings.verdict (congrArg Group.st (core j hj) :)
    have fails : ∀ j, j ∈ ks → ((s.testGroup k).heater.group j).fails ((s.testGroup k).verdict j) = (s.heater.group j).fails (s.verdict j) :=
      fun j hj => by rw [verdict j hj]; exact Group.core_fails (core j hj) _
    have opens : ∀ j, j ∈ ks → ((s.testGroup k).heater.group j).opens ((s.testGroup k).verdict j) = (s.heater.group j).opens (s.verdict j) :=
      fun j hj => by rw [verdict j hj]; exact Group.core_opens (core j hj) _
    refine ⟨h.readings.trans r.readings, h.heated.trans r.heated, fun j hj => ?_, fun j hj => ?_, ?_, ?_, fun j hj hf => ?_, fun j hj hf => ?_⟩
    · rcases List.mem_cons.mp hj with rfl | hj
      · exact (r.others j hk).trans h.self
      · refine (r.group j hj).trans ?_
        rw [verdict j hj]
        exact Group.core_judged (core j hj) _
    · obtain ⟨h1, h2⟩ := not_or.mp (mt List.mem_cons.mpr hj)
      exact (r.others j h2).trans (h.others j h1)
    · refine r.failed.trans ?_
      rw [List.countP_cons, List.countP_congr fun j hj => by rw [fails j hj], h.failed]
      exact counted_ite _ _ _
    · refine r.opened.trans ?_
      rw [List.countP_cons, List.countP_congr fun j hj => by rw [opens j hj], h.opened]
      exact counted_ite _ _ _
    · rcases List.mem_cons.mp hj with rfl | hj
      · exact r.heated.flags _ (h.failFlag hf)
      · exact r.failFlag j hj ((fails j hj).trans hf)
    · rcases List.mem_cons.mp hj with rfl | hj
      · exact r.heated.flags _ (h.openFlag hf)
      · exact r.openFlag j hj ((opens j hj).trans hf)

/-- The four tests and the rating formed after them (R138, steps 1 and 2). -/
theorem State.tested_allTried (s : State) : AllTried [0, 1, 2, 3] s s.tested := by
  have a := State.testGroups_tried [0, 1, 2, 3] s (by decide)
  have hr : s.tested = ([0, 1, 2, 3].foldl (fun acc k => State.testGroup k acc) s).formR := rfl
  generalize [0, 1, 2, 3].foldl (fun acc k => State.testGroup k acc) s = x at a hr
  rw [hr]
  exact ⟨a.readings.trans ⟨rfl, fun _ => rfl, fun _ => rfl, fun _ => rfl⟩, a.heated.trans x.formR_heated, a.group, a.others, a.failed, a.opened,
    a.failFlag, a.openFlag⟩

/-! ## The cycle start after its tests -/

theorem State.applyGrant_uncounted {code d : Nat} (ha : Apart code) (hd : d ≠ code) (g : Nat) (src : GrantSource) (m : Nat) (s : State) :
    Uncounted code s ((s.applyGrant g src m).count d) :=
  (show Uncounted code s (s.applyGrant g src m) from rfl).trans (State.count_uncounted ha hd _)

theorem State.missedGrant_uncounted {code : Nat} (ha : Apart code) (h13 : 13 ≠ code) (s : State) : Uncounted code s s.missedGrant := by
  unfold State.missedGrant
  split <;> exact State.applyGrant_uncounted ha h13 _ _ _ s

/-- The choice of a grant counts codes 13 and 14 alone (R139, R140). -/
theorem State.chooseGrant_uncounted {code : Nat} (ha : Apart code) (h13 : 13 ≠ code) (h14 : 14 ≠ code) (c : Nat) (s : State) :
    Uncounted code s (s.chooseGrant c) := by
  unfold State.chooseGrant
  split
  · split
    · split
      · rfl
      · split
        · exact State.applyGrant_uncounted ha h14 _ _ _ s
        · exact State.missedGrant_uncounted ha h13 s
    · exact State.missedGrant_uncounted ha h13 s
  · rfl

/-- What a cycle start keeps of its tests (R138). -/
structure FromTests (u t : State) : Prop where
  st : ∀ k, (t.heater.group k).st = (u.heater.group k).st
  strikes : ∀ k, (t.heater.group k).strikes = (u.heater.group k).strikes
  openFlag : ∀ k, (t.heater.group k).openFlag = (u.heater.group k).openFlag
  off : ∀ k, (u.heater.group k).st ≠ .enabled → (t.heater.group k).n = 0 ∧ (t.heater.group k).output = false
  states : t.heater.groups.map Group.st = u.heater.groups.map Group.st
  rating : t.heater.rating = u.heater.rating
  flags : ∀ f, hasFlag u.notices.flags f = true → hasFlag t.notices.flags f = true
  counter : ∀ code, Apart code → 13 ≠ code → 14 ≠ code → Uncounted code u t

theorem FromTests.quiet {u t t' : State} (h : FromTests u t) (q : Quiet t t')
    (hu : ∀ code, Apart code → Uncounted code t t') : FromTests u t' := by
  refine ⟨?_, ?_, ?_, ?_, ?_, ?_, fun f x => q.flags f (h.flags f x), fun c a b d => (h.counter c a b d).trans (hu c a)⟩ <;> rw [q.heater]
  · exact h.st
  · exact h.strikes
  · exact h.openFlag
  · exact h.off
  · exact h.states
  · exact h.rating

/-- The duty formed from a grant, the slot read and the cycle ended (R138, steps 4 and 5). -/
theorem State.formDuty_fromTests (u : State) : FromTests u u.formDuty.readSlot.endCycleStart := by
  have hg : ∀ k, u.formDuty.readSlot.endCycleStart.heater.group k =
      { u.formDuty.heater.group k with output := inWindow k (u.formDuty.heater.group k).n u.formDuty.line.slotPosition } := fun k =>
    State.setOutputs_group k _
  refine ⟨fun k => ?_, fun k => ?_, fun k => ?_, fun k hk => ?_, (State.readSlot_st _).trans (State.formDuty_st u), rfl, fun _ h => h,
    fun _ _ _ _ => rfl⟩
  · rw [hg, State.formDuty_group]
  · rw [hg, State.formDuty_group]
  · rw [hg, State.formDuty_group]
  · have hn : (u.formDuty.heater.group k).n = 0 := by rw [State.formDuty_group]; exact if_neg hk
    rw [hg]
    exact ⟨hn, (congrArg (fun n => inWindow k n _) hn).trans (inWindow_zero k _)⟩

theorem FromTests.grant {u v t : State} (h : FromTests v t) (hv : v.heater.groups = u.heater.groups) (hr : v.heater.rating = u.heater.rating)
    (hf : ∀ f, hasFlag u.notices.flags f = true → hasFlag v.notices.flags f = true)
    (hc : ∀ code, Apart code → 13 ≠ code → 14 ≠ code → Uncounted code u v) : FromTests u t := by
  have hg : ∀ k, v.heater.group k = u.heater.group k := fun k => by rw [Heater.group_eq, hv, Heater.group_eq]
  exact ⟨fun k => (h.st k).trans (by rw [hg]), fun k => (h.strikes k).trans (by rw [hg]), fun k => (h.openFlag k).trans (by rw [hg]),
    fun k x => h.off k (by rw [hg]; exact x), h.states.trans (by rw [hv]), h.rating.trans hr, fun f x => h.flags f (hf f x),
    fun c a b d => (hc c a b d).trans (h.counter c a b d)⟩

theorem State.tested_rating (s : State) : s.tested.heater.rating = ratingOf s.mgmt.working.heat s.tested.heater.groups := by
  rw [← s.tested_heated.mgmt]; rfl

theorem State.chooseGrant_keeps (c : Nat) (s : State) :
    (s.chooseGrant c).heater.groups = s.heater.groups ∧ (s.chooseGrant c).heater.rating = s.heater.rating := by
  obtain ⟨g, src, m, -, q⟩ := State.chooseGrant_heater c s
  rw [q.heater]
  exact ⟨rfl, rfl⟩

theorem State.cycleStart_fromTests (s : State) : FromTests s.marked.tested s.cycleStart := by
  obtain ⟨x, hx⟩ := s.cycleStart_granted
  rw [hx]
  have h : FromTests s.marked.tested (s.granted.readSlot.endCycleStart) := by
    have hk := State.chooseGrant_keeps s.line.cyc s.marked.tested
    exact (State.formDuty_fromTests _).grant hk.1 hk.2 (State.chooseGrant_heated _ _).flags
      fun code a b d => State.chooseGrant_uncounted a b d _ _
  generalize s.granted.readSlot.endCycleStart = y at h
  generalize s.marked.tested = u at h
  exact ⟨h.st, h.strikes, h.openFlag, h.off, h.states, h.rating, h.flags, h.counter⟩

theorem State.cycleStart_summary (s : State) : s.cycleStart.summary.recs = s.summary.recs.map SummaryRecord.older
    ∧ (s.summary.recs ≠ [] → s.cycleStart.summary.proven = (s.holding && s.cycleStart.summary.recs.all SummaryRecord.proves)) := by
  have h := State.heaterCycleStart_heated s.line.cyc s.marked
  rw [State.cycleStart_eq]
  generalize s.marked.heaterCycleStart s.line.cyc = t at h
  have hs : t.summary = s.summary := h.summary
  have hh : t.holding = s.holding := by rw [State.holding, h.census]; rfl
  unfold State.ageSummary
  rw [hs]
  cases hr : s.summary.recs with
  | nil => rw [List.isEmpty_nil, if_pos rfl, hs, hr]; exact ⟨rfl, fun k => absurd rfl k⟩
  | cons r rs =>
    rw [List.isEmpty_cons, if_neg (by decide)]
    refine ⟨rfl, fun _ => ?_⟩
    rw [← hh]
    rfl

theorem State.sendBeacon_uncounted {code : Nat} (ha : Apart code) (s : State) : Uncounted code s s.sendBeacon := by
  unfold State.sendBeacon
  split
  · exact State.originate_uncounted ha _ _ s
  · rfl

/-! ## The readings of a group -/

/-- The on-window current of a group, written out (R151, R155). -/
theorem Sense.onCurrent_eq {c : Sense} {k : Nat} (hk : k < 4) (hw : (c.onWin k).window ≠ []) : c.onCurrent k =
    some ((Int.tdiv ((c.onWin k).window.map BitVec.toInt).sum (c.onWin k).window.length).toNat / (2 * (c.channel k).gain)) := by
  have h4 : k ≠ 4 := by omega
  have h5 : k ≤ 5 := by omega
  have he : (c.onWin k).window.isEmpty = false := by simpa [List.isEmpty_iff] using hw
  simp only [Sense.onCurrent, average, he, Bool.false_eq_true, if_false, Option.map_some, quantity, if_neg h4, if_pos h5, Int.toNat_natCast]

theorem Sense.onCurrent_none {c : Sense} {k : Nat} (hw : (c.onWin k).window = []) : c.onCurrent k = none := by
  simp [Sense.onCurrent, average, hw]

theorem overcurrent_iff (c g : Nat) (w : List Code) :
    overcurrent c g w = true ↔ g * 5 / 4 < c ∨ ∃ x ∈ w, x.toInt = -2048 ∨ x.toInt = 2047 := by
  simp [overcurrent, saturated, List.any_eq_true]

/-- A group that is not ENABLED, or has too few on-samples or none, is not tested. -/
theorem State.verdict_untested {s : State} {k : Nat}
    (h : ¬((s.heater.group k).st = .enabled ∧ 4 ≤ (s.sense.onWin k).count ∧ (s.sense.onWin k).window ≠ [])) : s.verdict k = none := by
  unfold State.verdict
  split
  · rename_i e
    have hw : (s.sense.onWin k).window = [] := by by_contra hn; exact h ⟨e.1, e.2, hn⟩
    rw [Sense.onCurrent_none hw]; rfl
  · rfl

theorem countP_lt_four (p : Nat → Bool) (j : Nat) (hj : j < 4) (h : p j = true) (ho : ∀ k, k < 4 → k ≠ j → p k = false) :
    [0, 1, 2, 3].countP p = 1 := by
  have h0 := ho 0 (by decide)
  have h1 := ho 1 (by decide)
  have h2 := ho 2 (by decide)
  have h3 := ho 3 (by decide)
  obtain rfl | rfl | rfl | rfl : j = 0 ∨ j = 1 ∨ j = 2 ∨ j = 3 := by omega
  all_goals simp_all

theorem countP_lt_four_none (p : Nat → Bool) (h : ∀ k, k < 4 → p k = false) : [0, 1, 2, 3].countP p = 0 :=
  List.countP_eq_zero.mpr fun k hk => by rw [h k (by simp at hk; omega)]; decide

end Sys2Proof.Machine
end

section
open Sys2Proof Sys2Proof.Machine

/-- Settles O36: the verdict on each group at the cycle start, and what it does to the group, the codes and the flags. -/
theorem cycleStartTestsGroups : Obligations.CycleStartTestsGroups := by
  intro s hp hi hm g w limit current tested above fails opens
  refine ⟨_, exec_cycleTick hp, ?_⟩
  have hst : s.ticked.startsCycle := by
    have hl : s.ticked.line.idx = 0 ∧ s.ticked.line.cyc = (s.line.cyc + 1) % 256 ∧ s.ticked.line.lastStart = s.line.lastStart := by
      rw [State.ticked, Supervisor.advance_eq (by omega)]; simp [hi]
    exact ⟨hl.1, by rw [hl.2.1, hl.2.2]; exact hm⟩
  have q := s.ticked.sendBeacon_ends
  have hu : ∀ code, Apart code → Uncounted code s.ticked.indexEntry s.ticked.indexEntry.sendBeacon := fun code a => State.sendBeacon_uncounted a _
  rw [State.indexEntry_start hst] at q hu ⊢
  have hs := s.ticked.cycleStart_summary
  have h := s.ticked.cycleStart_fromTests.quiet q hu
  have a := s.ticked.marked.tested_allTried
  have hsum := q.summary
  generalize s.ticked.cycleStart.sendBeacon = t at h hsum ⊢
  have hr := State.tested_rating s.ticked.marked
  generalize s.ticked.marked.tested = u at a h hr
  have verdict : ∀ k, k < 4 → tested k → s.verdict k = some (decide (above k), decide (current k < limit k / 4)) := fun k hk ht => by
    rw [State.verdict, if_pos ⟨ht.1, ht.2.1⟩, Sense.onCurrent_eq hk ht.2.2]
    exact congrArg some (Prod.ext (Bool.eq_iff_iff.mpr ((overcurrent_iff _ _ _).trans decide_eq_true_iff.symm)) rfl)
  have judged : ∀ k, k < 4 → tested k → (g k).judged (s.verdict k) =
      { (g k).struck (decide (above k)) with openFlag := decide (current k < limit k / 4) } := fun k hk ht => by rw [verdict k hk ht]; rfl
  have untested : ∀ k, ¬tested k → s.verdict k = none := fun k ht => State.verdict_untested ht
  have hcore : ∀ k, k < 4 → (u.heater.group k).core = ((g k).judged (s.verdict k)).core := fun k hk => a.group k (by simp; omega)
  have hst : ∀ k, k < 4 → (t.heater.group k).st = ((g k).judged (s.verdict k)).st := fun k hk =>
    (h.st k).trans (congrArg Group.st (hcore k hk) :)
  have hstrikes : ∀ k, k < 4 → (t.heater.group k).strikes = ((g k).judged (s.verdict k)).strikes := fun k hk =>
    (h.strikes k).trans (congrArg Group.strikes (hcore k hk) :)
  have hopen : ∀ k, k < 4 → (t.heater.group k).openFlag = ((g k).judged (s.verdict k)).openFlag := fun k hk =>
    (h.openFlag k).trans (congrArg Group.openFlag (hcore k hk) :)
  have hfails : ∀ k, k < 4 → ((g k).fails (s.verdict k) = true ↔ fails k) := fun k hk => by
    by_cases ht : tested k
    · rw [verdict k hk ht]; simp [Group.fails, fails, ht]
    · rw [untested k ht]; simp [Group.fails, fails, ht]
  have hopens : ∀ k, k < 4 → ((g k).opens (s.verdict k) = true ↔ opens k) := fun k hk => by
    by_cases ht : tested k
    · rw [verdict k hk ht]; simp [Group.opens, opens, ht]
    · rw [untested k ht]; simp [Group.opens, opens, ht]
  have h11 : t.events.counters[11]? = u.events.counters[11]? := h.counter 11 apart_failed (by decide) (by decide)
  have h12 : t.events.counters[12]? = u.events.counters[12]? := h.counter 12 apart_opened (by decide) (by decide)
  have none11 : (∀ k, k < 4 → ¬fails k) → t.events.counters[11]? = s.events.counters[11]? := fun hn => by
    refine h11.trans (a.failed.trans ?_)
    exact congrArg (fun n => counted n s.events.counters[11]?) (countP_lt_four_none (fun k => (g k).fails (s.verdict k)) fun k hk =>
      Bool.eq_false_iff.mpr (mt (hfails k hk).mp (hn k hk)))
  have none12 : (∀ k, k < 4 → ¬opens k) → t.events.counters[12]? = s.events.counters[12]? := fun hn => by
    refine h12.trans (a.opened.trans ?_)
    exact congrArg (fun n => counted n s.events.counters[12]?) (countP_lt_four_none (fun k => (g k).opens (s.verdict k)) fun k hk =>
      Bool.eq_false_iff.mpr (mt (hopens k hk).mp (hn k hk)))
  refine ⟨fun k hk _ => ⟨fun ht => ?_, fun ht hb => ?_, fun ht hb h2 => ?_, fun hf => ?_, fun ht => ?_, fun ho => ?_⟩, fun _ => none11,
    fun _ => none12, fun j hj _ => ⟨fun hf hn => ?_, fun ho hn => ?_⟩, ?_, ?_, fun hne => ?_⟩
  · rw [hst k hk, hstrikes k hk, hopen k hk, untested k ht]
    exact ⟨rfl, rfl, rfl⟩
  · rw [hst k hk, hstrikes k hk, judged k hk ht, Group.struck, decide_eq_false hb]
    exact ⟨rfl, ht.1⟩
  · rw [hst k hk, hstrikes k hk, judged k hk ht, Group.struck, decide_eq_true hb, if_pos rfl, if_neg (by omega)]
    exact ⟨rfl, ht.1⟩
  · obtain ⟨ht, hb, h2⟩ := id hf
    have hj : (g k).struck (decide (above k)) = { g k with st := .failed, n := 0, output := false, strikes := 3 } := by
      rw [Group.struck, decide_eq_true hb, if_pos rfl, if_pos h2]
    have hs' : (t.heater.group k).st = .failed := by rw [hst k hk, judged k hk ht, hj]
    have hoff := h.off k (by rw [← h.st k, hs']; decide)
    exact ⟨hs', by rw [hstrikes k hk, judged k hk ht, hj], hoff.1, hoff.2, h.flags _ (a.failFlag k (by simp; omega) ((hfails k hk).mpr hf))⟩
  · rw [hopen k hk, judged k hk ht]
    exact decide_eq_true_iff
  · exact h.flags _ (a.openFlag k (by simp; omega) ((hopens k hk).mpr ho))
  · refine h11.trans (a.failed.trans ?_)
    exact congrArg (fun n => counted n s.events.counters[11]?) (countP_lt_four (fun k => (g k).fails (s.verdict k)) j hj
      ((hfails j hj).mpr hf) fun k hk hkj => Bool.eq_false_iff.mpr (mt (hfails k hk).mp (hn k hk hkj)))
  · refine h12.trans (a.opened.trans ?_)
    exact congrArg (fun n => counted n s.events.counters[12]?) (countP_lt_four (fun k => (g k).opens (s.verdict k)) j hj
      ((hopens j hj).mpr ho) fun k hk hkj => Bool.eq_false_iff.mpr (mt (hopens k hk).mp (hn k hk hkj)))
  · rw [h.rating, hr, ratingOf_congr _ h.states]; rfl
  · rw [hsum]; exact hs.1
  · rw [hsum]; exact hs.2 hne

end

section
/-! PROOFS. The frames of the cycle (O34): what a lead and a member send at each index, and at a change of a door side. -/

namespace Sys2Proof.Machine

/-! ## What conditions that arise can do (R164, R168, R169) -/

/-- A relation that holds across whatever leaves census and ports, and across a NOTICE frame that a node without the lead role puts into a
normal queue. -/
structure Tells (R : State → State → Prop) : Prop where
  trans : ∀ {s t u}, R s t → R t u → R s u
  inner : ∀ {s t : State}, t.census = s.census → t.portA = s.portA → t.portB = s.portB → R s t
  queued : ∀ {s : State} {p : Port} {f : Frame} {x : LinePort}, s.isLead = false → s.mated p = true →
    (s.port p).enqueue false f = some x → R s (s.setPort p x)

section
variable {R : State → State → Prop} (h : Tells R)
include h

theorem Tells.refl (s : State) : R s s := h.inner rfl rfl rfl

section
variable {count : Nat → State → State} (hc : ∀ c s, R s (count c s))
include hc

theorem Tells.offer (p : Port) (f : Frame) {s : State} (hl : s.isLead = false) (hm : s.mated p = true) : R s (s.offer count p false f) := by
  unfold State.offer
  split
  · exact h.queued hl hm ‹_›
  · exact hc _ s

theorem Tells.sendOne (p : Port) (f : Frame) {s : State} (hl : s.isLead = false) : R s (s.sendOne count p false f) := by
  unfold State.sendOne
  split
  · exact h.offer hc p f hl ‹_›
  · split
    · exact h.refl s
    · exact hc _ s

theorem Tells.sendCopy (p : Port) (f : Frame) {s : State} (hl : s.isLead = false) : R s (s.sendCopy count p false f) := by
  unfold State.sendCopy
  split
  · exact h.offer hc p f hl ‹_›
  · exact h.refl s

theorem Tells.offerMessage (m : Message) (s : State) : R s (s.offerMessage count m) := by
  unfold State.offerMessage
  split
  · exact h.inner rfl rfl rfl
  · exact hc _ s

theorem Tells.originateWith (hq : ∀ c s, Quiet s (count c s)) {m : Sending} (hm : 7 ≤ m.cls) (h11 : m.cls ≤ 11) (l : Leave) {s : State}
    (hl : s.isLead = false) : R s (s.originateWith count m l) := by
  have hu : (s.complete m).urgent = false := by
    rw [State.complete_eq h11]
    exact decide_eq_false (by omega)
  unfold State.originateWith
  split
  · exact h.refl s
  · dsimp only
    rw [hu]
    cases l with
    | one p => exact h.sendOne hc p _ hl
    | both =>
      have hl' : (s.sendCopy count (s.endPort .one) false (s.complete m)).isLead = false := by
        rw [State.isLead, (State.sendCopy_quiet hq _ _ _ s).census]; exact hl
      exact h.trans (h.sendCopy hc _ _ hl) (h.sendCopy hc _ _ hl')

theorem Tells.sendNotice (hq : ∀ c s, Quiet s (count c s)) (f : Flag) (s : State) : R s (s.sendNotice count f) := by
  have q := State.offerMessage_quiet hq (s.noticeMessage f) s
  have hm := h.offerMessage hc (s.noticeMessage f) s
  unfold State.sendNotice
  dsimp only
  split
  · exact hm
  · rename_i hl
    exact h.trans hm (h.originateWith hc hq (show 7 ≤ 11 by decide) (show 11 ≤ 11 by decide) _ (by
      rw [State.isLead, q.census]; exact Bool.eq_false_iff.mpr hl))

end

theorem Tells.countWith {raise : Flag → State → State} (hr : ∀ f s, R s (raise f s)) (c : Nat) (s : State) :
    R s (State.countWith raise c s) := by
  have h0 : R s { s with events := s.events.bump c } := h.inner rfl rfl rfl
  unfold State.countWith
  dsimp only
  by_cases h1 : c < s.events.counters.length
  · rw [if_pos h1]
    split
    · exact h.trans h0 (hr _ _)
    · exact h0
  · rw [if_neg h1]
    split
    · exact h.trans (h.trans h0 (hr _ _)) (hr _ _)
    · exact h.trans h0 (hr _ _)

theorem Tells.raiseFuel : ∀ (n : Nat) (f : Flag) (s : State), R s (State.raiseFuel n f s)
  | 0, _, _ => h.inner rfl rfl rfl
  | n + 1, f, s => by
    unfold State.raiseFuel
    split
    · exact h.refl s
    · split
      · exact h.trans (h.inner (t := s.setFlag f) rfl rfl rfl) (h.sendNotice (h.countWith (Tells.raiseFuel n))
          (fun c s => State.countWith_quiet (State.raiseFuel_quiet n) c s) f _)
      · exact h.inner rfl rfl rfl

theorem Tells.raise (f : Flag) (s : State) : R s (s.raise f) := h.raiseFuel 3 f s

theorem Tells.count (c : Nat) (s : State) : R s (s.count c) := h.countWith h.raise c s

/-! ## The cycle start: its frames are those of its conditions (R138) -/

theorem Tells.changeGroup (k : Nat) (f : Group → Group) (s : State) : R s (s.changeGroup k f) := h.inner rfl rfl rfl

theorem Tells.strikeTest (k : Nat) (high : Bool) (s : State) : R s (s.strikeTest k high) := by
  have hs (t : State) : R t t.setOutputs := h.inner rfl rfl rfl
  unfold State.strikeTest
  split
  · split
    · exact h.trans (h.trans (h.trans (h.changeGroup k _ s) (hs _)) (h.count 11 _)) (h.raise .groupFailed _)
    · exact h.changeGroup k _ s
  · exact h.changeGroup k _ s

theorem Tells.openTest (k : Nat) (opens : Bool) (s : State) : R s (s.openTest k opens) := by
  unfold State.openTest
  split
  · split
    · exact h.refl s
    · exact h.trans (h.trans (h.changeGroup k _ s) (h.count 12 _)) (h.raise .groupOpen _)
  · exact h.changeGroup k _ s

theorem Tells.testGroups (ks : List Nat) (s : State) : R s (ks.foldl (fun acc k => State.testGroup k acc) s) := by
  induction ks generalizing s with
  | nil => exact h.refl s
  | cons k ks ih =>
    refine h.trans ?_ (ih _)
    show R s (s.testGroup k)
    rw [State.testGroup_verdict]
    cases s.verdict k with
    | none => exact h.refl s
    | some v => exact h.trans (h.strikeTest k v.1 s) (h.openTest k v.2 _)

theorem Tells.chooseGrant (c : Nat) (s : State) : R s (s.chooseGrant c) := by
  have ha (g : Nat) (src : GrantSource) (m : Nat) : R s (s.applyGrant g src m) := h.inner rfl rfl rfl
  have hc (d g : Nat) (src : GrantSource) (m : Nat) : R s ((s.applyGrant g src m).count d) := h.trans (ha g src m) (h.count d _)
  have missed : R s s.missedGrant := by
    unfold State.missedGrant
    split
    · exact hc 13 _ _ _
    · exact hc 13 _ _ _
  unfold State.chooseGrant
  split
  · split
    · split
      · exact ha _ _ _
      · split
        · exact hc 14 _ _ _
        · exact missed
    · exact missed
  · exact ha _ _ _

theorem Tells.granted (s : State) : R s s.granted := by
  have h1 : R s s.marked := h.inner rfl rfl rfl
  have h2 (t : State) : R t t.tested := h.trans (h.testGroups [0, 1, 2, 3] t) (h.inner rfl rfl rfl)
  have h3 (t : State) : R t t.formDuty := h.inner rfl rfl rfl
  exact h.trans (h.trans (h.trans h1 (h2 _)) (h.chooseGrant s.line.cyc _)) (h3 _)

theorem Tells.cycleStart (s : State) : R s s.cycleStart := by
  obtain ⟨x, hx⟩ := s.cycleStart_granted
  have hg := h.granted s
  rw [hx]
  generalize s.granted = t at hg
  exact h.trans hg (h.inner rfl rfl rfl)

end

/-! ## A lead tells its conditions to its own coach alone -/

/-- A node that holds the lead role keeps it, and its ports stand. -/
structure LeadStill (s t : State) : Prop where
  census : t.census = s.census
  ports : s.isLead = true → ∀ p, t.port p = s.port p

theorem LeadStill.trans {s t u : State} (h : LeadStill s t) (k : LeadStill t u) : LeadStill s u :=
  ⟨k.census.trans h.census, fun hl p => (k.ports (by rw [State.isLead, h.census]; exact hl) p).trans (h.ports hl p)⟩

theorem LeadStill.blocks {s t : State} (hc : t.census = s.census) (ha : t.portA = s.portA) (hb : t.portB = s.portB) : LeadStill s t :=
  ⟨hc, fun _ p => by cases p; exacts [ha, hb]⟩

theorem tells_leadStill : Tells LeadStill :=
  ⟨LeadStill.trans, LeadStill.blocks, fun hl _ _ => ⟨State.setPort_census _ _ _, fun k => absurd (hl.symm.trans k) (by decide)⟩⟩

/-- A lead in HOLDING sends nothing at an index entry other than that of index 16 (R99, R120, R128). -/
theorem State.indexEntry_leadStill {s : State} (hh : s.census.lead = .holding) (h16 : s.line.idx ≠ 16) : LeadStill s s.indexEntry := by
  by_cases h : s.startsCycle
  · rw [State.indexEntry_start h]; exact tells_leadStill.cycleStart s
  · rw [State.indexEntry_work h]
    have hr : LeadStill s s.readSlot := .blocks rfl rfl rfl
    refine hr.trans ?_
    have hh' : s.readSlot.holding = true := decide_eq_true hh
    have h16' : s.readSlot.line.idx ≠ 16 := h16
    generalize s.readSlot = t at hh' h16'
    unfold State.indexWork
    split
    · by_cases hs : t.settled = true
      · rw [State.doorStateWork_lead ⟨hs, hh'⟩]; exact .blocks rfl rfl rfl
      · rw [State.doorStateWork, if_neg hs]; exact tells_leadStill.refl t
    · split
      · rw [State.demandWork, if_pos hh']; exact .blocks rfl rfl rfl
      · split
        · rename_i h; exact absurd h.1 h16'
        · exact tells_leadStill.refl t

/-! ## The beacon (R64) -/

theorem State.nonCabPort_congr {s t : State} (h : s.sameFrame t) : t.nonCabPort = s.nonCabPort := by
  obtain ⟨-, -, hs, hm, -⟩ := h
  simp only [State.nonCabPort, State.endPort, hs, hm]

theorem boolByte_eq (b : Bool) : boolByte b = if b then 1 else 0 := by cases b <;> rfl

/-- The beacon as the relay unit completes it. -/
def State.beaconFrame (s : State) : Frame :=
  s.ownFrame 4 .away s.census.epoch .broadcast 0 (byte s.line.idx :: byte s.line.cyc :: (if s.line.zsp then 1 else 0) :: idBytes s.nodeId)

theorem State.complete_beacon (s : State) : s.complete s.beaconSending = s.beaconFrame := by
  rw [State.complete_eq (show 4 ≤ 11 by decide), State.beaconFrame]
  simp only [State.beaconSending, boolByte_eq, List.cons_append, List.nil_append]

theorem State.sendBeacon_ready {s : State} (hb : s.line.beaconOn = true) (h : s.Ready s.nonCabPort) :
    s.sendBeacon = s.begun s.nonCabPort s.beaconFrame := by
  rw [State.sendBeacon, if_pos hb, State.originate,
    State.originateWith_ready (m := s.beaconSending) (s.isOwnDestination_broadcast _) h, State.complete_beacon]

/-- A beacon behind a frame in transmission waits in the urgent queue (R27, R64). -/
theorem State.sendBeacon_busy {s : State} (hb : s.line.beaconOn = true) (hm : s.mated s.nonCabPort = true)
    (ht : (s.port s.nonCabPort).tx ≠ none) (hq : (s.port s.nonCabPort).urgentQ.length < 8) :
    s.sendBeacon = s.setPort s.nonCabPort { s.port s.nonCabPort with urgentQ := (s.port s.nonCabPort).urgentQ ++ [s.beaconFrame] } := by
  have hf : s.complete s.beaconSending = s.beaconFrame := s.complete_beacon
  rw [State.sendBeacon, if_pos hb, State.originate, State.originateWith]
  refine (if_neg (by simp [State.beaconSending, State.isOwnDestination_broadcast])).trans ?_
  dsimp only
  rw [State.sendOne, if_pos hm, State.offer, LinePort.enqueue_busy ht, hf, show s.beaconFrame.urgent = true from rfl, if_pos rfl, if_pos hq]

theorem State.port_stageGrant (g : Grant) (s : State) (p : Port) : (s.stageGrant g).port p = s.port p := by cases p <;> rfl

/-- The computation sends its grants first, and records them (R128, R133). -/
theorem State.compute_ready {s : State} (h : s.Ready s.nonCabPort) :
    ∃ a, s.compute.alloc.last = some a ∧ s.compute.port s.nonCabPort = { s.port s.nonCabPort with
      tx := some (s.ownFrame 8 .away s.census.epoch .broadcast 0 (grantPayload s.census.epoch (nextCycle s.line.cyc) a.grants)) } := by
  obtain ⟨a, ha⟩ : ∃ a, (s.allocation (nextCycle s.line.cyc)).last = some a := ⟨_, rfl⟩
  have hg : s.grants = a.grants := by rw [State.grants, ha]
  have hu : ({ s with alloc := s.allocation (nextCycle s.line.cyc) } : State).Ready s.nonCabPort := h.congr (by cases s.nonCabPort <;> rfl)
  rw [State.compute_eq, hg]
  generalize hv : ({ s with alloc := s.allocation (nextCycle s.line.cyc) } : State) = v at hu
  have hal : v.alloc.last = some a := by rw [← hv]; exact ha
  have hport : v.port s.nonCabPort = s.port s.nonCabPort := by rw [← hv]; cases s.nonCabPort <;> rfl
  have hown : v.ownFrame = s.ownFrame := by rw [← hv]; rfl
  rw [State.originate_ready (show 8 ≤ 11 by decide) (v.isOwnDestination_broadcast _) hu]
  refine ⟨a, ?_, ?_⟩
  · exact (congrArg Allocator.last (State.setPort_alloc _ _ v)).trans hal
  · rw [State.port_stageGrant, State.port_begun, hport, hown]
    rfl

/-! ## The frames of a member by its lead end -/

theorem State.toLead_ready {m : Sending} {s : State} {e : EndNo} (he : s.census.leadEnd = some e) (hc : m.cls ≤ 11)
    (ho : s.isOwnDestination m.destKind m.destVal = false) (h : s.Ready (s.endPort e)) :
    s.toLead m = s.begun (s.endPort e) (s.ownFrame m.cls m.dir m.epoch m.destKind m.destVal m.payload) := by
  rw [State.toLead, he]
  exact State.originate_ready hc ho h

/-- The frames of a SETTLED member with a lead end that is idle. -/
structure State.Member (s : State) (e : EndNo) : Prop where
  lead : s.census.lead = .off
  settled : s.census.cs = .settled
  leadEnd : s.census.leadEnd = some e
  ready : s.Ready (s.endPort e)

theorem State.Member.congr {s t : State} {e : EndNo} (h : s.Member e) (hc : t.census = s.census) (he : t.endPort e = s.endPort e)
    (hp : t.port (s.endPort e) = s.port (s.endPort e)) : t.Member e :=
  ⟨hc ▸ h.lead, hc ▸ h.settled, hc ▸ h.leadEnd, he ▸ h.ready.congr hp⟩

theorem State.doorStatePayload_eq (s : State) : s.doorStateSending.payload = s.doorStatePayload := by
  simp only [State.doorStateSending, State.doorStatePayload, DoorSide.stateBytes, boolByte_eq]

theorem State.doorStateWork_member {s : State} {e : EndNo} (h : s.Member e) :
    s.doorStateWork = s.begun (s.endPort e) (s.ownFrame 6 .toward s.census.epoch .lead 0 s.doorStatePayload) := by
  have hs : s.settled = true := decide_eq_true h.settled
  have hh : ¬s.holding = true := by simp [State.holding, h.lead]
  rw [State.doorStateWork, if_pos hs, if_neg hh,
    State.toLead_ready h.leadEnd (show 6 ≤ 11 by decide) (State.isOwnDestination_lead h.lead _) h.ready, ← State.doorStatePayload_eq]
  rfl

theorem State.demandWork_member {s : State} {e : EndNo} (h : s.Member e) : s.demandWork =
    s.begun (s.endPort e) (s.ownFrame 7 .toward s.census.epoch .lead 0
      ([byte s.census.position, byte s.census.epoch, byte s.line.cyc] ++ be16 s.heater.rating
        ++ [byte s.heater.demandD, if s.mgmt.working.heat.preferred then 1 else 0])) := by
  have hs : s.settled = true := decide_eq_true h.settled
  have hh : ¬s.holding = true := by simp [State.holding, h.lead]
  rw [State.demandWork, if_neg hh, if_pos hs,
    State.toLead_ready h.leadEnd (show 7 ≤ 11 by decide) (State.isOwnDestination_lead h.lead _) h.ready, ← boolByte_eq]
  rfl

/-- A side of a member that changes its state sends DOOR_STATE (R99). -/
theorem State.afterSides_member {s : State} {e : EndNo} (h : s.Member e) {sd : Side} {f : DoorSide → DoorSide}
    (hm : (f (s.doors.side sd)).st ≠ (s.doors.side sd).st) :
    let t := (s.changeSide sd f).afterSides s.doors
    t.port (s.endPort e) =
      { s.port (s.endPort e) with tx := some (s.ownFrame 6 .toward s.census.epoch .lead 0 t.doorStatePayload) } := by
  have hmoved : s.doors.moved (s.changeSide sd f).doors = true := by
    cases sd
    · simp only [Doors.moved, State.changeSide, Bool.not_eq_true', decide_eq_false_iff_not, and_true]; exact hm
    · simp only [Doors.moved, State.changeSide, Bool.not_eq_true', decide_eq_false_iff_not, true_and]; exact hm
  have hc : (s.changeSide sd f).census = s.census := State.changeSide_census _ _ _
  have hp : (s.changeSide sd f).port (s.endPort e) = s.port (s.endPort e) := State.changeSide_ports _ _ _ _
  have he : (s.changeSide sd f).endPort e = s.endPort e := (State.changeSide_eventful sd f s).endPort e
  have hn : (s.changeSide sd f).nodeId = s.nodeId := (State.changeSide_eventful sd f s).nodeId
  rw [State.afterSides_moved hmoved]
  generalize s.changeSide sd f = u at hc hp he hn
  have hu : u.formDerate.Member e := h.congr hc he (by cases hx : s.endPort e <;> rw [hx] at hp <;> exact hp)
  have heu : u.formDerate.endPort e = s.endPort e := he
  intro t
  have ht : t = u.formDerate.begun (s.endPort e) (u.formDerate.ownFrame 6 .toward u.formDerate.census.epoch .lead 0 u.formDerate.doorStatePayload) := by
    rw [← heu]; exact State.doorStateWork_member hu
  have hpay : t.doorStatePayload = u.formDerate.doorStatePayload := by rw [ht]; cases s.endPort e <;> rfl
  have hown : u.formDerate.ownFrame = s.ownFrame := State.ownFrame_congr hc hn
  rw [hpay, ht, State.port_begun, hown, show u.formDerate.census = s.census from hc]
  rw [show u.formDerate.port (s.endPort e) = s.port (s.endPort e) by rw [← hp]; cases s.endPort e <;> rfl]

end Sys2Proof.Machine
end

section
open Sys2Proof Sys2Proof.Machine

/-- Settles O34: the frames by role, at the index of each and at a change of a side. -/
theorem cyclicFramesSent : Obligations.CyclicFramesSent := by
  intro s hp idx cyc zsp beacon x w
  have q := s.ticked.sendBeacon_ends
  have c := s.ticked.indexEntry_clocked
  have line (hi : s.line.idx ≤ 19) : s.ticked.line = { s.line with idx := idx, cyc := cyc, tick := 0 } := Supervisor.advance_eq hi
  have permit (hi : s.line.idx ≤ 19) : s.ticked.readSlot.line.permit = s.line.permit := by
    rw [show s.ticked.readSlot.line = s.ticked.line from rfl, line hi]
  have entry (hi : s.line.idx ≤ 18) : s.ticked.line.idx = s.line.idx + 1 ∧ s.ticked.line.cyc = s.line.cyc
      ∧ s.ticked.indexEntry = s.ticked.readSlot.indexWork := by
    have h1 : s.ticked.line.idx = s.line.idx + 1 := by
      rw [line (by omega)]; exact Nat.mod_eq_of_lt (by omega)
    refine ⟨h1, ?_, State.indexEntry_work fun k => absurd (h1.symm.trans k.1) (by omega)⟩
    rw [line (by omega)]; exact if_neg (by omega)
  refine ⟨fun hh hi hb hx => ?_, fun hh hs hi => ?_, fun hh hi => ?_, fun e hl hs hb he hx => ?_⟩
  · have hidx := line hi
    have hnc : s.ticked.indexEntry.nonCabPort = s.nonCabPort := State.nonCabPort_congr c.frame
    have hbo : s.ticked.indexEntry.line.beaconOn = true := by rw [c.line, hidx]; exact hb
    have hfr : s.ticked.indexEntry.beaconFrame = beacon := by
      rw [State.beaconFrame, State.ownFrame_congr (s := s) c.census c.frame.2.1, c.line, c.census, hidx, c.frame.2.1]
      rfl
    refine ⟨fun h16 => ⟨_, exec_cycleTick hp, ?_⟩, fun h16 => ?_⟩
    · have hst := (State.indexEntry_leadStill (s := s.ticked) hh (by rw [hidx]; exact h16)).ports
        (show s.ticked.isLead = true by simp [State.isLead, State.ticked, hh]) s.nonCabPort
      have hx' : s.ticked.port s.nonCabPort = x := by show _ = s.port _; cases s.nonCabPort <;> rfl
      rw [hx'] at hst
      have hr : s.ticked.indexEntry.Ready s.ticked.indexEntry.nonCabPort := by
        rw [hnc]; exact (State.ready_of_idleEnd hx).congr hst
      rw [State.sendBeacon_ready hbo hr, hnc, State.port_begun, hst, hfr]
    · have hi15 : s.line.idx = 15 := by
        have : (s.line.idx + 1) % 20 = 16 := h16
        omega
      obtain ⟨e1, e2, e3⟩ := entry (by omega)
      have hcomp : s.ticked.indexEntry = s.ticked.readSlot.compute := by
        rw [e3, State.indexWork]
        have hid : s.ticked.readSlot.line.idx = 16 := e1.trans (by omega)
        have hho : s.ticked.readSlot.holding = true := decide_eq_true hh
        rw [hid, if_neg (by decide), if_neg (by decide), if_pos ⟨rfl, hho⟩]
      have hr : s.ticked.readSlot.Ready s.ticked.readSlot.nonCabPort :=
        (State.ready_of_idleEnd hx).congr (by show State.port _ s.nonCabPort = _; cases s.nonCabPort <;> rfl)
      obtain ⟨a, ha, hport⟩ := State.compute_ready hr
      rw [← hcomp] at ha hport
      have hport' : s.ticked.indexEntry.port s.nonCabPort = { x with tx := some (s.ownFrame 8 .away s.census.epoch .broadcast 0
          (byte s.census.epoch :: byte ((s.line.cyc + 1) % 256) :: byte a.grants.length :: a.grants.flatMap be16)) } := by
        have hx' : s.ticked.readSlot.port s.ticked.readSlot.nonCabPort = x := by
          show State.port _ s.nonCabPort = s.port s.nonCabPort
          cases s.nonCabPort <;> rfl
        refine hport.trans ?_
        rw [show s.ticked.readSlot.line.cyc = s.line.cyc from e2, hx']
        rfl
      refine ⟨_, a, exec_cycleTick hp, ?_, ?_⟩
      · rw [q.alloc]; exact ha
      · have hm : s.ticked.indexEntry.mated s.nonCabPort = true := by rw [State.mated, hport']; exact decide_eq_true hx.1
        rw [State.sendBeacon_busy hbo (by rw [hnc]; exact hm) (by rw [hnc, hport']; exact nofun)
          (by rw [hnc, hport']; exact (congrArg List.length hx.2.2.1).trans_lt (by decide)), hnc, State.port_setPort, hport', hfr]
        exact congrArg (fun l => ({ x with tx := _, urgentQ := l ++ [beacon] } : LinePort)) hx.2.2.1
  · obtain ⟨e1, e2, e3⟩ := entry (by omega)
    refine ⟨_, exec_cycleTick hp, ?_⟩
    have hset : s.ticked.readSlot.settled = true ∧ s.ticked.readSlot.holding = true := ⟨decide_eq_true hs, decide_eq_true hh⟩
    have hid : s.ticked.readSlot.line.idx = 5 := e1.trans (by omega)
    rw [q.summary, e3, State.indexWork, if_pos hid, State.doorStateWork_lead hset, State.recordDoors_holding (s := s.ticked.readSlot) hh]
    rw [permit (by omega)]
    exact ⟨rfl, rfl⟩
  · obtain ⟨e1, e2, e3⟩ := entry (by omega)
    refine ⟨_, exec_cycleTick hp, ?_⟩
    have hho : s.ticked.readSlot.holding = true := decide_eq_true hh
    have hid : s.ticked.readSlot.line.idx = 10 := e1.trans (by omega)
    rw [q.alloc, e3, State.indexWork, hid, if_neg (by decide), if_pos rfl, State.demandWork, if_pos hho]
    rfl
  · have hmem : s.Member e := ⟨hl, hs, he, State.ready_of_idleEnd hx⟩
    intro begins doorState
    have hslot : s.ticked.readSlot.Member e :=
      hmem.congr (t := s.ticked.readSlot) rfl rfl (by cases s.endPort e <;> rfl)
    have hep : s.ticked.readSlot.endPort e = s.endPort e := rfl
    have hport : s.ticked.readSlot.port (s.endPort e) = s.port (s.endPort e) := by cases s.endPort e <;> rfl
    have hpay (hi : s.line.idx ≤ 19) : s.ticked.readSlot.doorStatePayload = s.doorStatePayload := by
      rw [State.doorStatePayload, permit hi]
      rfl
    have off (hi : s.line.idx ≤ 19) : s.ticked.indexEntry.sendBeacon = s.ticked.indexEntry :=
      if_neg (by rw [c.line, line hi]; simp [hb])
    refine ⟨fun hi => ⟨_, exec_cycleTick hp, ?_⟩, fun hi => ⟨_, exec_cycleTick hp, ?_⟩, fun sd h1 h2 => ⟨_, exec_warningLeadTimeExpiry hp sd, ?_⟩,
      fun sd h1 h2 => ⟨_, exec_maximumReleaseTimeExpiry hp sd, ?_⟩⟩
    · obtain ⟨e1, e2, e3⟩ := entry (by omega)
      have hid : s.ticked.readSlot.line.idx = 5 := e1.trans (by omega)
      rw [off (by omega), e3, State.indexWork, if_pos hid, State.doorStateWork_member hslot, hep, State.port_begun, hport, hpay (by omega)]
      rfl
    · obtain ⟨e1, e2, e3⟩ := entry (by omega)
      have hid : s.ticked.readSlot.line.idx = 10 := e1.trans (by omega)
      rw [off (by omega), e3, State.indexWork, hid, if_neg (by decide), if_pos rfl, State.demandWork_member hslot, hep, State.port_begun, hport,
        show s.ticked.readSlot.line.cyc = s.line.cyc from e2]
      rfl
    · rw [State.warningTimeout, if_pos ⟨h1, h2⟩]
      refine State.afterSides_member hmem ?_
      unfold DoorSide.toClosing
      split <;> simp [DoorSide.rest, h1]
    · rw [State.releaseTimeout, if_pos ⟨h1, h2⟩]
      refine State.afterSides_member hmem ?_
      rw [DoorSide.withdraw_released h1 _ (by decide), h1]
      exact fun k => absurd (show SideState.warning = .released from k) (by decide)

end

section
/-! PROOFS. The frames of the census (O32): calls and returns, announces, and the topology changes of a member. -/

namespace Sys2Proof.Machine

/-! ## Events that send nothing -/

/-- An event that sends no frame and no message, and counts and raises nothing. -/
structure Silent (s t : State) : Prop where
  portA : t.portA = s.portA
  portB : t.portB = s.portB
  link : t.link = s.link
  events : t.events = s.events
  notices : t.notices = s.notices

theorem Silent.refl (s : State) : Silent s s := ⟨rfl, rfl, rfl, rfl, rfl⟩

theorem Silent.trans {s t u : State} (h : Silent s t) (k : Silent t u) : Silent s u :=
  ⟨k.portA.trans h.portA, k.portB.trans h.portB, k.link.trans h.link, k.events.trans h.events, k.notices.trans h.notices⟩

theorem Silent.port {s t : State} (h : Silent s t) (p : Port) : t.port p = s.port p := by
  cases p
  · exact h.portA
  · exact h.portB

/-- Door states go by a frame only from a SETTLED node without the lead role (R99, R109). -/
def State.Mute (s : State) : Prop := s.settled = true → s.holding = true

theorem State.doorStateWork_silent {s : State} (h : s.Mute) : Silent s s.doorStateWork := by
  by_cases hs : s.settled = true
  · rw [State.doorStateWork_lead ⟨hs, h hs⟩]; exact ⟨rfl, rfl, rfl, rfl, rfl⟩
  · rw [State.doorStateWork, if_neg hs]; exact Silent.refl s

theorem State.afterSides_silent {s : State} (h : s.Mute) (b : Doors) : Silent s (s.afterSides b) := by
  cases hm : b.moved s.doors
  · rw [State.afterSides_unmoved hm]; exact Silent.refl s
  · rw [State.afterSides_moved hm]
    exact Silent.trans (t := s.formDerate) ⟨rfl, rfl, rfl, rfl, rfl⟩ (State.doorStateWork_silent (s := s.formDerate) h)

theorem State.withdrawBoth_silent {s : State} (h : s.Mute) (c : Cause) : Silent s (s.withdrawBoth c) := by
  unfold State.withdrawBoth
  dsimp only
  generalize hu : ({ s with doors := _ } : State) = u
  have hs : Silent s u := by rw [← hu]; exact ⟨rfl, rfl, rfl, rfl, rfl⟩
  exact hs.trans (State.afterSides_silent (by rw [← hu]; exact h) _)

theorem State.Mute.congr {s t : State} (h : s.Mute) (e : t.census = s.census) : t.Mute := by
  unfold State.Mute State.settled State.holding at *
  rw [e]
  exact h

theorem State.formPermit_silent {s : State} (h : s.Mute) : Silent s s.formPermit := by
  unfold State.formPermit
  dsimp only
  generalize hu : ({ s with line := _ } : State) = u
  have hs : Silent s u := by rw [← hu]; exact ⟨rfl, rfl, rfl, rfl, rfl⟩
  split
  · exact hs.trans (State.withdrawBoth_silent (h.congr (by rw [← hu])) _)
  · exact hs

theorem State.supervise_silent {s : State} (h : s.Mute) (l : Supervisor) : Silent s ({ s with line := l } : State).formPermit :=
  Silent.trans (t := { s with line := l }) ⟨rfl, rfl, rfl, rfl, rfl⟩ (State.formPermit_silent (s := { s with line := l }) h)

theorem State.leaveSettled_silent {s : State} (h : s.Mute) : Silent s s.leaveSettled := by
  have h1 := State.withdrawBoth_silent h .consistChanged
  have hm : (s.withdrawBoth .consistChanged).Mute := h.congr (by simp)
  unfold State.leaveSettled
  exact h1.trans (State.supervise_silent hm _)

/-- A change of the census state sends nothing (R57). -/
theorem State.enterCensus_silent (cs : CensusState) (s : State) : Silent s (s.enterCensus cs) := by
  by_cases h : s.census.cs = .settled ∧ cs ≠ .settled
  · rw [State.enterCensus_leaves h]
    refine Silent.trans (t := { s with census := s.census.entering cs }) ⟨rfl, rfl, rfl, rfl, rfl⟩ (State.leaveSettled_silent fun k => ?_)
    exact absurd (of_decide_eq_true k) h.2
  · rw [State.enterCensus_stays h]; exact ⟨rfl, rfl, rfl, rfl, rfl⟩

theorem State.enterLead_silent (lead : LeadState) (s : State) : Silent s (s.enterLead lead) := by
  unfold State.enterLead
  dsimp only
  split <;> exact ⟨rfl, rfl, rfl, rfl, rfl⟩

theorem State.calling_silent (ctr : Nat) (s : State) : Silent s (s.calling ctr) := by
  unfold State.calling
  dsimp only
  generalize hu : ({ s with census := _ } : State) = u
  have hs : Silent s u := by rw [← hu]; exact ⟨rfl, rfl, rfl, rfl, rfl⟩
  exact (hs.trans (State.enterLead_silent _ _)).trans (State.enterCensus_silent _ _)

theorem State.surveyed_silent (x : EndNo) (tag : Tag) (n : Nat) (s : State) : Silent s (s.surveyed x tag n) :=
  Silent.trans (t := { s with census := s.census.called x tag n }) ⟨rfl, rfl, rfl, rfl, rfl⟩ (State.enterCensus_silent _ _)

/-- A return accepted sends nothing but its announce (R42). -/
theorem State.held_silent (es : List Entry) (s : State) : Silent s (s.held es) := by
  unfold State.held
  dsimp only
  generalize hu : ({ s with census := _ } : State).dropOldEpoch = u
  have hs : Silent s u := by rw [← hu]; exact ⟨rfl, rfl, rfl, rfl, rfl⟩
  have hm : u.Mute := fun _ => by rw [← hu]; rfl
  have hv : Silent u u.superviseAsLead := State.supervise_silent hm _
  generalize u.superviseAsLead = v at hv
  exact (hs.trans hv).trans ⟨rfl, rfl, rfl, rfl, rfl⟩

/-! ## Calls and returns sent (R26, R35, R46) -/

theorem State.sendCall_ready {s : State} {p : Port} (h : s.Ready p) (tag : Tag) (es : List Entry) :
    s.sendCall tag es p = s.begun p (s.ownFrame 0 .away 0 .broadcast 0 (tag.bytes ++ byte es.length :: entriesBytes es)) :=
  State.originate_ready (show 0 ≤ 11 by decide) (s.isOwnDestination_broadcast _) h

/-- A CENSUS_RETURN begun: its header epoch is a free value (log 9). -/
theorem State.sendReturn_ready {s : State} {p : Port} (h : s.Ready p) {tag : Tag} (ht : tag.lead ≠ s.nodeId) (status : Nat)
    (es : List Entry) : ∃ e, e ≤ 255 ∧ (s.sendReturn tag status es p).port p = { s.port p with
      tx := some (s.ownFrame 1 .toward e .nodeId tag.lead (tag.bytes ++ byte status :: byte es.length :: entriesBytes es)) } := by
  generalize hu : ({ s with freeCount := s.freeCount + 1 } : State) = u
  have hr : u.Ready p := h.congr (by rw [← hu]; cases p <;> rfl)
  have ho : u.isOwnDestination .nodeId tag.lead = false := decide_eq_false (by rw [← hu]; exact ht)
  have hport : u.port p = s.port p := by rw [← hu]; cases p <;> rfl
  have hown : u.ownFrame = s.ownFrame := State.ownFrame_congr (by rw [← hu]) (by rw [← hu])
  refine ⟨(Config.freeByte s.freeCount).toNat, Nat.lt_succ_iff.mp (Config.freeByte s.freeCount).isLt, ?_⟩
  have e : s.sendReturn tag status es p = u.originate
      { cls := 1, dir := .toward, epoch := (Config.freeByte s.freeCount).toNat, destKind := .nodeId, destVal := tag.lead
        payload := tag.bytes ++ byte status :: byte es.length :: entriesBytes es } (.one p) := by rw [← hu]; rfl
  rw [e, State.originate_ready (show 1 ≤ 11 by decide) ho hr, State.port_begun, hport, hown]

theorem State.ownEntry_eq (o : Orientation) (s : State) : s.ownEntry o = s.censusEntry o := rfl

theorem EndNo.other_eq (x : EndNo) : x.other = match x with
    | .one => .two
    | .two => .one := by cases x <;> rfl

/-- A node with its census record alone changed sends frames as the record shows its position (R26). -/
theorem State.ownFrame_outside {s t : State} (hs : s.census.cs ≠ .settled) (ht : t.census.cs ≠ .settled) (hn : t.nodeId = s.nodeId) :
    t.ownFrame = s.ownFrame := by
  funext cls dir epoch kind val payload
  simp only [State.ownFrame, if_neg hs, if_neg ht, hn]

theorem Silent.ready {s t : State} (e : Silent s t) {p : Port} (h : s.Ready p) : t.Ready p := h.congr (e.port p)

end Sys2Proof.Machine
end

section
/-! PROOFS. TOPOLOGY_CHANGE of a member (R51 to R53), and with it the frames of the census (O32). -/

namespace Sys2Proof.Machine

/-! ## A node that is told already -/

/-- Drops and topology changes have been told, and their codes have counters: counting them touches the counters alone (R164, R168). -/
structure State.Told (s : State) : Prop where
  topology : hasFlag s.notices.flags .topology = true
  dropped : hasFlag s.notices.flags .framesDropped = true
  size : 6 < s.events.counters.length

theorem State.Told.congr {s t : State} (h : s.Told) (hn : ∀ f, hasFlag s.notices.flags f = true → hasFlag t.notices.flags f = true)
    (he : t.events.counters.length = s.events.counters.length) : t.Told :=
  ⟨hn _ h.topology, hn _ h.dropped, he ▸ h.size⟩

theorem State.Told.silent {s t : State} (h : s.Told) (k : Silent s t) : t.Told := h.congr (by rw [k.notices]; exact fun _ x => x) (by rw [k.events])

/-- A code up to 6 counted at such a node. -/
theorem State.Told.count {s : State} (h : s.Told) {c : Nat} (hc : c ≤ 6) : s.count c = { s with events := s.events.bump c } := by
  have hlt : c < s.events.counters.length := Nat.lt_of_le_of_lt hc h.size
  by_cases hd : c = 2 ∨ c = 3 ∨ c = 4
  · rw [State.count, State.countWith, if_pos hd, if_pos hlt]
    exact State.raise_standing (s := { s with events := s.events.bump c }) h.dropped
  · exact count_counted s c hlt (fun e => hd (.inl e)) (fun e => hd (.inr (.inl e))) (fun e => hd (.inr (.inr e)))

theorem State.Told.bumped {s : State} (h : s.Told) (c : Nat) : ({ s with events := s.events.bump c } : State).Told :=
  h.congr (fun _ x => x) (Events.bump_size _ _)

theorem State.Told.countTimes {s : State} (h : s.Told) (n : Nat) {c : Nat} (hc : c ≤ 6) :
    ∃ ev, s.countTimes n c = { s with events := ev } ∧ ({ s with events := ev } : State).Told := by
  induction n generalizing s with
  | zero => exact ⟨s.events, rfl, h⟩
  | succ n ih =>
    obtain ⟨ev, he, ht⟩ := ih (h.bumped c)
    exact ⟨ev, by rw [State.countTimes, h.count hc, he], ht⟩

/-- A topology change seen at such a node is counted (R51). -/
theorem State.Told.seeTopology {s : State} (h : s.Told) : s.seeTopology = { s with events := s.events.bump 6 } := by
  rw [State.seeTopology, h.count (Nat.le_refl 6)]
  exact State.raise_standing (s := { s with events := s.events.bump 6 }) h.topology

theorem otherPort_of_ne {p q : Port} (h : p ≠ q) : p = otherPort q := by
  match p, q with
  | .a, .a => exact absurd rfl h
  | .a, .b => rfl
  | .b, .a => rfl
  | .b, .b => exact absurd rfl h

theorem State.port_events (s : State) (ev : Events) (p : Port) : ({ s with events := ev } : State).port p = s.port p := by cases p <;> rfl

/-- A copy for one port leaves the other port, even where it is dropped. -/
theorem State.Told.sendCopy_ne {s : State} (h : s.Told) {p q : Port} (hq : q ≠ p) (u : Bool) (f : Frame) :
    (s.sendCopy State.count p u f).port q = s.port q := by
  unfold State.sendCopy State.offer
  split
  · split
    · exact State.port_setPort_ne _ _ hq
    · rw [h.count (by split <;> decide)]
      exact State.port_events _ _ _
  · rfl

theorem State.sendCopy_room {count : Nat → State → State} {s : State} {p : Port} {u : Bool} {f : Frame} {y : LinePort} (hm : s.mated p = true)
    (hy : (s.port p).enqueue u f = some y) : s.sendCopy count p u f = s.setPort p y := by
  rw [State.sendCopy, if_pos hm, State.offer, hy]

theorem State.sendOne_room {count : Nat → State → State} {s : State} {p : Port} {u : Bool} {f : Frame} {y : LinePort} (hm : s.mated p = true)
    (hy : (s.port p).enqueue u f = some y) : s.sendOne count p u f = s.setPort p y := by
  rw [State.sendOne, if_pos hm, State.offer, hy]

/-- An urgent frame that names both ends enters the queue of a MATED end with room, whatever happens at the other end. -/
theorem State.Told.originate_both {s : State} (h : s.Told) {m : Sending} (ho : s.isOwnDestination m.destKind m.destVal = false) {x : Port}
    {y : LinePort} (hm : s.mated x = true) (hy : (s.port x).enqueue (s.complete m).urgent (s.complete m) = some y) :
    (s.originate m .both).port x = y := by
  rw [State.originate, State.originateWith_both ho]
  generalize s.complete m = f at hy
  by_cases hx : x = s.endPort .one
  · subst hx
    rw [State.sendCopy_room hm hy]
    have ht : (s.setPort (s.endPort .one) y).Told := h.congr (by simp) (by simp)
    rw [ht.sendCopy_ne (otherPort_ne _).symm, State.port_setPort]
  · have ho : x = otherPort (s.endPort .one) := otherPort_of_ne hx
    have hk := h.sendCopy_ne hx f.urgent f
    rw [← ho]
    generalize s.sendCopy State.count (s.endPort .one) f.urgent f = t at hk
    rw [← hk] at hy
    rw [State.sendCopy_room (by rw [State.mated, hk]; exact hm) hy, State.port_setPort]

/-! ## TOPOLOGY_CHANGE (R53) -/

/-- A node outside SETTLED without the lead role, as a topology change seen there finds it. -/
structure Adrift (s t : State) : Prop where
  silent : Silent s t
  lead : t.census.lead = .off
  cs : t.census.cs ≠ .settled
  leadEnd : t.census.leadEnd = s.census.leadEnd
  table : t.census.table = s.census.table
  epoch : t.census.epoch = s.census.epoch
  nodeId : t.nodeId = s.nodeId
  endPort : ∀ e, t.endPort e = s.endPort e

/-- A TOPOLOGY_CHANGE as a member sends it: out of SETTLED before the frame is completed (R53; log 7). -/
def State.changeFrame (s : State) (kind : Byte) : Frame :=
  let out : State := { s with census := { s.census with cs := if s.census.cs = .settled then .stale else s.census.cs } }
  out.ownFrame 3 .toward (if s.census.table.isSome then s.census.epoch else 0) .lead 0 [kind]

theorem State.changeFrame_congr {s t : State} (hc : t.census = s.census) (hn : t.nodeId = s.nodeId) (kind : Byte) :
    t.changeFrame kind = s.changeFrame kind := by
  simp only [State.changeFrame, State.ownFrame, hc, hn]

/-- The ends a TOPOLOGY_CHANGE leaves by: the recorded lead end where that is MATED, each otherwise (R53). -/
def State.goesBy (s : State) (x : Port) : Prop := ∀ e, s.census.leadEnd = some e → s.mated (s.endPort e) = true → x = s.endPort e

theorem Adrift.sends {s t : State} (a : Adrift s t) (h : s.Told) {k : TopologyKind} {x : Port} {y : LinePort} (hw : s.goesBy x)
    (hm : s.mated x = true) (hy : (s.port x).enqueue true (s.changeFrame (byte k.code)) = some y) :
    (t.seeTopology.sendTopologyChange k).port x = y := by
  have ht := h.silent a.silent
  rw [ht.seeTopology]
  generalize hu : ({ t with events := t.events.bump 6 } : State) = u
  have hut : u.Told := by rw [← hu]; exact ht.bumped 6
  have hport (p : Port) : u.port p = s.port p := by rw [← hu]; exact (State.port_events _ _ p).trans (a.silent.port p)
  have hmated (p : Port) : u.mated p = s.mated p := by rw [State.mated, hport p]; rfl
  have hend (e : EndNo) : u.endPort e = s.endPort e := by rw [← hu]; exact a.endPort e
  have hc : u.census = t.census := by rw [← hu]
  have ho (v : BitVec 32) : u.isOwnDestination .lead v = false := State.isOwnDestination_lead (by rw [hc]; exact a.lead) v
  have hf : u.complete { cls := 3, dir := .toward, epoch := if u.hasTable then u.census.epoch else 0, destKind := .lead, destVal := 0
                         payload := [byte k.code] } = s.changeFrame (byte k.code) := by
    have hnode : u.nodeId = s.nodeId := by rw [← hu]; exact a.nodeId
    have hout : u.ownFrame = ({ s with census := { s.census with cs := if s.census.cs = .settled then .stale else s.census.cs } } :
        State).ownFrame :=
      State.ownFrame_outside (by dsimp only; split; exacts [nofun, ‹_›]) (by rw [hc]; exact a.cs) hnode
    rw [State.complete_eq (show 3 ≤ 11 by decide), hout, State.changeFrame, State.hasTable, hc, a.table, a.epoch]
  have hb : (u.originate { cls := 3, dir := .toward, epoch := if u.hasTable then u.census.epoch else 0, destKind := .lead, destVal := 0
                           payload := [byte k.code] } .both).port x = y := by
    refine hut.originate_both (ho _) (by rw [hmated]; exact hm) ?_
    rw [hf, hport]
    exact hy
  unfold State.sendTopologyChange
  dsimp only
  rw [hc, a.leadEnd]
  cases he : s.census.leadEnd with
  | none => exact hc ▸ hb
  | some e =>
    dsimp only
    rw [hend, hmated, ← hc]
    split
    · rename_i hme
      have hx : x = s.endPort e := hw e he hme
      rw [← hx, State.originate, State.originateWith, ho]
      refine Eq.trans (congrArg (fun w => State.port w x) ?_) (State.port_setPort x y u)
      refine (if_neg (by decide)).trans ?_
      dsimp only
      rw [hf]
      exact State.sendOne_room (by rw [hmated]; exact hm) (by rw [hport]; exact hy)
    · exact hb

end Sys2Proof.Machine
end

section
/-! PROOFS. The frames of the census by what they answer (O32). -/

namespace Sys2Proof.Machine

/-! ## Where a member stands when it tells a topology change -/

theorem Adrift.same {s : State} (hl : s.census.lead = .off) (hc : s.census.cs ≠ .settled) : Adrift s s :=
  ⟨Silent.refl s, hl, hc, rfl, rfl, rfl, rfl, fun _ => rfl⟩

theorem Adrift.stale {s : State} (hl : s.census.lead = .off) : Adrift s (s.enterCensus .stale) := by
  have e := State.enterCensus_eventful .stale s
  refine ⟨State.enterCensus_silent _ _, ?_, ?_, ?_, ?_, ?_, e.nodeId, e.endPort⟩ <;> rw [State.enterCensus_census]
  · exact hl
  · exact nofun
  · rfl
  · rfl
  · rfl

theorem Adrift.reported {s : State} (hl : s.census.lead = .off) : Adrift s (if s.settled then s.enterCensus .stale else s) := by
  split
  · exact Adrift.stale hl
  · rename_i h
    exact Adrift.same hl fun k => h (decide_eq_true k)

theorem Adrift.givenUp {s : State} (hl : s.census.lead = .off) :
    Adrift s ({ s with census := s.census.givenUp } : State).fallBack := by
  generalize hu : ({ s with census := s.census.givenUp } : State) = u
  have hs : Silent s u := by rw [← hu]; exact ⟨rfl, rfl, rfl, rfl, rfl⟩
  have hcen : u.census = s.census.givenUp := by rw [← hu]
  have e := State.fallBack_eventful u
  refine ⟨hs.trans (State.enterCensus_silent _ _), ?_, ?_, ?_, ?_, ?_, e.nodeId.trans (by rw [← hu]), fun x => (e.endPort x).trans (by rw [← hu]; rfl)⟩ <;>
    rw [State.fallBack_eq, State.enterCensus_census]
  · rw [hcen]; exact hl
  · exact Census.standing_ne_settled _
  · rw [hcen]; rfl
  · rw [hcen]; rfl
  · rw [hcen]; rfl

/-! ## The beacon on its way to the census controller (R65) -/

theorem LinePort.takeNext_urgent {x : LinePort} (h : x.urgentQ = []) : x.takeNext.urgentQ = [] ∧ x.takeNext.pilot = x.pilot := by
  unfold LinePort.takeNext
  rw [h]
  split
  · cases x.normalQ <;> exact ⟨by simp_all, rfl⟩
  · exact ⟨h, rfl⟩

theorem LinePort.enqueue_normal {x y : LinePort} {f : Frame} (h : x.enqueue false f = some y) (hu : x.urgentQ = []) :
    y.urgentQ = [] ∧ y.pilot = x.pilot := by
  unfold LinePort.enqueue at h
  rw [if_neg (by decide)] at h
  split at h
  · obtain rfl := Option.some.inj h
    exact LinePort.takeNext_urgent (x := { x with normalQ := x.normalQ ++ [f] }) hu
  · exact absurd h nofun

/-- An urgent frame at an end with an empty urgent queue is in transmission, or next to it. -/
theorem LinePort.enqueue_urgent {x : LinePort} (hu : x.urgentQ = []) (f : Frame) :
    ∃ y, x.enqueue true f = some y ∧ f ∈ y.tx.toList ++ y.urgentQ := by
  have h8 : ([] : List Frame).length < Config.urgentCapacity := by decide
  refine ⟨_, by rw [LinePort.enqueue, if_pos rfl, hu, if_pos h8], ?_⟩
  unfold LinePort.takeNext
  dsimp only
  split
  · simp
  · simp

/-- A port keeps its pilot state and its urgent queue empty. -/
def Unhurried (x : Port) (s t : State) : Prop :=
  (s.port x).urgentQ = [] → (t.port x).urgentQ = [] ∧ (t.port x).pilot = (s.port x).pilot

theorem tells_unhurried (x : Port) : Tells (Unhurried x) where
  trans h k hu := ⟨(k (h hu).1).1, (k (h hu).1).2.trans (h hu).2⟩
  inner {s t} _ ha hb hu := by
    have hp : t.port x = s.port x := by cases x; exacts [ha, hb]
    rw [hp]
    exact ⟨hu, rfl⟩
  queued {s p f y} _ _ hy hu := by
    by_cases hx : x = p
    · subst hx
      rw [State.port_setPort]
      exact LinePort.enqueue_normal hy hu
    · rw [State.port_setPort_ne _ _ hx]
      exact ⟨hu, rfl⟩

theorem State.aligned_ports (b : BeaconIn) (s : State) (p : Port) : (s.aligned b).port p = s.port p := by cases p <;> rfl

theorem State.readSlot_ports (s : State) (p : Port) : s.readSlot.port p = s.port p := by cases p <;> rfl

/-- A MATED end with room for an urgent frame. -/
structure State.Clear (s : State) (x : Port) : Prop where
  urgent : (s.port x).urgentQ = []
  pilot : (s.port x).pilot = .mated

theorem State.Ready.clear {s : State} {x : Port} (h : s.Ready x) : s.Clear x := ⟨h.urgent, h.pilot⟩

theorem State.Clear.congr {s t : State} {x : Port} (h : s.Clear x) (e : t.port x = s.port x) : t.Clear x := ⟨e ▸ h.urgent, e ▸ h.pilot⟩

theorem State.Clear.unhurried {s t : State} {x : Port} (h : s.Clear x) (u : Unhurried x s t) : t.Clear x :=
  ⟨(u h.urgent).1, (u h.urgent).2.trans h.pilot⟩

section
variable {s : State} {x : Port} (hl : s.census.lead = .off) (h : s.Told) (hw : s.goesBy x) (hx : s.Ready x)
include hl hx

/-- A frame of a member by its lead end is begun at the end at hand, or leaves it as it was. -/
theorem State.doorStateWork_clear (h : s.Told) (hw : s.goesBy x) : s.doorStateWork.Clear x := by
  by_cases hs : s.settled = true
  · have hh : ¬s.holding = true := by simp [State.holding, hl]
    cases he : s.census.leadEnd with
    | none =>
      have e : s.doorStateWork = s := by rw [State.doorStateWork, if_pos hs, if_neg hh, State.toLead, he]
      rw [e]; exact hx.clear
    | some e =>
      by_cases hm : s.mated (s.endPort e) = true
      · have hxe : x = s.endPort e := hw e he hm
        rw [State.doorStateWork_member ⟨hl, of_decide_eq_true hs, he, hxe ▸ hx⟩, ← hxe]
        have hp := State.port_begun s x (s.ownFrame 6 .toward s.census.epoch .lead 0 s.doorStatePayload)
        exact ⟨(congrArg LinePort.urgentQ hp).trans hx.urgent, (congrArg LinePort.pilot hp).trans hx.pilot⟩
      · have e4 : s.doorStateWork = s.count 4 := by
          rw [State.doorStateWork, if_pos hs, if_neg hh, State.toLead, he]
          dsimp only
          rw [State.originate, State.originateWith]
          refine (if_neg (by simp [State.doorStateSending, State.isOwnDestination_lead hl])).trans ?_
          dsimp only
          rw [State.sendOne, if_neg hm]
          exact if_neg (by simp [State.complete, State.doorStateSending])
        rw [e4, h.count (by decide)]
        exact hx.clear.congr (State.port_events _ _ _)
  · rw [State.doorStateWork, if_neg hs]
    exact hx.clear

theorem State.demandWork_clear : s.demandWork.Clear x := by
  have hh : ¬s.holding = true := by simp [State.holding, hl]
  have hn : s.isLead = false := Bool.eq_false_iff.mpr (State.notLead hl)
  rw [State.demandWork, if_neg hh]
  split
  · rw [State.toLead]
    cases s.census.leadEnd with
    | none => exact hx.clear
    | some e =>
      exact hx.clear.unhurried ((tells_unhurried x).originateWith (tells_unhurried x).count State.count_quiet (m := s.heatDemandSending)
        (show 7 ≤ 7 by decide) (show 7 ≤ 11 by decide) _ hn)
  · exact hx.clear

include h hw

/-- What the work of an index does to a port that a member's frames leave by. -/
theorem State.indexWork_clear : s.indexWork.Clear x ∧ (s.line.idx ∉ [0, 5, 10] → s.indexWork.port x = s.port x) := by
  have hh : ¬s.holding = true := by simp [State.holding, hl]
  unfold State.indexWork
  split
  · rename_i h5; exact ⟨State.doorStateWork_clear hl hx h hw, fun k => absurd (by simp [h5]) k⟩
  · split
    · rename_i h10; exact ⟨State.demandWork_clear hl hx, fun k => absurd (by simp [h10]) k⟩
    · rw [if_neg fun k => hh k.2]
      exact ⟨hx.clear, fun _ => rfl⟩

end

theorem State.Told.heated {s t : State} (h : s.Told) (k : Heated s t) : t.Told := h.congr k.flags k.size

theorem State.Told.eventful {s t : State} (h : s.Told) (k : Eventful s t) : t.Told := h.congr k.flags k.size

theorem endOrientation_eq (x : EndNo) : endOrientation x = match x with
    | .one => .normal
    | .two => .reversed := by cases x <;> rfl

theorem State.goesBy.congr {s t : State} {x : Port} (h : s.goesBy x) (hl : t.census.leadEnd = s.census.leadEnd)
    (he : ∀ e, t.endPort e = s.endPort e) (hm : ∀ p, t.mated p = s.mated p) : t.goesBy x := fun e h1 h2 => by
  rw [he] at h2 ⊢
  exact h e (hl ▸ h1) ((hm _).symm.trans h2)

theorem State.aligned_readSlot_mated (b : BeaconIn) (s : State) (p : Port) : (s.aligned b).readSlot.mated p = s.mated p := by
  cases p <;> rfl

theorem tells_mated : Tells fun s t => ∀ p, t.mated p = s.mated p where
  trans h k p := (k p).trans (h p)
  inner {s t} _ ha hb p := by
    have hp : t.port p = s.port p := by cases p; exacts [ha, hb]
    rw [State.mated, hp, State.mated]
  queued {s p f y} _ hm hy q := by
    by_cases hq : q = p
    · subst hq
      rw [State.mated, State.port_setPort, (LinePort.enqueue_quiet (of_decide_eq_true hm) hy).pilot, State.mated]
    · rw [State.mated, State.port_setPort_ne _ _ hq, State.mated]

theorem State.realign_mated (b : BeaconIn) (s : State) (p : Port) : (s.realign b).mated p = s.mated p := by
  have key : s.realign b = (s.aligned b).readSlot ∨ s.realign b = (s.aligned b).indexEntry := ite_eq_or_eq _ _ _
  have hr := s.aligned_readSlot_mated b p
  rcases key with e | e <;> rw [e]
  · exact hr
  · by_cases hs : (s.aligned b).startsCycle
    · rw [State.indexEntry_start hs]
      exact (tells_mated.cycleStart _ p).trans (by cases p <;> rfl)
    · rw [State.indexEntry_work hs]
      exact ((State.indexWork_eventful _).mated p).trans hr

theorem State.endPort_congr {s t : State} (h : s.sameFrame t) (e : EndNo) : t.endPort e = s.endPort e := by
  obtain ⟨-, -, hs, hm, -⟩ := h
  simp only [State.endPort, hs, hm]

/-- A beacon of another epoch, or at a node that is not SETTLED, realigns the clock at most (R65). -/
theorem State.supervisorBeacon_unaccepted {epoch : Nat} {b : BeaconIn} {s : State} (h : s.census.cs = .settled → epoch ≠ s.census.epoch) :
    s.supervisorBeacon epoch b = s ∨ s.supervisorBeacon epoch b = s.realign b := by
  have hn : ¬((s.realign b).settled = true ∧ (s.realign b).census.lead = .off ∧ epoch = (s.realign b).census.epoch) := by
    rw [State.settled, (State.realign_clocked b s).census]
    exact fun k => h (of_decide_eq_true k.1) k.2.2
  unfold State.supervisorBeacon
  dsimp only
  rw [if_neg hn]
  exact ite_eq_or_eq _ _ _

theorem State.cycleStart_told {s : State} (h : s.Told) : s.cycleStart.Told := by
  obtain ⟨y, hy⟩ := s.cycleStart_granted
  rw [hy]
  have hg := ((State.Told.congr (t := s.marked) h (fun _ k => k) rfl).heated s.granted_heated).heated
    ((State.readSlot_heated _).trans (State.endCycleStart_heated _))
  generalize s.granted.readSlot.endCycleStart = v at hg
  exact hg.congr (fun _ k => k) rfl

/-- The clock set by a beacon, at a member: what is told stays told, and the end at hand keeps room for an urgent frame (R65). -/
theorem State.realign_clear {b : BeaconIn} {s : State} {x : Port} (hl : s.census.lead = .off) (h : s.Told) (hw : s.goesBy x) (hx : s.Ready x) :
    (s.realign b).Told ∧ (s.realign b).Clear x ∧ (b.idx ∉ [0, 5, 10] → (s.realign b).port x = s.port x) := by
  have ha : (s.aligned b).Told := h.congr (fun _ k => k) rfl
  have hr : (s.aligned b).readSlot.Told := ha.heated (State.readSlot_heated _)
  have hp := s.aligned_ports b x
  have hpr := (State.readSlot_ports (s.aligned b) x).trans hp
  have key : s.realign b = (s.aligned b).readSlot ∨ s.realign b = (s.aligned b).indexEntry := ite_eq_or_eq _ _ _
  rcases key with e | e <;> rw [e]
  · exact ⟨hr, (hx.congr hpr).clear, fun _ => hpr⟩
  · by_cases hs : (s.aligned b).startsCycle
    · rw [State.indexEntry_start hs]
      exact ⟨State.cycleStart_told ha, (hx.congr hp).clear.unhurried ((tells_unhurried x).cycleStart _),
        fun k => absurd (List.mem_cons.mpr (.inl hs.1)) k⟩
    · rw [State.indexEntry_work hs]
      have hk := State.indexWork_clear (s := (s.aligned b).readSlot) (x := x) hl hr
        (hw.congr rfl (fun _ => rfl) (s.aligned_readSlot_mated b)) (hx.congr hpr)
      exact ⟨hr.eventful (State.indexWork_eventful _), hk.1, fun k => (hk.2 k).trans hpr⟩

end Sys2Proof.Machine
end

section
open Sys2Proof Sys2Proof.Machine

/-- Settles O32: the frames of a call, an attempt, an accepted return, and of each topology change that a member sees. -/
theorem censusFramesSent : Obligations.CensusFramesSent := by
  intro s
  refine ⟨fun d rest c hs hc => ?_, fun hp hcab hl hd hm hx => ?_, fun d rest r hs hr hl ht h0 hv hx => ?_, fun hp hl htop hdrop h6 => ?_⟩
  · intro back on mine list twoLeads own outside returned
    have hexec : exec .censusCallTaken s = .next (State.takeCall d.endNo c { s with delivered := rest }) :=
      (State.run_takeDelivered hs).trans (congrArg _ (Delivery.callAct_read hc _))
    generalize hu : ({ s with delivered := rest } : State) = u at hexec
    have hport (p : Port) : u.port p = s.port p := by rw [← hu]; cases p <;> rfl
    have hend (e : EndNo) : u.endPort e = s.endPort e := by rw [← hu]; rfl
    have hn : u.nodeId = s.nodeId := by rw [← hu]
    have hcs : u.census = s.census := by rw [← hu]
    have hown : u.ownFrame = s.ownFrame := State.ownFrame_congr hcs hn
    have hrefuse : u.refusesCall c.tag = true ↔ twoLeads := by rw [State.refusesCall_iff, hcs]
    have hself : (c.entries.any fun e => decide (e.id = u.nodeId)) = true ↔ own := by rw [hn]; exact any_own_iff _ _
    have back_returned {status : Nat} (he : u.takeCall d.endNo c = u.sendReturn c.tag status [] (u.endPort d.endNo)) :
        returned s [byte status, 0] := fun hne hi => by
      obtain ⟨e, h255, hsent⟩ := State.sendReturn_ready (s := u) ((State.ready_of_idleEnd hi).congr (hport back)) (by rw [hn]; exact hne) status []
      refine ⟨_, e, hexec, h255, ?_⟩
      rw [he, hend, hsent, hport, hown]
      rfl
    refine ⟨fun h => back_returned ?_, fun h h32 => back_returned ?_, fun h h32 ho => back_returned ?_, fun h h32 ho hm => ?_,
      fun h h32 ho hi => ?_⟩
    · rw [State.takeCall_eq, if_pos (hrefuse.mpr h)]
    · rw [State.takeCall_eq, if_neg (mt hrefuse.mp h), if_pos h32]
    · rw [State.takeCall_eq, if_neg (mt hrefuse.mp h), if_neg (by omega), if_pos (hself.mpr ho)]
    all_goals
      have hno : ¬∃ e ∈ c.entries, e.id = u.nodeId := by rw [hn]; exact ho
      have htaken := State.takeCall_taken (x := d.endNo) (mt hrefuse.mp h) h32 hno
      dsimp only at htaken
      have hentry : c.entries ++ [u.ownEntry (endOrientation d.endNo)] = c.entries ++ [mine] := by
        rw [← hu]
        exact congrArg (fun o => c.entries ++ [s.censusEntry o]) (endOrientation_eq d.endNo)
      rw [hentry] at htaken
      have hlen : (c.entries ++ [mine]).length = c.entries.length + 1 := by simp
      rw [hlen] at htaken
      have hsil := State.surveyed_silent d.endNo c.tag (c.entries.length + 1) u
      have hev := State.surveyed_eventful d.endNo c.tag (c.entries.length + 1) u
      have hsc := State.surveyed_census d.endNo c.tag (c.entries.length + 1) u
      generalize u.surveyed d.endNo c.tag (c.entries.length + 1) = v at htaken hsil hev hsc
      have hvown : v.ownFrame = outside.ownFrame :=
        State.ownFrame_outside nofun (by rw [hsc]; exact nofun) (hev.nodeId.trans hn)
      have hvend (e : EndNo) : v.endPort e = s.endPort e := (hev.endPort e).trans (hend e)
      have hvport (p : Port) : v.port p = s.port p := (hsil.port p).trans (hport p)
      have hon : v.endPort d.endNo.other = on := (hvend _).trans (congrArg s.endPort (EndNo.other_eq _))
      have hmated : v.mated on = s.mated on := by rw [State.mated, hvport]; rfl
      rw [hon, hmated] at htaken
    · rw [hm, if_neg (by decide)] at htaken
      intro hne hi
      obtain ⟨e, h255, hsent⟩ := State.sendReturn_ready (s := v) (p := back) ((State.ready_of_idleEnd hi).congr (hvport back))
        (by rw [hev.nodeId, hn]; exact hne) 0 (c.entries ++ [mine])
      refine ⟨_, e, hexec, h255, ?_⟩
      rw [htaken, hvend, hsent, hvport, hvown, hlen]
      rfl
    · rw [(State.ready_of_idleEnd hi).mated, if_pos rfl] at htaken
      refine ⟨_, hexec, ?_⟩
      rw [htaken, State.sendCall_ready ((State.ready_of_idleEnd hi).congr (hvport on)), State.port_begun, hvport, hvown, hlen]
  · intro tag mine outside
    refine ⟨_, exec_cabAssertionTaken hp, ?_⟩
    have hg : s.cabAssertion = s.asserted.startAttempt 0 :=
      (State.cabAssertion_new hcab).trans (State.judgeRole_gained (s := s.asserted) hl hd (by rw [← hm]; show s.asserted.mated s.cabPort = _; cases s.cabPort <;> rfl))
    have hr : s.asserted.Ready s.nonCabPort := (State.ready_of_idleEnd hx).congr (by cases s.nonCabPort <;> rfl)
    have hcall := s.asserted.calling_silent 0
    have hcs := s.asserted.calling_census 0
    have hev := s.asserted.calling_eventful 0
    rw [hg, State.startAttempt_mated (s := s.asserted) hr.mated]
    dsimp only
    generalize s.asserted.calling 0 = v at hcall hcs hev
    have hvp : v.port s.nonCabPort = s.port s.nonCabPort := (hcall.port _).trans (by cases s.nonCabPort <;> rfl)
    have hvr : v.Ready s.asserted.nonCabPort := (State.ready_of_idleEnd hx).congr hvp
    have hown : v.ownFrame = outside.ownFrame := State.ownFrame_outside nofun (by rw [hcs]; exact nofun) hev.nodeId
    have hmine : s.asserted.ownEntry (endOrientation s.asserted.mgmt.working.coach.cabEnd) = mine :=
      congrArg s.censusEntry (endOrientation_eq s.mgmt.working.coach.cabEnd)
    rw [State.sendCall_ready hvr, hown, hmine]
    generalize hw : v.begun s.asserted.nonCabPort _ = w
    have hwp : w.port s.nonCabPort = { v.port s.nonCabPort with
        tx := some (outside.ownFrame 0 .away 0 .broadcast 0 (tag.bytes ++ byte 1 :: entriesBytes [mine])) } := by
      rw [← hw]; exact State.port_begun _ _ _
    rw [hvp] at hwp
    exact (show State.port _ s.nonCabPort = w.port s.nonCabPort by cases s.nonCabPort <;> rfl).trans hwp
  · have hexec : exec .censusReturnTaken s = .next (State.takeReturn r { s with delivered := rest }) :=
      (State.run_takeDelivered hs).trans (congrArg _ (Delivery.returnAct_read hr _))
    refine ⟨_, hexec, ?_⟩
    generalize hu : ({ s with delivered := rest } : State) = u
    have hcu : u.census = s.census := by rw [← hu]
    have hport (p : Port) : u.port p = s.port p := by rw [← hu]; cases p <;> rfl
    have hnc : u.nonCabPort = s.nonCabPort := by rw [← hu]; rfl
    have hsound : u.soundReturn r = true := by rw [← hu]; exact (State.soundReturn_iff hr).mpr hv
    rw [State.takeReturn_ok (by rw [hcu]; exact hl) (by rw [hcu]; exact ht) h0, if_pos hsound]
    have hsil := State.held_silent r.entries u
    have hev := State.held_eventful r.entries u
    have hcen := State.held_census r.entries u
    rw [State.acceptReturn_eq]
    generalize u.held r.entries = v at hsil hev hcen
    have hvp : v.port s.nonCabPort = s.port s.nonCabPort := (hsil.port _).trans (hport _)
    have hvn : v.nonCabPort = s.nonCabPort := hev.nonCabPort.trans hnc
    have hepoch : v.census.epoch = nextEpoch u.census.lastEpoch := by rw [hcen]; rfl
    rw [hvn, State.originate_ready (m := announceSending (nextEpoch u.census.lastEpoch) r.tag r.entries) (show 2 ≤ 11 by decide)
      (v.isOwnDestination_broadcast _) ((State.ready_of_idleEnd hx).congr hvp), State.port_begun, hvp]
    generalize hw : v.begun s.nonCabPort _ = w
    have hwc : w.census = v.census := by rw [← hw]; exact State.setPort_census _ _ _
    have hwn : w.nodeId = v.nodeId := by rw [← hw]; exact State.setPort_nodeId _ _ _
    rw [hwc, hepoch, State.ownFrame_congr hwc hwn]
    rfl
  · intro out change way
    have htold : s.Told := ⟨htop, hdrop, h6⟩
    have hway {x : Port} (h : way s.mated x) : s.goesBy x := h
    refine ⟨fun d rest a x hs ha hc hv hw hx => ?_, fun p x edges hm h19 he h16 h24 hw => ?_, fun p edges hm h4 he hbad hx => ?_,
      fun d rest b x hs hb hw hx => ?_⟩
    · have hexec : exec .consistAnnounceTaken s = .next (State.takeAnnounce a { s with delivered := rest }) :=
        (State.run_takeDelivered hs).trans (congrArg _ (Delivery.announceAct_read ha _))
      refine ⟨_, hexec, ?_⟩
      have hsound : ({ s with delivered := rest } : State).soundAnnounce a = true ↔ s.announceSound d.frame.payload a := State.soundAnnounce_iff ha
      rw [State.takeAnnounce_eq, if_pos ⟨hc, hl⟩, if_neg (mt hsound.mp hv)]
      have hr := State.ready_of_idleEnd hx
      have ha := Adrift.givenUp (s := { s with delivered := rest }) hl
      have hp : ({ s with delivered := rest } : State).port x = s.port x := by cases x <;> rfl
      refine ha.sends (k := .announceMismatch) (htold.congr (fun _ k => k) rfl)
        (State.goesBy.congr (s := s) hw rfl (fun _ => rfl) fun p => by cases p <;> rfl) (by rw [State.mated, hp]; exact hr.mated) ?_
      rw [hp, State.changeFrame_congr (s := s) (t := { s with delivered := rest }) rfl rfl]
      exact hr.enqueue true (change 6)
    · have hgood := State.pilotWindow_enters he hm ⟨h16, h24⟩ h19
      have hcen : (s.entered p).census = s.census := State.setPort_census _ _ _
      have hrep : (s.entered p).matedReport true (s.portEnd p) = (s.entered p).memberReport .matedOn :=
        State.matedReport_member (by rw [hcen]; exact hl) true _
      have hmated (y : Port) : (s.entered p).mated y = (s.mated y || decide (y = p)) := by
        by_cases hy : y = p
        · subst hy; simp [State.mated, State.entered, LinePort.entered]
        · simp [State.mated, State.entered, State.port_setPort_ne _ _ hy, hy]
      have hgoes : (s.entered p).goesBy x := fun e h1 h2 => by
        have hend : (s.entered p).endPort e = s.endPort e := by simp [State.entered, State.endPort]
        rw [hmated, hend] at h2
        rw [hend]
        exact hw e (hcen ▸ h1) h2
      have ht : (s.entered p).Told := htold.congr (by simp [State.entered]) (by simp [State.entered])
      have hch : (s.entered p).changeFrame 1 = change 1 := State.changeFrame_congr hcen (State.setPort_nodeId _ _ _) 1
      refine ⟨fun hne hx => ⟨_, exec_pilotWindowClose hp p edges, ?_⟩, fun hxp hu hn => ⟨_, exec_pilotWindowClose hp p edges, ?_⟩⟩
      · have hport : (s.entered p).port x = s.port x := State.port_setPort_ne _ _ hne
        have hr := (State.ready_of_idleEnd hx).congr hport
        rw [hgood, hrep, State.memberReport]
        refine (Adrift.reported (by rw [hcen]; exact hl)).sends (k := .matedOn) ht hgoes hr.mated ?_
        rw [← hport]
        exact hch ▸ hr.enqueue true _
      · have hport : (s.entered p).port p = (s.port p).entered := State.port_setPort _ _ _
        subst hxp
        rw [hgood, hrep, State.memberReport]
        refine (Adrift.reported (by rw [hcen]; exact hl)).sends (k := .matedOn) ht hgoes (by rw [hmated]; simp) ?_
        rw [hport, show (s.entered x).changeFrame (byte TopologyKind.matedOn.code) = change 1 from hch]
        exact LinePort.enqueue_idle (x := (s.port x).entered) rfl rfl hu hn true (change 1)
    · have hbad' : ¬(16 ≤ edges ∧ edges ≤ 24) := by omega
      refine ⟨_, exec_pilotWindowClose hp p edges, ?_⟩
      have hset : (s.setPort p (s.port p).left).Told := htold.congr (by simp) (by simp)
      obtain ⟨ev, hev, ht⟩ := hset.countTimes (s.port p).held (c := 4) (by decide)
      have hleft : s.left p = { s.setPort p (s.port p).left with events := ev } := hev
      rw [← hleft] at ht
      have hcen : (s.left p).census = s.census := by rw [hleft]; exact State.setPort_census _ _ _
      have hnode : (s.left p).nodeId = s.nodeId := by rw [hleft]; exact State.setPort_nodeId _ _ _
      have hend (e : EndNo) : (s.left p).endPort e = s.endPort e := (State.left_repiloted p s).endPort e
      have hport : (s.left p).port (otherPort p) = s.port (otherPort p) := by
        rw [hleft, State.port_events]; exact State.port_setPort_ne _ _ (otherPort_ne p)
      have hgoes : (s.left p).goesBy (otherPort p) := fun e _ h2 => by
        have hne : (s.left p).endPort e ≠ p := fun k => by
          rw [k, (State.left_repiloted p s).ofParted rfl] at h2
          exact absurd h2 (by decide)
        exact (otherPort_of_ne hne).symm
      have hr := (State.ready_of_idleEnd hx).congr hport
      have hlead : (s.left p).census.lead = .off := by rw [hcen]; exact hl
      rw [State.pilotWindow_leaves he hm hbad' h4, State.matedReport_member hlead false, State.memberReport]
      refine (Adrift.reported hlead).sends (k := .matedOff) ht hgoes hr.mated ?_
      rw [State.changeFrame_congr hcen hnode, ← hport]
      exact hr.enqueue true (change 2)
    · intro sends
      have hexec := exec_beaconTaken hs
      rw [State.takeBeacon_read hb] at hexec
      generalize hu : ({ s with delivered := rest } : State) = u at hexec
      have hcu : u.census = s.census := by rw [← hu]
      have hnu : u.nodeId = s.nodeId := by rw [← hu]
      have hut : u.Told := by rw [← hu]; exact htold.congr (fun _ k => k) rfl
      have hport (p : Port) : u.port p = s.port p := by rw [← hu]; cases p <;> rfl
      have hgu : u.goesBy x := State.goesBy.congr (s := s) hw (by rw [hcu]) (fun e => by rw [← hu]; rfl) fun p => by rw [State.mated, hport]; rfl
      have hxu : u.Ready x := (State.ready_of_idleEnd hx).congr (hport x)
      have hlu : u.census.lead = .off := by rw [hcu]; exact hl
      have hk := State.realign_clear (b := b) hlu hut hgu hxu
      have hm := State.realign_mated b u
      have hr := State.realign_clocked b u
      have hv (v : State) (hv : v = u ∨ v = u.realign b) {k : TopologyKind} {t : State} (a : Adrift v t)
          (he : (u.supervisorBeacon d.frame.epoch b).censusBeacon d.frame.epoch = t.seeTopology.sendTopologyChange k
            ∨ (u.supervisorBeacon d.frame.epoch b).censusBeacon d.frame.epoch = (t.seeTopology.sendTopologyChange k).disarmed) :
          sends (byte k.code) := by
        have facts : v.Told ∧ v.Clear x ∧ v.goesBy x ∧ v.changeFrame (byte k.code) = change (byte k.code)
            ∧ (b.idx ∉ [0, 5, 10] → v.port x = s.port x) := by
          rcases hv with rfl | rfl
          · exact ⟨hut, hxu.clear, hgu, State.changeFrame_congr hcu hnu _, fun _ => hport x⟩
          · exact ⟨hk.1, hk.2.1, hgu.congr (by rw [hr.census]; rfl) (State.endPort_congr hr.frame) hm,
              State.changeFrame_congr (hr.census.trans hcu) (hr.frame.2.1.trans hnu) _, fun h => (hk.2.2 h).trans (hport x)⟩
        obtain ⟨f1, f2, f3, f4, f5⟩ := facts
        obtain ⟨y, hy, hmem⟩ := LinePort.enqueue_urgent f2.urgent (v.changeFrame (byte k.code))
        have hsent := a.sends f1 f3 (decide_eq_true f2.pilot) hy
        refine ⟨_, hexec, ?_⟩
        have hp : ((u.supervisorBeacon d.frame.epoch b).censusBeacon d.frame.epoch).port x = y := by
          rcases he with he | he <;> rw [he]
          · exact hsent
          · exact (show State.port _ x = _ by cases x <;> rfl).trans hsent
        rw [hp, ← f4]
        refine ⟨hmem, fun h => ?_⟩
        have hready : v.Ready x := (State.ready_of_idleEnd hx).congr (f5 h)
        rw [hready.enqueue] at hy
        rw [← Option.some.inj hy, f5 h]
      have hcv : (u.supervisorBeacon d.frame.epoch b).census = s.census := (State.supervisorBeacon_keeps _ _ _).1.trans hcu
      refine ⟨fun hcs hne => ?_, fun hcs harm => ?_⟩
      · refine hv _ (State.supervisorBeacon_unaccepted fun _ => by rw [hcu]; exact hne) (k := .epochMismatch)
          (Adrift.stale (by rw [hcv]; exact hl)) (.inl ?_)
        rw [State.censusBeacon_settled (by rw [hcv]; exact hl) (by rw [hcv]; exact hcs), if_neg (by rw [hcv]; exact hne)]
      · have hcs' : s.census.cs ≠ .settled := fun k => by rcases hcs with h | h <;> rw [k] at h <;> exact absurd h (by decide)
        refine hv _ (State.supervisorBeacon_unaccepted fun k => absurd (by rw [← hcu]; exact k) hcs') (k := .notInTable)
          (Adrift.same (by rw [hcv]; exact hl) (by rw [hcv]; exact hcs')) (.inr ?_)
        rw [State.censusBeacon_adrift (by rw [hcv]; exact hl) (by rw [hcv]; exact hcs), if_pos (by rw [hcv]; exact harm)]

end

section
/-! PROOFS. Frames of fixed classes at the relay unit (O20, O21): delivered by their destination, and copied, dropped or neither. -/

namespace Sys2Proof.Machine

/-! ## Classification (R17, R18, R20) -/

/-- A whole frame that an end unit passes on (R12). -/
structure State.Arrives (s : State) (p : Port) (f : Frame) : Prop where
  powered : s.powered = true
  pilot : (s.port p).pilot = .mated
  rx : (s.port p).rx = none
  sound : f.wellFormed = true
  hop : f.hop ≤ 39

theorem State.Arrives.exec {s : State} {p : Port} {f : Frame} (h : s.Arrives p f) :
    exec (.lineFrameClosed p f.encode false) s = .next (s.classify p f).drainLine := by
  rw [exec_lineFrameClosed h.powered, State.frameClosed_good h.pilot h.rx h.sound h.hop]

theorem State.countClass_none {s : State} {cls : Nat} (h : (s.classEntry cls).countCode = none) : s.countClass cls = s := by
  rw [State.countClass, h]

theorem State.classify_fixed {s : State} {p : Port} {f : Frame} (h : (s.classEntry f.cls).countCode = none) (hc : f.cls ≤ 11) :
    s.classify p f = s.handleFixed p f := by
  rw [State.classify, State.countClass_none h]
  exact if_pos hc

theorem State.classify_data {s : State} {p : Port} {f : Frame} (h : (s.classEntry f.cls).countCode = none) (hc : 12 ≤ f.cls) :
    s.classify p f = s.handleData p f := by
  rw [State.classify, State.countClass_none h]
  exact if_neg (by omega)

theorem State.classUrgent_fixed {cls : Nat} (h : cls ≤ 11) (s : State) : s.classUrgent cls = decide (cls ≤ 6) := by
  unfold State.classUrgent
  by_cases h6 : cls ≤ 6
  · rw [if_pos h6, decide_eq_true h6]
  · rw [if_neg h6, if_pos h, decide_eq_false h6]

/-- The destinations that name this node alone (R18). -/
def State.named (k : DestKind) (v : BitVec 32) (s : State) : Prop :=
  (k = .position ∧ s.census.cs = .settled ∧ v.toNat = s.census.position) ∨ (k = .nodeId ∧ v = s.nodeId)
    ∨ (k = .lead ∧ (s.census.lead = .calling ∨ s.census.lead = .holding))

theorem State.destTest_named {k : DestKind} {v : BitVec 32} {s : State} (h : s.named k v) : s.destTest k v = .deliver := by
  rcases h with ⟨rfl, hc, hv⟩ | ⟨rfl, hv⟩ | ⟨rfl, hl⟩
  · exact if_pos ⟨decide_eq_true hc, hv⟩
  · exact if_pos hv
  · exact if_pos hl

theorem State.destTest_elsewhere {k : DestKind} {v : BitVec 32} {s : State} (hb : k ≠ .broadcast) (h : ¬s.named k v) : s.destTest k v = .relay := by
  cases k with
  | broadcast => exact absurd rfl hb
  | position => exact if_neg fun x => h (.inl ⟨rfl, of_decide_eq_true x.1, x.2⟩)
  | nodeId => exact if_neg fun x => h (.inr (.inl ⟨rfl, x⟩))
  | lead => exact if_neg fun x => h (.inr (.inr ⟨rfl, x⟩))

/-- The destinations for which a frame of a fixed class is this node's: a TOPOLOGY_CHANGE goes to the lead role, BLOCKED too (R20). -/
def State.fixedNamed (f : Frame) (s : State) : Prop :=
  (f.destKind = .position ∧ s.census.cs = .settled ∧ f.destVal.toNat = s.census.position) ∨ (f.destKind = .nodeId ∧ f.destVal = s.nodeId)
    ∨ (f.destKind = .lead ∧ (s.census.lead = .calling ∨ s.census.lead = .holding ∨ (f.cls = 3 ∧ s.census.lead = .blocked)))

theorem State.fixedNamed_of_named {f : Frame} {s : State} (h : s.named f.destKind f.destVal) : s.fixedNamed f :=
  h.imp_right fun h => h.imp_right fun h => ⟨h.1, h.2.imp_right .inl⟩

theorem State.fixedTest_call {f : Frame} (h : f.cls = 0) (s : State) : s.fixedTest f = .deliver := if_pos h

/-- A TOPOLOGY_CHANGE to the lead goes by the lead role alone (R20). -/
theorem State.fixedTest_change {f : Frame} (h : f.cls = 3 ∧ f.destKind = .lead) (s : State) :
    s.fixedTest f = if s.census.lead ≠ .off then .deliver else .relay := by
  rw [State.fixedTest, if_neg (by omega), if_pos h]
  exact if_congr decide_eq_true_iff rfl rfl

theorem State.fixedTest_plain {f : Frame} (h0 : 1 ≤ f.cls) (h : ¬(f.cls = 3 ∧ f.destKind = .lead)) (s : State) :
    s.fixedTest f = s.destTest f.destKind f.destVal := by
  rw [State.fixedTest, if_neg (by omega), if_neg h]

theorem State.fixedTest_broadcast {f : Frame} (h0 : 1 ≤ f.cls) (hk : f.destKind = .broadcast) (s : State) : s.fixedTest f = .both := by
  rw [State.fixedTest_plain h0 fun x => absurd (hk.symm.trans x.2) nofun, hk]
  rfl

theorem State.fixedTest_named {f : Frame} {s : State} (h0 : 1 ≤ f.cls) (h : s.fixedNamed f) : s.fixedTest f = .deliver := by
  by_cases h3 : f.cls = 3 ∧ f.destKind = .lead
  · rw [State.fixedTest_change h3]
    refine if_pos ?_
    rcases h with ⟨hk, _⟩ | ⟨hk, _⟩ | ⟨_, hl | hl | ⟨_, hl⟩⟩
    · rw [h3.2] at hk; exact absurd hk nofun
    · rw [h3.2] at hk; exact absurd hk nofun
    · rw [hl]; exact nofun
    · rw [hl]; exact nofun
    · rw [hl]; exact nofun
  · rw [State.fixedTest_plain h0 h3]
    refine State.destTest_named (h.imp_right fun h => h.imp_right fun ⟨hk, hl⟩ => ⟨hk, ?_⟩)
    rcases hl with hl | hl | ⟨hc, _⟩
    · exact .inl hl
    · exact .inr hl
    · exact absurd ⟨hc, hk⟩ h3

theorem State.fixedTest_elsewhere {f : Frame} {s : State} (h0 : 1 ≤ f.cls) (hb : f.destKind ≠ .broadcast) (h : ¬s.fixedNamed f) :
    s.fixedTest f = .relay := by
  by_cases h3 : f.cls = 3 ∧ f.destKind = .lead
  · rw [State.fixedTest_change h3]
    refine if_neg fun hl => h (.inr (.inr ⟨h3.2, ?_⟩))
    match hx : s.census.lead with
    | .off => exact absurd hx hl
    | .calling => exact .inl rfl
    | .holding => exact .inr (.inl rfl)
    | .blocked => exact .inr (.inr ⟨h3.1, rfl⟩)
  · rw [State.fixedTest_plain h0 h3]
    exact State.destTest_elsewhere hb fun x => h (State.fixedNamed_of_named x)

/-! ## Delivery (R20, R172) -/

/-- The state with a frame handed to its block (R12). -/
def State.handed (p : Port) (f : Frame) (s : State) : State := { s with delivered := [{ port := p, endNo := s.portEnd p, frame := f }] }

theorem State.deliverFrame_first {s : State} (h : s.delivered = []) (p : Port) (f : Frame) : s.deliverFrame p f = s.handed p f := by
  rw [State.deliverFrame, h]
  rfl

theorem State.deliverFixed_block {s : State} {p : Port} {f : Frame} (h : s.delivered = []) (hc : f.cls ≤ 8) :
    s.deliverFixed p f = s.handed p f := by
  rw [State.deliverFixed, if_neg (by omega), if_neg (by omega), if_neg (by omega), State.deliverFrame_first h]

/-- A MGMT_REQUEST goes to its block when it names the node, by its position or its ID (R172). -/
theorem State.deliverFixed_request {s : State} {p : Port} {f : Frame} (hc : f.cls = 9) : s.deliverFixed p f =
    if f.destKind = .position ∨ f.destKind = .nodeId then s.deliverFrame p f else s := by
  rw [State.deliverFixed, if_neg (by omega), if_neg (by omega), if_pos hc]
  cases f.destKind <;> rfl

theorem State.deliverFixed_response {s : State} {p : Port} {f : Frame} (hc : f.cls = 10) : s.deliverFixed p f = s := by
  rw [State.deliverFixed, if_neg (by omega), if_pos hc]

/-- The message that a delivered NOTICE frame becomes (12.9). -/
def Frame.noticed (f : Frame) : Message := { kind := 0x82, payload := idBytes f.srcId ++ byte f.srcPos :: f.payload }

theorem State.deliverFixed_notice {s : State} {p : Port} {f : Frame} (hc : f.cls = 11) :
    s.deliverFixed p f = if f.payload.length = 4 then s.pushMessage f.noticed else s := by
  rw [State.deliverFixed, if_pos hc]
  simp only [State.deliverNotice, Frame.noticed, List.append_assoc, List.cons_append, List.nil_append]

theorem State.drainLine_clear {s : State} (h : s.delivered = []) : s.drainLine = s := State.drainLine_none (by rw [h]; rfl)

/-- A handed frame of another class leaves the requests of the line as they are. -/
theorem State.drainLine_handed {s : State} {p : Port} {f : Frame} (h : f.cls ≠ 9) : (s.handed p f).drainLine = s.handed p f :=
  State.drainLine_none (by rw [State.handed, takeClass, if_neg h]; rfl)

/-- A handed request of a known type waits for its command (log 21). -/
theorem State.drainLine_request {s : State} {p : Port} {f : Frame} {r : Request} (h : f.cls = 9) (hr : readRequest f.payload = some r)
    (hk : isRequestCode r.kind = true) : (s.handed p f).drainLine = s.handed p f := by
  have ht : takeClass 9 (s.handed p f).delivered = some ({ port := p, endNo := s.portEnd p, frame := f }, []) := if_pos h
  show State.drainLineFuel 1 (s.handed p f) = s.handed p f
  rw [State.drainLineFuel, ht]
  simp only [hr]
  exact if_pos hk

/-! ## The relayed copy (R24, R25, R27) -/

/-- The copy that goes on has one hop more (R24). -/
def Frame.relayed (f : Frame) : Frame := { f with hop := f.hop + 1 }

section
variable {s : State} {p : Port} {u : Bool} {f : Frame}

theorem State.relayFrame_ready (h : s.Ready (otherPort p)) : s.relayFrame p u f = s.begun (otherPort p) f.relayed := State.sendOne_ready h _ _

theorem State.relayFrame_room {x : LinePort} (hm : s.mated (otherPort p) = true) (hx : (s.port (otherPort p)).enqueue u f.relayed = some x) :
    s.relayFrame p u f = s.setPort (otherPort p) x := State.sendOne_room hm hx

theorem State.relayFrame_full (hm : s.mated (otherPort p) = true) (hx : (s.port (otherPort p)).enqueue u f.relayed = none) :
    s.relayFrame p u f = s.count (if u then 3 else 2) := by
  unfold Frame.relayed at hx
  rw [State.relayFrame, State.sendOne, if_pos hm, State.offer, hx]

/-- No copy of a broadcast is made where there is no neighbour (R25). -/
theorem State.relayFrame_alone (hm : s.mated (otherPort p) = false) (hk : f.destKind = .broadcast) : s.relayFrame p u f = s := by
  rw [State.relayFrame, State.sendOne, if_neg (by simp [hm])]
  exact if_pos hk

theorem State.relayFrame_dropped (hm : s.mated (otherPort p) = false) (hk : f.destKind ≠ .broadcast) : s.relayFrame p u f = s.count 4 := by
  rw [State.relayFrame, State.sendOne, if_neg (by simp [hm])]
  exact if_neg hk

end

theorem State.unmated_of_pilot {s : State} {p : Port} (h : (s.port p).pilot ≠ .mated) : s.mated p = false := decide_eq_false h

/-! ## A dropped frame (R27, R164, R168) -/

/-- A drop counted at a code that has a counter, before its condition. -/
theorem State.count_drop {s : State} {code : Nat} (hd : code = 2 ∨ code = 3 ∨ code = 4) (h : code < s.events.counters.length) :
    s.count code = ({ s with events := s.events.bump code } : State).raise .framesDropped := by
  rw [State.count, State.countWith, if_pos hd, if_pos h]

theorem State.count_drop_standing {s : State} {code : Nat} (hd : code = 2 ∨ code = 3 ∨ code = 4) (h : code < s.events.counters.length)
    (hf : hasFlag s.notices.flags .framesDropped = true) : s.count code = { s with events := s.events.bump code } := by
  rw [State.count_drop hd h]
  exact State.raise_standing hf

/-- A port whose transmitter is busy: neither that nor its urgent queue moves, and a full normal queue takes nothing. -/
def Behind (q : Port) (s t : State) : Prop :=
  (s.port q).tx ≠ none → (t.port q).tx = (s.port q).tx ∧ (t.port q).urgentQ = (s.port q).urgentQ
    ∧ (16 ≤ (s.port q).normalQ.length → t.port q = s.port q)

theorem tells_behind (q : Port) : Tells (Behind q) where
  trans {s t u} h k ht := by
    obtain ⟨h1, h2, h3⟩ := h ht
    obtain ⟨k1, k2, k3⟩ := k (h1 ▸ ht)
    exact ⟨k1.trans h1, k2.trans h2, fun hn => (k3 (h3 hn ▸ hn)).trans (h3 hn)⟩
  inner {s t} _ ha hb ht := by
    have hp : t.port q = s.port q := by cases q; exacts [ha, hb]
    rw [hp]
    exact ⟨rfl, rfl, fun _ => rfl⟩
  queued {s p f x} _ _ hx ht := by
    by_cases hq : q = p
    · subst hq
      rw [State.port_setPort]
      rw [LinePort.enqueue_busy ht, if_neg (by decide)] at hx
      split at hx
      · cases hx
        exact ⟨rfl, rfl, fun hn => by omega⟩
      · exact absurd hx nofun
    · rw [State.port_setPort_ne _ _ hq]
      exact ⟨rfl, rfl, fun _ => rfl⟩

/-- A frame that names one end is offered there (R26). -/
theorem State.originateWith_one {count : Nat → State → State} {s : State} {m : Sending} {p : Port}
    (ho : s.isOwnDestination m.destKind m.destVal = false) :
    s.originateWith count m (.one p) = s.sendOne count p (s.complete m).urgent (s.complete m) := by
  unfold State.originateWith
  rw [ho]
  rfl

/-- FRAMES_DROPPED at a member whose lead end is busy: the NOTICE frame waits there, or is dropped in turn, with the flag set by then (R169). -/
theorem State.raise_dropped_busy {s : State} (hf : hasFlag s.notices.flags .framesDropped = false)
    (he : hasFlag s.notices.enable .framesDropped = true) (hr : s.Room) (hl : s.census.lead = .off) {e : EndNo}
    (hx : s.census.leadEnd = some e) (hm : s.mated (s.endPort e) = true) (ht : (s.port (s.endPort e)).tx ≠ none)
    (h2 : 2 < s.events.counters.length) :
    let x := s.port (s.endPort e)
    let out := (s.setFlag .framesDropped).tell ((s.setFlag .framesDropped).noticeMessage .framesDropped)
    s.raise .framesDropped =
      if x.normalQ.length < 16 then
        out.setPort (s.endPort e) { x with normalQ := x.normalQ ++ [(s.setFlag .framesDropped).noticeFrame .framesDropped] }
      else { out with events := s.events.bump 2 } := by
  intro x out
  have hn : s.noticeLeave = .one (s.endPort e) := by rw [State.noticeLeave, hx]
  have hfr : out.complete ((s.setFlag .framesDropped).noticeSending .framesDropped) = (s.setFlag .framesDropped).noticeFrame .framesDropped :=
    State.complete_notice _ (s.setFlag .framesDropped)
  have hport (q : Port) : out.port q = s.port q := by cases q <;> rfl
  have hmo : out.mated (s.endPort e) = true := by rw [State.mated, hport]; exact hm
  rw [State.raise_member hf he hr hl, hn]
  refine (State.originateWith_one (State.isOwnDestination_lead (s := out) hl 0)).trans ?_
  rw [hfr, show ((s.setFlag .framesDropped).noticeFrame .framesDropped).urgent = false from rfl, State.sendOne, if_pos hmo, State.offer, hport,
    LinePort.enqueue_busy ht, if_neg (by decide)]
  by_cases hlen : x.normalQ.length < 16
  · rw [if_pos hlen, if_pos hlen]
  · rw [if_neg hlen, if_neg hlen]
    show State.countWith _ 2 out = _
    have hset : hasFlag out.notices.flags .framesDropped = true := hasFlag_setFlag _ _
    rw [State.countWith, if_pos (.inl rfl), if_pos (show 2 < out.events.counters.length from h2), State.raiseFuel]
    exact if_pos hset

/-! ## A broadcast (R20) -/

/-- What a delivered frame leaves for its copy. -/
structure Handover (s d : State) : Prop where
  frame : s.sameFrame d
  port : ∀ q, d.port q = s.port q
  census : d.census = s.census
  doors : d.doors = s.doors
  notices : d.notices = s.notices
  size : d.events.counters.length = s.events.counters.length
  waits : takeClass 9 d.delivered = none

theorem Handover.refl {s : State} (h : takeClass 9 s.delivered = none) : Handover s s :=
  ⟨⟨rfl, rfl, rfl, rfl, rfl⟩, fun _ => rfl, rfl, rfl, rfl, rfl, h⟩

theorem Handover.handed {s : State} {p : Port} {f : Frame} (h : f.cls ≠ 9) : Handover s (s.handed p f) :=
  ⟨⟨rfl, rfl, rfl, rfl, rfl⟩, fun q => by cases q <;> rfl, rfl, rfl, rfl, rfl, by rw [State.handed, takeClass, if_neg h]; rfl⟩

theorem Handover.tell {s : State} (h : takeClass 9 s.delivered = none) (m : Message) : Handover s (s.tell m) :=
  ⟨⟨rfl, rfl, rfl, rfl, rfl⟩, s.port_tell m, rfl, rfl, rfl, rfl, h⟩

theorem Handover.bumped {s : State} (h : takeClass 9 s.delivered = none) (c : Nat) : Handover s { s with events := s.events.bump c } :=
  ⟨⟨rfl, rfl, rfl, rfl, rfl⟩, s.port_events _, rfl, rfl, rfl, Events.bump_size _ _, h⟩

theorem Handover.endPort {s d : State} (h : Handover s d) (e : EndNo) : d.endPort e = s.endPort e :=
  State.endPort_congr h.frame e

theorem Handover.ready {s d : State} (h : Handover s d) {q : Port} (i : s.idleEnd q) : d.Ready q := (State.ready_of_idleEnd i).congr (h.port q)

/-- A broadcast is handed to its block, dropped there, or made a message (R20, R172). -/
theorem State.deliverFixed_broadcast {s : State} {p : Port} {f : Frame} (hd : s.delivered = []) (hk : f.destKind = .broadcast) (h : f.cls ≤ 11)
    (hb : f.cls = 11 → f.payload.length = 4 → s.link.sending ≠ none ∧ 15 < s.events.counters.length) :
    s.deliverFixed p f =
      (if f.cls ≤ 8 then s.handed p f
      else if f.cls = 11 ∧ f.payload.length = 4 then
        if s.link.txQ.length + s.link.reserved < 8 then s.tell f.noticed else { s with events := s.events.bump 15 }
      else s)
    ∧ Handover s (s.deliverFixed p f) := by
  have hn : takeClass 9 s.delivered = none := by rw [hd]; rfl
  by_cases h8 : f.cls ≤ 8
  · rw [State.deliverFixed_block hd h8, if_pos h8]
    exact ⟨rfl, Handover.handed (by omega)⟩
  · rw [if_neg h8]
    by_cases h11 : f.cls = 11
    · rw [State.deliverFixed_notice h11]
      by_cases h4 : f.payload.length = 4
      · obtain ⟨hs, h15⟩ := hb h11 h4
        rw [if_pos h4, if_pos ⟨h11, h4⟩]
        by_cases hr : s.link.txQ.length + s.link.reserved < 8
        · rw [State.pushMessage_room ⟨hs, hr⟩, if_pos hr]
          exact ⟨rfl, Handover.tell hn _⟩
        · rw [State.pushMessage_full (by omega) h15, if_neg hr]
          exact ⟨rfl, Handover.bumped hn 15⟩
      · rw [if_neg h4, if_neg fun x => h4 x.2]
        exact ⟨rfl, Handover.refl hn⟩
    · rw [if_neg fun x => h11 x.1]
      by_cases h9 : f.cls = 9
      · rw [State.deliverFixed_request h9, hk, if_neg (by decide)]
        exact ⟨rfl, Handover.refl hn⟩
      · rw [State.deliverFixed_response (by omega)]
        exact ⟨rfl, Handover.refl hn⟩

/-! ## Coach data that the class entry bars (R22) -/

/-- The entry of a class lets nothing of this frame through here. -/
def State.barred (f : Frame) (s : State) : Prop :=
  let e := s.classEntry f.cls
  (e.needsSettled = true ∧ s.census.cs ≠ .settled) ∨ (e.restrict = .awayOnly ∧ f.dir = .toward) ∨ (e.restrict = .towardOnly ∧ f.dir = .away)
    ∨ e.action = .drop ∨ (e.action = .deliver ∧ f.destKind ≠ .broadcast ∧ ¬s.named f.destKind f.destVal)
    ∨ (e.action = .relay ∧ s.named f.destKind f.destVal)

theorem Restriction.allows_iff (r : Restriction) (d : Dir) :
    r.allows d = true ↔ r = .any ∨ (r = .awayOnly ∧ d = .away) ∨ (r = .towardOnly ∧ d = .toward) := by
  cases r <;> cases d <;> decide

/-- Coach data of a node that meets the entry's demands goes by its action and its destination. -/
theorem State.handleData_allowed {s : State} {p : Port} {f : Frame} (hs : (s.classEntry f.cls).needsSettled = true → s.census.cs = .settled)
    (hr : (s.classEntry f.cls).restrict.allows f.dir = true) {v : Verdict} (hv : s.destTest f.destKind f.destVal = v) {a b : Bool}
    (ho : dataOutcome (s.classEntry f.cls).action v = (a, b)) :
    s.handleData p f = if b then (if a then s.deliverData f else s).relayFrame p (s.classEntry f.cls).urgent f
      else if a then s.deliverData f else s := by
  have h1 : ¬((s.classEntry f.cls).needsSettled = true ∧ s.settled = false) := fun h => by
    have := hs h.1
    simp [State.settled, this] at h
  rw [State.handleData, if_neg h1, if_neg (by simp [hr])]
  simp only [hv, ho]

theorem State.handleData_unsettled {s : State} {p : Port} {f : Frame} (hs : (s.classEntry f.cls).needsSettled = true ∧ s.census.cs ≠ .settled) :
    s.handleData p f = s := if_pos ⟨hs.1, decide_eq_false hs.2⟩

theorem State.handleData_restricted {s : State} {p : Port} {f : Frame} (hr : (s.classEntry f.cls).restrict.allows f.dir = false) :
    s.handleData p f = s := by
  rw [State.handleData]
  simp only [hr, if_true, ite_self]

theorem dataOutcome_drop (v : Verdict) : dataOutcome .drop v = (false, false) := rfl

/-- An action of neither delivery nor relaying leaves nothing to do. -/
theorem State.handleData_neither {s : State} {p : Port} {f : Frame}
    (ho : dataOutcome (s.classEntry f.cls).action (s.destTest f.destKind f.destVal) = (false, false)) : s.handleData p f = s := by
  by_cases hs : (s.classEntry f.cls).needsSettled = true ∧ s.census.cs ≠ .settled
  · exact State.handleData_unsettled hs
  · by_cases hr : (s.classEntry f.cls).restrict.allows f.dir = true
    · exact State.handleData_allowed (fun h => Classical.not_not.mp fun x => hs ⟨h, x⟩) hr rfl ho
    · exact State.handleData_restricted (Bool.eq_false_iff.mpr hr)

theorem State.handleData_barred {s : State} {p : Port} {f : Frame} (h : s.barred f) : s.handleData p f = s := by
  rcases h with h | ⟨hr, hd⟩ | ⟨hr, hd⟩ | ha | ⟨ha, hb, hn⟩ | ⟨ha, hn⟩
  · exact State.handleData_unsettled h
  · exact State.handleData_restricted (by rw [hr, hd]; rfl)
  · exact State.handleData_restricted (by rw [hr, hd]; rfl)
  · exact State.handleData_neither (by rw [ha]; rfl)
  · exact State.handleData_neither (by rw [ha, State.destTest_elsewhere hb hn]; rfl)
  · exact State.handleData_neither (by rw [ha, State.destTest_named hn]; rfl)

end Sys2Proof.Machine
end

section

open Sys2Proof Sys2Proof.Machine

/-- Settles O20: what is delivered, and then the copy by the state of the opposite port. -/
theorem broadcastDeliveredAndRelayed : Obligations.BroadcastDeliveredAndRelayed := by
  intro s p f hp hm hr hd hf hh hk h1 h11 hcc hb q y told d g does flag flags tail m notice room dropped
  obtain ⟨hdel, hand⟩ := State.deliverFixed_broadcast (p := p) hd hk h11 hb
  have hdel : s.deliverFixed p f = d := hdel
  rw [hdel] at hand
  have hdoes {t : State} (ht : d.relayFrame p (decide (f.cls ≤ 6)) f = t) : does t := by
    show exec _ _ = _
    rw [State.Arrives.exec ⟨hp, hm, hr, hf, hh⟩, State.classify_fixed hcc h11, State.handleFixed, State.fixedTest_broadcast h1 hk]
    simp only [hdel, State.classUrgent_fixed h11]
    rw [← ht]
    exact congrArg _ (State.drainLine_none (by rw [State.relayFrame_delivered]; exact hand.waits))
  clear_value d
  have hy : d.port q = y := hand.port q
  have hmated (hm : y.pilot = .mated) : d.mated q = true := decide_eq_true (by rw [hy]; exact hm)
  have hcopy (hm : y.pilot = .mated) {x : LinePort} (hx : y.enqueue (decide (f.cls ≤ 6)) g = some x) : does (d.setPort q x) :=
    hdoes (State.relayFrame_room (hmated hm) (by rw [hand.port]; exact hx))
  have hlost {code : Nat} (hc : code = 2 ∨ code = 3 ∨ code = 4) (h3 : 3 < s.events.counters.length) (hlt : code < s.events.counters.length)
      (ht : y.tx ≠ none) (hm : y.pilot = .mated) (hfull : code = 2 → 16 ≤ y.normalQ.length)
      (hrel : d.relayFrame p (decide (f.cls ≤ 6)) f = d.count code) : dropped code := by
    have hraise := hrel.trans (State.count_drop hc (by rw [hand.size]; exact hlt))
    generalize hcd : ({ d with events := d.events.bump code } : State) = c at hraise
    have hn : c.notices = s.notices := by rw [← hcd]; exact hand.notices
    have hcen : c.census = s.census := by rw [← hcd]; exact hand.census
    have hport (x : Port) : c.port x = s.port x := by rw [← hcd]; exact (State.port_events _ _ x).trans (hand.port x)
    have hend (e : EndNo) : c.endPort e = s.endPort e := by rw [← hcd]; exact hand.endPort e
    have hid : c.nodeId = s.nodeId := by rw [← hcd]; exact hand.frame.2.1
    have hmark : c.setFlag flag = { c with notices := { s.notices with flags := flags } } := by rw [State.setFlag_eq, hn]
    have hmsg : (c.setFlag flag).noticeMessage flag = m := by
      rw [hmark, State.noticeMessage_eq, hcen, hid]
    have hfr : (c.setFlag flag).noticeFrame flag = notice := by
      rw [hmark, State.noticeFrame]
      have ho := State.ownFrame_congr (s := s) (t := { c with notices := { s.notices with flags := flags } }) hcen hid
      rw [ho]
      simp only [hcen]
      rfl
    have hroom (h : room) : c.Room := by rw [← hcd]; exact ⟨h.1, h.2⟩
    refine ⟨fun h => ?_, fun h he => ?_, fun h hl => ?_, fun e h hl hx he hi => ?_, fun e h hl hx he => ?_, ?_⟩
    · exact hdoes ((hraise.trans (State.raise_standing (by rw [hn]; exact h))).trans hcd.symm)
    · refine hdoes ((hraise.trans ((State.raise_disabled (by rw [hn]; exact h) (by rw [hn]; exact he)).trans hmark)).trans ?_)
      rw [← hcd]
    · refine hdoes ((hraise.trans (State.raise_lead (by rw [hn]; exact h.1) (by rw [hn]; exact h.2.1) (hroom h.2.2) (by rw [hcen]; exact hl))).trans ?_)
      rw [hmsg, hmark, ← hcd]
      rfl
    · refine hdoes ((hraise.trans (State.raise_leadEnd (by rw [hn]; exact h.1) (by rw [hn]; exact h.2.1) (hroom h.2.2) (by rw [hcen]; exact hl)
        (e := e) (by rw [hcen]; exact hx) ?_)).trans ?_)
      · rw [hend, he]
        exact (State.ready_of_idleEnd hi).congr (hport p)
      · rw [hmsg, hfr, hend, he, hmark, ← hcd]
        rfl
    · have hq : c.port (c.endPort e) = y := by rw [hend, he]; exact hport q
      have hbusy := State.raise_dropped_busy (s := c) (by rw [hn]; exact h.1) (by rw [hn]; exact h.2.1) (hroom h.2.2) (by rw [hcen]; exact hl)
        (e := e) (by rw [hcen]; exact hx) (decide_eq_true (by rw [hq]; exact hm)) (by rw [hq]; exact ht)
        (by rw [← hcd]; show 2 < (d.events.bump code).counters.length; rw [Events.bump_size, hand.size]; omega)
      dsimp only at hbusy
      have hbusy := hraise.trans hbusy
      rw [hq, hmsg, hfr, hend, he, hmark] at hbusy
      refine ⟨fun hlen => ?_, fun hlen => ?_⟩
      · rw [if_pos hlen] at hbusy
        refine hdoes (hbusy.trans ?_)
        rw [← hcd]
        rfl
      · rw [if_neg (by omega)] at hbusy
        refine hdoes (hbusy.trans ?_)
        rw [← hcd]
        rfl
    · have hk := State.count_quiet code d
      have hb := (tells_behind q).count code d (by rw [hy]; exact ht)
      rw [hy] at hb
      obtain ⟨htx, hur, hno⟩ := hb
      obtain ⟨f1, f2, f3, f4, f5⟩ := hand.frame
      exact ⟨_, hdoes hrel, hk.delivered, State.count_drop_sets hc d, htx, hur, fun h2 => hno (hfull h2),
        ⟨hk.powered.trans f1, hk.nodeId.trans f2, hk.strap.trans f3, hk.mgmt.trans f4, hk.pending.trans f5⟩, hk.census.trans hand.census,
        hk.doors.trans hand.doors⟩
  refine ⟨fun h => ?_, fun h1 h2 h3 h4 => ?_, fun h1 h2 h3 h4 => ?_, fun h1 h2 h3 h4 => ?_, fun h1 h2 h3 h4 h5 => ?_, fun h1 h2 h3 h4 h5 => ?_⟩
  · exact hdoes (State.relayFrame_alone (State.unmated_of_pilot (by rw [hand.port]; exact h)) hk)
  · exact hcopy h1 (LinePort.enqueue_idle h1 h2 h3 h4 _ _)
  · exact hcopy h1 (by rw [LinePort.enqueue_busy h2, if_pos (decide_eq_true h4), if_pos h3])
  · exact hcopy h1 (by rw [LinePort.enqueue_busy h2, if_neg (by simp only [decide_eq_true_eq]; omega), if_pos h3])
  · have h6 : decide (f.cls ≤ 6) = true := decide_eq_true h4
    refine hlost (.inr (.inl rfl)) h5 h5 h2 h1 nofun ((State.relayFrame_full (hmated h1) ?_).trans ?_)
    · rw [hand.port, LinePort.enqueue_busy h2, if_pos h6, if_neg (by omega)]
    · rw [if_pos h6]
  · have h6 : ¬decide (f.cls ≤ 6) = true := by simp only [decide_eq_true_eq]; omega
    refine hlost (.inl rfl) h5 (by omega) h2 h1 (fun _ => h3) ((State.relayFrame_full (hmated h1) ?_).trans ?_)
    · rw [hand.port, LinePort.enqueue_busy h2, if_neg h6, if_neg (by omega)]
    · rw [if_neg h6]

end

section

open Sys2Proof Sys2Proof.Machine

/-- Settles O21: by the class and the destination test, and the class entry of coach data. -/
theorem leadAndDataFramesHandled : Obligations.LeadAndDataFramesHandled := by
  intro s p f hp hm hr hd hf hh hcc q y e g does handed here elsewhere m
  have hexec := State.Arrives.exec (s := s) (p := p) (f := f) ⟨hp, hm, hr, hf, hh⟩
  have hhere (h0 : 1 ≤ f.cls) (hc : f.cls ≤ 11) (hn : here) : exec (.lineFrameClosed p f.encode false) s = .next (s.deliverFixed p f).drainLine := by
    rw [hexec, State.classify_fixed hcc hc, State.handleFixed, State.fixedTest_named h0 hn]
  have hstays (h0 : 1 ≤ f.cls) (hc : f.cls ≤ 11) (hn : here) (hdel : s.deliverFixed p f = s) : does s := by
    show exec _ _ = _
    rw [hhere h0 hc hn, hdel, State.drainLine_clear hd]
  have hrelay (he : elsewhere) {t : State} (ht : s.relayFrame p (decide (f.cls ≤ 6)) f = t) : does t := by
    obtain ⟨hb, hn, h0, hc⟩ := he
    show exec _ _ = _
    rw [hexec, State.classify_fixed hcc hc, State.handleFixed, State.fixedTest_elsewhere h0 hb hn]
    simp only [State.classUrgent_fixed hc]
    rw [← ht]
    exact congrArg _ (State.drainLine_clear (by rw [State.relayFrame_delivered]; exact hd))
  refine ⟨fun hc => ?_, fun h0 h8 hn => ?_, fun code h l args h9 hn hk hpl h1 h22 => ?_, fun h9 hn hk => ?_, fun h10 hn => ?_, fun h11 hn hlen => ?_,
    fun h11 hn hlen hs hr => ?_, fun h11 hn hlen hr h15 => ?_, fun he hi => ?_, fun he hy ht => ⟨fun h6 hlen => ?_, fun h7 hlen => ?_⟩,
    fun he hy h4 hset => ?_, fun he hy => ?_, fun h12 hbar => ?_⟩
  · show exec _ _ = _
    rw [hexec, State.classify_fixed hcc (by omega), State.handleFixed, State.fixedTest_call hc]
    dsimp only
    rw [State.deliverFixed_block hd (by omega), State.drainLine_handed (by omega)]
    rfl
  · show exec _ _ = _
    rw [hhere h0 (by omega) hn, State.deliverFixed_block hd h8, State.drainLine_handed (by omega)]
    rfl
  · have hk : f.destKind = .position ∨ f.destKind = .nodeId := hn.imp (·.1) fun h => (h.resolve_right fun h => hk h.1).1
    have hread : readRequest f.payload = some { kind := code.toNat, tag := u16 h l, args := args } := by rw [hpl]; rfl
    have hknown : isRequestCode code.toNat = true := by simp [isRequestCode, h1, h22]
    show exec _ _ = _
    rw [hhere (by omega) (by omega) hn, State.deliverFixed_request h9, if_pos hk, State.deliverFrame_first hd,
      State.drainLine_request h9 hread hknown]
    rfl
  · exact hstays (by omega) (by omega) hn (by rw [State.deliverFixed_request h9, hk]; exact if_neg (by decide))
  · exact hstays (by omega) (by omega) hn (State.deliverFixed_response h10)
  · exact hstays (by omega) (by omega) hn (by rw [State.deliverFixed_notice h11]; exact if_neg hlen)
  · show exec _ _ = _
    rw [hhere (by omega) (by omega) hn, State.deliverFixed_notice h11, if_pos hlen, State.pushMessage_room ⟨hs, hr⟩]
    exact congrArg _ (State.drainLine_clear (s := s.tell f.noticed) hd)
  · show exec _ _ = _
    rw [hhere (by omega) (by omega) hn, State.deliverFixed_notice h11, if_pos hlen, State.pushMessage_full hr h15]
    exact congrArg _ (State.drainLine_clear (s := { s with events := s.events.bump 15 }) hd)
  · exact hrelay he (State.relayFrame_ready (State.ready_of_idleEnd hi))
  · exact hrelay he (State.relayFrame_room (decide_eq_true hy) (by rw [LinePort.enqueue_busy ht, if_pos (decide_eq_true h6), if_pos hlen]; rfl))
  · exact hrelay he (State.relayFrame_room (decide_eq_true hy)
      (by rw [LinePort.enqueue_busy ht, if_neg (by simp only [decide_eq_true_eq]; omega), if_pos hlen]; rfl))
  · exact hrelay he ((State.relayFrame_dropped (State.unmated_of_pilot hy) he.1).trans (State.count_drop_standing (.inr (.inr rfl)) h4 hset))
  · have k := State.count_quiet 4 s
    exact ⟨_, hrelay he (State.relayFrame_dropped (State.unmated_of_pilot hy) he.1), State.count_drop_sets (.inr (.inr rfl)) s,
      k.delivered.trans hd, ⟨k.powered, k.nodeId, k.strap, k.mgmt, k.pending⟩, k.census, k.doors, k.line⟩
  · have hb : s.barred f := by
      have hiff : here ↔ s.named f.destKind f.destVal := or_congr Iff.rfl (or_congr Iff.rfl (and_congr_right fun _ =>
        or_congr Iff.rfl ⟨fun h => h.elim id fun h => absurd h.1 (by omega), .inl⟩))
      rw [hiff] at hbar
      exact hbar
    show exec _ _ = _
    rw [hexec, State.classify_data hcc h12, State.handleData_barred hb, State.drainLine_clear hd]

end

section
/-! PROOFS. Coach data at the relay unit (O22), and coach data of the node's own coach (O23). -/

namespace Sys2Proof.Machine

/-! ## Coach data received (R22, R23) -/

/-- The message that delivered coach data becomes (12.6). -/
def Frame.coachData (f : Frame) : Message :=
  { kind := 0x83, payload := byte f.cls :: idBytes f.srcId ++ [byte f.srcPos, byte f.epoch, byte f.dir.code] ++ f.payload }

theorem State.deliverData_room {s : State} {f : Frame} (hl : f.payload.length ≤ 64) (h : s.Room) : s.deliverData f = s.tell f.coachData := by
  rw [State.deliverData, if_pos (show f.payload.length ≤ maxCoachData from hl), State.pushMessage_room h]
  rfl

theorem State.deliverData_lost {s : State} {f : Frame} (h15 : 15 < s.events.counters.length)
    (h : 64 < f.payload.length ∨ 8 ≤ s.link.txQ.length + s.link.reserved) : s.deliverData f = { s with events := s.events.bump 15 } := by
  have hmax : maxCoachData = 64 := rfl
  by_cases hl : f.payload.length ≤ 64
  · rw [State.deliverData, if_pos (show f.payload.length ≤ maxCoachData from hl)]
    exact State.pushMessage_full (h.resolve_left (by omega)) h15 _
  · rw [State.deliverData, if_neg (by omega), State.count_fifteen h15]

theorem State.destTest_broadcast {k : DestKind} (h : k = .broadcast) (v : BitVec 32) (s : State) : s.destTest k v = .both := by rw [h]; rfl

/-- A count code that finds its counter, or its exception told, is counted and does nothing else (R19, R164). -/
theorem State.countClass_told {s : State} {cls code : Nat} (h : (s.classEntry cls).countCode = some code) (h16 : 16 ≤ code)
    (hc : code < s.events.counters.length ∨ hasFlag s.notices.flags .counterException = true) :
    s.countClass cls = { s with events := s.events.bump code } := by
  rw [State.countClass, h]
  dsimp only
  rw [State.count, State.countWith, if_neg (by omega)]
  split
  · rfl
  · exact State.raise_standing (hc.resolve_left ‹_›)

/-! ## Coach data sent (R27a) -/

/-- A frame of the node's own coach, as the relay unit completes it (R26, R27a). -/
def State.dataFrame (s : State) (cls : Nat) (dir : Dir) (k : DestKind) (v : BitVec 32) (payload : List Byte) : Frame :=
  { cls := cls, urgent := (s.classEntry cls).urgent, dir := dir, hop := 0, epoch := if s.census.cs = .settled then s.census.epoch else 0
    srcPos := if s.census.cs = .settled then s.census.position else 0, destKind := k, destVal := v, srcId := s.nodeId, payload := payload }

theorem State.complete_data {s : State} {cls : Nat} (h : 12 ≤ cls) (dir : Dir) (k : DestKind) (v : BitVec 32) (payload : List Byte) :
    s.complete { cls := cls, dir := dir, epoch := s.shownEpoch, destKind := k, destVal := v, payload := payload } =
      s.dataFrame cls dir k v payload := by
  have hu : s.classUrgent cls = (s.classEntry cls).urgent := by
    rw [State.classUrgent, if_neg (by omega), if_neg (by omega)]
    rfl
  rw [State.complete, State.dataFrame, hu, State.shownEpoch_eq, State.shownPosition_eq]

/-- Completing a frame does not look at the ports. -/
theorem State.complete_begun (s : State) (p : Port) (f : Frame) (m : Sending) : (s.begun p f).complete m = s.complete m := by
  cases p <;> rfl

theorem State.dataLeadEnd_eq (s : State) :
    s.dataLeadEnd = if s.census.lead = .off then s.census.leadEnd else some s.mgmt.working.coach.cabEnd := by
  unfold State.dataLeadEnd State.isLead
  by_cases h : s.census.lead = .off <;> simp [h]

/-- What coach data of the own coach needs to leave at all. -/
structure State.Outgoing (s : State) (cls : Nat) (k : DestKind) (v : BitVec 32) : Prop where
  settled : (s.classEntry cls).needsSettled = true → s.census.cs = .settled
  action : (s.classEntry cls).action ≠ .drop
  elsewhere : s.isOwnDestination k v = false

section
variable {s : State} {cls : Nat} {k : DestKind} {v : BitVec 32} {data : List Byte}

theorem State.originateData_silent (h : ((s.classEntry cls).needsSettled = true ∧ s.census.cs ≠ .settled) ∨ (s.classEntry cls).action = .drop
    ∨ s.isOwnDestination k v = true) : s.originateData cls k v data = s := by
  unfold State.originateData
  dsimp only
  split
  · rfl
  · rename_i hs
    split
    · rfl
    · rename_i ha
      refine if_pos (h.elim (fun h => absurd ⟨h.1, ?_⟩ hs) fun h => h.elim (fun h => absurd h ha) id)
      exact decide_eq_false h.2

/-- Coach data for one position, or for the lead, leaves by one end (R27a). -/
theorem State.originateData_toward (h : s.Outgoing cls k v) (hs : s.census.cs = .settled) {en : EndNo} (he : s.dataLeadEnd = some en)
    (hw : k = .lead ∨ (k = .position ∧ v.toNat < s.census.position)) :
    s.originateData cls k v data = s.sendData (s.classEntry cls)
      { cls := cls, dir := .toward, epoch := s.shownEpoch, destKind := k, destVal := if k = .lead then 0 else v, payload := data }
      (s.endPort en) true := by
  have hset : s.settled = true := decide_eq_true hs
  unfold State.originateData
  simp only [hset, h.action, h.elsewhere, he, Bool.true_eq_false, and_false, if_false, Bool.false_eq_true, Option.getD_some]
  rcases hw with rfl | ⟨rfl, hv⟩
  · simp only [State.dataWay, hset, if_true]
  · simp only [State.dataWay, hset, if_true, if_pos hv]
    rfl

theorem State.originateData_away (h : s.Outgoing cls .position v) (hs : s.census.cs = .settled) {en : EndNo} (he : s.dataLeadEnd = some en)
    (hv : ¬v.toNat < s.census.position) :
    s.originateData cls .position v data = s.sendData (s.classEntry cls)
      { cls := cls, dir := .away, epoch := s.shownEpoch, destKind := .position, destVal := v, payload := data } (s.endPort en.other) true := by
  have hset : s.settled = true := decide_eq_true hs
  unfold State.originateData
  simp only [hset, h.action, h.elsewhere, he, Bool.true_eq_false, and_false, if_false, Bool.false_eq_true, Option.getD_some, State.dataWay,
    if_true, if_neg hv]

/-- A broadcast of the own coach leaves by both ends, end 1 first (R27a; log 20). -/
theorem State.originateData_both (h : s.Outgoing cls .broadcast v) :
    let m : Dir → Sending := fun dir =>
      { cls := cls, dir := dir, epoch := s.shownEpoch, destKind := .broadcast, destVal := 0, payload := data }
    let one : Dir := if s.dataLeadEnd = some .two then .away else .toward
    let two : Dir := if s.dataLeadEnd = some .two then .toward else .away
    s.originateData cls .broadcast v data =
      (s.sendData (s.classEntry cls) (m one) (s.endPort .one) false).sendData (s.classEntry cls) (m two) (s.endPort .two) false := by
  have hns : ¬((s.classEntry cls).needsSettled = true ∧ s.settled = false) := fun x => of_decide_eq_false x.2 (h.settled x.1)
  have hway : s.dataWay .broadcast v = .both := by unfold State.dataWay; split <;> rfl
  intro m one two
  have hends : one = (if EndNo.one = s.dataLeadEnd.getD .one then .toward else .away)
      ∧ two = (if EndNo.two = s.dataLeadEnd.getD .one then .toward else .away) := by
    match hl : s.dataLeadEnd with
    | none => simp [one, two, hl]
    | some .one => simp [one, two, hl]
    | some .two => simp [one, two, hl]
  unfold State.originateData
  simp only [if_neg hns, h.action, h.elsewhere, if_false, Bool.false_eq_true, hway]
  rw [hends.1, hends.2]

theorem State.sendData_named {s : State} {e : ClassEntry} {m : Sending} {p : Port} (ha : e.restrict.allows m.dir = true) (h : s.Ready p) :
    s.sendData e m p true = s.begun p (s.complete m) := by
  rw [State.sendData, if_pos ha]
  exact State.sendOne_ready h _ _

theorem State.sendData_copy {s : State} {e : ClassEntry} {m : Sending} {p : Port} (ha : e.restrict.allows m.dir = true) (h : s.Ready p) :
    s.sendData e m p false = s.begun p (s.complete m) := by
  rw [State.sendData, if_pos ha]
  exact State.sendCopy_ready h _ _

theorem Restriction.allows_toward {r : Restriction} (h : r ≠ .awayOnly) : r.allows .toward = true := by
  cases r
  · rfl
  · exact absurd rfl h
  · rfl

theorem Restriction.allows_away {r : Restriction} (h : r ≠ .towardOnly) : r.allows .away = true := by
  cases r
  · rfl
  · rfl
  · exact absurd rfl h

theorem State.isOwnDestination_position_ne (h : v.toNat ≠ s.census.position) : s.isOwnDestination .position v = false := by
  simp [State.isOwnDestination, h]

theorem State.sendData_barred {s : State} {e : ClassEntry} {m : Sending} {p : Port} {named : Bool} (ha : e.restrict.allows m.dir = false) :
    s.sendData e m p named = s := if_neg (by rw [ha]; decide)

end

theorem State.endPort_two_ne_one (s : State) : s.endPort .two ≠ s.endPort .one := by
  unfold State.endPort
  split <;> decide

/-- A COACH_DATA_SEND that comes whole into empty buffers is taken at once (log 21). -/
theorem exec_coachDataSend {s : State} {payload : List Byte} (hp : s.powered = true) (ha : s.link.asm = none) (hr : s.link.rx = [])
    (hl : payload.length ≤ 72) :
    exec (.coachLinkMessageComplete ({ kind := 5, payload := payload } : Message).encode) s = .next (s.coachDataSend payload) := by
  have hcheck := Message.checkMessage_encode (m := { kind := 5, payload := payload }) (Nat.le_add_left 1 4) (Nat.le_refl 5) hl
  rw [exec_messageComplete hp, State.receiveBytes_encode ha hl, State.closeMessage_room hcheck (by rw [hr]; decide), hr]
  have hdrop : (s.receiving { kind := 5, payload := payload }).dropOldest = s := State.dropOldest_alone hr _
  refine congrArg _ ((rfl : _ = State.drainLinkFuel 1 (s.receiving { kind := 5, payload := payload })).trans ?_)
  rw [State.drainLinkFuel]
  simp only [show (s.receiving { kind := 5, payload := payload }).link.rx = [{ kind := 5, payload := payload }] from rfl, if_true, hdrop,
    State.drainLinkFuel]

theorem readDataSend_short {p : List Byte} (h : p.length < 6) : readDataSend p = none := by
  match p with
  | [] | [_] | [_, _] | [_, _, _] | [_, _, _, _] | [_, _, _, _, _] => rfl
  | _ :: _ :: _ :: _ :: _ :: _ :: _ => simp only [List.length_cons] at h; omega

/-- The reasons for which a COACH_DATA_SEND is discarded (R27a). -/
def BadSend (cls kind : Nat) (v : BitVec 32) : Prop :=
  cls < 12 ∨ 31 < cls ∨ kind < 1 ∨ 4 < kind ∨ (kind = 2 ∧ (v.toNat < 1 ∨ 32 < v.toNat))

section
variable {s : State} {cls kind v3 v2 v1 v0 : Byte} {data : List Byte}

theorem State.coachDataSend_bad (h : BadSend cls.toNat kind.toNat (u32 v3 v2 v1 v0)) :
    s.coachDataSend (cls :: kind :: v3 :: v2 :: v1 :: v0 :: data) = s.count 15 := by
  rw [State.coachDataSend, readDataSend]
  by_cases hk : kind.toNat < 1 ∨ 4 < kind.toNat
  · simp only [DestKind.ofCode_none hk]
  · obtain ⟨k, hk', hpos⟩ := DestKind.ofCode_isSome hk
    simp only [hk']
    refine if_pos ?_
    rw [hpos]
    unfold BadSend at h
    omega

theorem State.coachDataSend_read (h : ¬BadSend cls.toNat kind.toNat (u32 v3 v2 v1 v0)) {k : DestKind} (hk : DestKind.ofCode kind.toNat = some k) :
    s.coachDataSend (cls :: kind :: v3 :: v2 :: v1 :: v0 :: data) = s.originateData cls.toNat k (u32 v3 v2 v1 v0) data := by
  unfold BadSend at h
  have hr : ¬(kind.toNat < 1 ∨ 4 < kind.toNat) := by omega
  obtain ⟨k', hk', hpos⟩ := DestKind.ofCode_isSome hr
  have he : k' = k := Option.some.inj (hk'.symm.trans hk)
  subst he
  rw [State.coachDataSend, readDataSend]
  simp only [hk']
  refine if_neg ?_
  rw [hpos]
  omega

end

/-- A destination kind by its code (12.2). -/
theorem DestKind.ofCode_of_eq {n : Nat} {k : DestKind} (h : n = k.code) : DestKind.ofCode n = some k := by
  rw [h]
  cases k <;> rfl

end Sys2Proof.Machine
end

section

open Sys2Proof Sys2Proof.Machine

/-- Settles O22: by the entry's action and the destination, the delivery first, then the copy. -/
theorem coachDataReceived : Obligations.CoachDataReceived := by
  intro s p f hp hm hr hd hf hh h12 e q y g m got lost here elsewhere allowed passes room noRoom does quiet copied delivered
  have hexec := State.Arrives.exec (s := s) (p := p) (f := f) ⟨hp, hm, hr, hf, hh⟩
  have hnamed : here ↔ s.named f.destKind f.destVal := Iff.rfl
  have hpass (h : passes) {v : Verdict} (hv : s.destTest f.destKind f.destVal = v) {a b : Bool} (ho : dataOutcome e.action v = (a, b)) {t : State}
      (ht : (if b then (if a then s.deliverData f else s).relayFrame p e.urgent f else if a then s.deliverData f else s) = t)
      (hw : takeClass 9 t.delivered = none) : does t := by
    obtain ⟨hcc, hs, ha⟩ := h
    show exec _ _ = _
    rw [hexec, State.classify_data hcc h12, State.handleData_allowed hs ((Restriction.allows_iff _ _).mpr ha) hv ho, ht,
      State.drainLine_none hw]
  have hdelivered {goes : State → Prop} (hgo : ∀ w, s.deliverData f = w → Handover s w → goes w) : delivered goes :=
    ⟨fun h => hgo _ (State.deliverData_room h.1 ⟨h.2.1, h.2.2⟩) (Handover.tell hd _),
      fun h => hgo _ (State.deliverData_lost h.1 h.2) (Handover.bumped hd 15)⟩
  have hcopied {w : State} (k : Handover s w) (hw : ∀ {t : State}, w.relayFrame p e.urgent f = t → does t) : copied w := by
    have hy : w.port q = y := k.port q
    refine ⟨fun hi => hw (State.relayFrame_ready (k.ready hi)), fun hpm ht => ?_⟩
    have hmw : w.mated q = true := decide_eq_true (by rw [hy]; exact hpm)
    have hroom {x : LinePort} (hx : y.enqueue e.urgent g = some x) : does (w.setPort q x) :=
      hw (State.relayFrame_room hmw (by rw [k.port]; exact hx))
    have hfull (hx : y.enqueue e.urgent g = none) (hq : quiet) {code : Nat} (hc : (if e.urgent then 3 else 2) = code) (h4 : code = 2 ∨ code = 3) :
        does { w with events := w.events.bump code } := by
      refine hw ((State.relayFrame_full hmw (by rw [k.port]; exact hx)).trans ?_)
      rw [hc]
      exact State.count_drop_standing (by omega) (by rw [k.size]; have := hq.2; omega) (by rw [k.notices]; exact hq.1)
    refine ⟨fun hu hlen => hroom ?_, fun hu hlen => hroom ?_, fun hq hu hlen => hfull ?_ hq (if_pos hu) (.inr rfl),
      fun hq hu hlen => hfull ?_ hq (if_neg (by rw [hu]; decide)) (.inl rfl)⟩
    · rw [LinePort.enqueue_busy ht, if_pos hu, if_pos hlen]
    · rw [LinePort.enqueue_busy ht, if_neg (by rw [hu]; decide), if_pos hlen]
    · rw [LinePort.enqueue_busy ht, if_pos hu, if_neg (by omega)]
    · rw [LinePort.enqueue_busy ht, if_neg (by rw [hu]; decide), if_neg (by omega)]
  have hrelays (h : passes) {v : Verdict} (hv : s.destTest f.destKind f.destVal = v) (ho : dataOutcome e.action v = (false, true)) {t : State}
      (ht : s.relayFrame p e.urgent f = t) : does t :=
    hpass h hv ho ht (by rw [← ht, State.relayFrame_delivered]; exact hd)
  refine ⟨fun h hn ha => hdelivered fun w hw k => ?_, fun h he ha => ?_, fun h ha => ?_, fun h hb => ⟨fun ha => ⟨?_, fun hu => ?_⟩, fun ha => ?_, fun ha => ?_⟩,
    fun code hc h16 hlt hbar => ?_⟩
  · exact hpass h (State.destTest_named hn) (a := true) (b := false) (by rcases ha with ha | ha <;> rw [ha] <;> rfl) hw k.waits
  · have hgo {t : State} (ht : s.relayFrame p e.urgent f = t) : does t :=
      hrelays h (State.destTest_elsewhere he.1 he.2) (by rcases ha with ha | ha <;> rw [ha] <;> rfl) ht
    refine ⟨hcopied (Handover.refl hd) hgo, fun hu hq => ?_, fun hu => ?_⟩
    · exact hgo ((State.relayFrame_dropped (State.unmated_of_pilot hu) he.1).trans (State.count_drop_standing (.inr (.inr rfl)) hq.2 hq.1))
    · have k := State.count_quiet 4 s
      exact ⟨_, hgo (State.relayFrame_dropped (State.unmated_of_pilot hu) he.1), State.count_drop_sets (.inr (.inr rfl)) s,
        k.delivered, ⟨k.powered, k.nodeId, k.strap, k.mgmt, k.pending⟩, k.census, k.doors, k.line⟩
  · rcases ha with ⟨hn, ha⟩ | ⟨he, ha⟩
    · exact hpass h (State.destTest_named hn) (a := false) (b := false) (by rw [ha]; rfl) rfl hd
    · exact hpass h (State.destTest_elsewhere he.1 he.2) (a := false) (b := false) (by rw [ha]; rfl) rfl hd
  · refine hdelivered fun w hw k => hcopied k fun {t} ht => ?_
    refine hpass h (State.destTest_broadcast hb _ s) (a := true) (b := true) (by rw [ha]; rfl) (by simp only [if_true, hw]; exact ht) ?_
    rw [← ht, State.relayFrame_delivered]
    exact k.waits
  · refine hdelivered fun w hw k => ?_
    refine hpass h (State.destTest_broadcast hb _ s) (a := true) (b := true) (by rw [ha]; rfl) ?_ k.waits
    simp only [if_true, hw]
    exact State.relayFrame_alone (State.unmated_of_pilot (by rw [k.port]; exact hu)) hb
  · exact hdelivered fun w hw k => hpass h (State.destTest_broadcast hb _ s) (a := true) (b := false) (by rw [ha]; rfl) hw k.waits
  · have hgo {t : State} (ht : s.relayFrame p e.urgent f = t) : does t := hrelays h (State.destTest_broadcast hb _ s) (by rw [ha]; rfl) ht
    exact ⟨hcopied (Handover.refl hd) hgo, fun hu => hgo (State.relayFrame_alone (State.unmated_of_pilot hu) hb)⟩
  · show exec _ _ = _
    rw [hexec, State.classify, State.countClass_told hc h16 hlt, if_neg (by omega)]
    have hsame : State.handleData p f { s with events := s.events.bump code } = { s with events := s.events.bump code } := by
      rcases hbar with ha | hs | hr
      · exact State.handleData_barred (.inr (.inr (.inr (.inl ha))))
      · exact State.handleData_unsettled hs
      · exact State.handleData_restricted (Bool.eq_false_iff.mpr fun x => hr ((Restriction.allows_iff _ _).mp x))
    rw [hsame]
    exact congrArg _ (State.drainLine_none (s := { s with events := s.events.bump code }) hd)

end

section

open Sys2Proof Sys2Proof.Machine

/-- Settles O23: the six bytes read, the entry, and then the end or ends by the destination. -/
theorem coachDataSent : Obligations.CoachDataSent := by
  intro s payload hp ha hr hl does
  have hexec {t : State} (ht : s.coachDataSend payload = t) : does t := by rw [← ht]; exact exec_coachDataSend hp ha hr hl
  refine ⟨fun h15 h6 => hexec ?_, fun cls kind v3 v2 v1 v0 data hpl => ?_⟩
  · rw [State.coachDataSend, readDataSend_short h6, State.count_fifteen h15]
  · intro value e bad leadEnd frame may
    subst hpl
    have hlead : s.dataLeadEnd = leadEnd := s.dataLeadEnd_eq
    have htakes (hb : ¬bad) {k : DestKind} (hk : DestKind.ofCode kind.toNat = some k) {t : State}
        (ht : s.originateData cls.toNat k value data = t) : does t :=
      hexec ((State.coachDataSend_read hb hk).trans ht)
    have h12 (hb : ¬bad) : 12 ≤ cls.toNat := Nat.le_of_not_lt fun h => hb (.inl h)
    have hkind (hb : ¬bad) : kind.toNat = 1 ∨ kind.toNat = 2 ∨ kind.toNat = 3 ∨ kind.toNat = 4 := by
      simp only [bad] at hb
      omega
    refine ⟨fun h15 hb => hexec ?_, fun hb h => ?_, fun en hm he hs hre hi => ⟨fun hk hl => ?_, fun hk hv => ?_⟩, fun en hm he hs hre => ?_,
      fun en hm he hs hre hk hv => ?_, fun hm hk hre h1 h2 => ?_⟩
    · rw [State.coachDataSend_bad hb, State.count_fifteen h15]
    · have hpick {k : DestKind} (hk : kind.toNat = k.code) (hown : s.isOwnDestination k value = true) : does s :=
        htakes hb (DestKind.ofCode_of_eq hk) (State.originateData_silent (.inr (.inr hown)))
      rcases h with h | h | ⟨hk, hv⟩ | ⟨hk, hs, hv⟩ | ⟨hk, hl⟩
      · obtain ⟨k, hk, -⟩ := DestKind.ofCode_isSome (n := kind.toNat) (by have := hkind hb; omega)
        exact htakes hb hk (State.originateData_silent (.inl h))
      · obtain ⟨k, hk, -⟩ := DestKind.ofCode_isSome (n := kind.toNat) (by have := hkind hb; omega)
        exact htakes hb hk (State.originateData_silent (.inr (.inl h)))
      · exact hpick (k := .nodeId) hk (decide_eq_true hv)
      · exact hpick (k := .position) hk (by simp [State.isOwnDestination, State.settled, hs, hv])
      · exact hpick (k := .lead) hk (decide_eq_true hl)
    · obtain ⟨hb, hset, hact⟩ := hm
      have ho : s.Outgoing cls.toNat .lead value := ⟨hset, hact, State.isOwnDestination_lead hl value⟩
      refine htakes hb (DestKind.ofCode_of_eq (k := .lead) hk) ?_
      rw [State.originateData_toward ho hs (hlead.trans he) (.inl rfl),
        State.sendData_named (Restriction.allows_toward hre) (State.ready_of_idleEnd hi), State.complete_data (h12 hb)]
      rfl
    · obtain ⟨hb, hset, hact⟩ := hm
      have ho : s.Outgoing cls.toNat .position value := ⟨hset, hact, State.isOwnDestination_position_ne (by omega)⟩
      refine htakes hb (DestKind.ofCode_of_eq (k := .position) hk) ?_
      rw [State.originateData_toward ho hs (hlead.trans he) (.inr ⟨rfl, hv⟩),
        State.sendData_named (Restriction.allows_toward hre) (State.ready_of_idleEnd hi), State.complete_data (h12 hb)]
      rfl
    · obtain ⟨hb, hset, hact⟩ := hm
      intro away hi hk hv
      have ho : s.Outgoing cls.toNat .position value := ⟨hset, hact, State.isOwnDestination_position_ne (by omega)⟩
      have haway : en.other = away := EndNo.other_eq en
      refine htakes hb (DestKind.ofCode_of_eq (k := .position) hk) ?_
      rw [State.originateData_away ho hs (hlead.trans he) (by omega), haway,
        State.sendData_named (Restriction.allows_away hre) (State.ready_of_idleEnd hi), State.complete_data (h12 hb)]
      rfl
    · obtain ⟨hb, hset, hact⟩ := hm
      have ho : s.Outgoing cls.toNat .position value := ⟨hset, hact, State.isOwnDestination_position_ne (by omega)⟩
      refine htakes hb (DestKind.ofCode_of_eq (k := .position) hk) ?_
      have hbar : e.restrict.allows .toward = false := by rw [hre]; rfl
      rw [State.originateData_toward ho hs (hlead.trans he) (.inr ⟨rfl, hv⟩), State.sendData_barred hbar]
    · obtain ⟨hb, hset, hact⟩ := hm
      have ho : s.Outgoing cls.toNat .broadcast value := ⟨hset, hact, rfl⟩
      have hall (d : Dir) : e.restrict.allows d = true := by rw [hre]; cases d <;> rfl
      refine htakes hb (DestKind.ofCode_of_eq (k := .broadcast) hk) ?_
      have hne : s.endPort .two ≠ s.endPort .one := s.endPort_two_ne_one
      rw [State.originateData_both ho, State.sendData_copy (hall _) (State.ready_of_idleEnd h1),
        State.sendData_copy (hall _) ((State.ready_of_idleEnd h2).congr (State.port_begun_ne hne)), State.complete_begun,
        State.complete_data (h12 hb), State.complete_data (h12 hb), hlead]
      rfl

end

section
/-! PROOFS. The requests that read (O51), and those of counters and notices (O52), over the coach link. -/

namespace Sys2Proof.Machine

/-! ## A request over the coach link (R173) -/

/-- A request of a good form that comes over the coach link passes both tests. -/
theorem State.judge_coachLink {v : Service} {r : Request} (h : v.form r.args = true) (s : State) :
    s.judge v .coachLink r = v.act .coachLink r s := by
  simp [State.judge, h, Origin.overLine]

/-- The command of a request of a good form answers what its act does, whatever the coach link holds. -/
theorem State.run_request {v : Service} {s t : State} {h l : Byte} {args : List Byte} {st : Status} {results : List Byte} (hv : v.code < 256)
    (hs : s.asks v.code h l args) (hf : v.form args = true)
    (ha : ∀ k : Link, v.act .coachLink { kind := v.code, tag := u16 h l, args := args } { s with link := k } = (.now st results, { t with link := k })) :
    s.run (fun x => x.serve .coachLink v) = .next { t with link := (s.answered v.code h l st results).link } :=
  run_asks v s t h l args st results hv hs fun k => (State.judge_coachLink hf _).trans (ha k)

/-- A request of another form is answered BAD_REQUEST and does nothing (R173). -/
theorem State.run_badRequest {v : Service} {s : State} {h l : Byte} {args : List Byte} (hv : v.code < 256) (hs : s.asks v.code h l args)
    (hf : v.form args = false) : s.run (fun x => x.serve .coachLink v) = .next (s.answered v.code h l .badRequest []) :=
  run_asks v s s h l args .badRequest [] hv hs fun _ => if_pos hf

/-- A request that reads is answered with its results and does nothing. -/
theorem State.run_read {v : Service} {s : State} {h l : Byte} {results : State → List Byte} (hv : v.code < 256) (hf : v.form = noArgs)
    (ha : v.act = readAct results) (hr : ∀ k : Link, results { s with link := k } = results s) (hs : s.asks v.code h l []) :
    s.run (fun x => x.serve .coachLink v) = .next (s.answered v.code h l .ok (results s)) :=
  (State.run_request (t := s) hv hs (by rw [hf]; rfl) fun k => by rw [ha, readAct, hr]).trans rfl

/-- The state from which a request is carried out: out of its buffer, the places of its reply reserved (R179). -/
def State.taken (need : Nat) (s : State) : State := { s with link := { s.link with rx := [], reserved := need } }

/-- A request whose act works on the coach link too, a NOTICE of its own before its reply: what the act leaves, and then the reply (R179;
log 33). -/
theorem State.run_taken {v : Service} {s : State} {h l : Byte} {args : List Byte} {a : Answer} {u : State} {n : Nat}
    (hv : v.code < 256) (hs : s.asks v.code h l args) (hf : v.form args = true)
    (hn : (v.act .coachLink { kind := v.code, tag := u16 h l, args := args } s).1.places = n)
    (ha : v.act .coachLink { kind := v.code, tag := u16 h l, args := args } (s.taken n) = (a, u))
    (hu : (u.sendAnswer .coachLink { kind := v.code, tag := u16 h l, args := args } a).link.rx = []) :
    s.run (fun x => x.serve .coachLink v) = .next (u.sendAnswer .coachLink { kind := v.code, tag := u16 h l, args := args } a) := by
  obtain ⟨hp, hr, hq, hb, hres, hsend⟩ := hs
  have hread : readRequest (byte v.code :: h :: l :: args) = some { kind := v.code, tag := u16 h l, args := args } := by
    simp [readRequest, byte_toNat_of_lt _ hv]
  have hfree : s.link.free = 8 := by simp [Link.free, hq, hres, Config.txPlaces]
  have hplaces (a : Answer) : ¬s.link.free < a.places := by
    rw [hfree]
    cases a with
    | now st results => simp [Answer.places, Config.txPlaces]
    | later => exact (by decide : ¬8 < 1)
  have htaken (n : Nat) : ({ s.dropOldest with link := { s.dropOldest.link with reserved := s.dropOldest.link.reserved + n } } : State) = s.taken n := by
    simp [State.dropOldest, State.taken, hr, hres]
  have hjudge (x : State) : x.judge v .coachLink { kind := v.code, tag := u16 h l, args := args } =
      v.act .coachLink { kind := v.code, tag := u16 h l, args := args } x := State.judge_coachLink hf x
  have hfit : ¬s.link.free < n := hn ▸ hplaces _
  rw [State.run, hp]
  refine congrArg _ ?_
  simp only [State.serve, State.serveLink, hr, hread, if_true, hjudge, hn, if_neg hfit, htaken, State.answer, ha]
  exact State.drainLink_empty hu

theorem noArgs_false {args : List Byte} (h : args ≠ []) : noArgs args = false := by
  cases args with
  | nil => exact absurd rfl h
  | cons x xs => rfl

/-! ## The coding of results (R183, 12.3) -/

theorem Entry.bytes_eq (e : Entry) : e.bytes = idBytes e.id
    ++ [byte (e.orient.code + 2 * e.drivable.toNat + 4 * e.heating.toNat + 8 * e.preferred.toNat), byte (e.doors1 + 16 * e.doors2)]
    ++ be16 e.rating := by
  rw [Entry.bytes]
  cases e.drivable <;> cases e.heating <;> cases e.preferred <;> rfl

/-- The groups follow one another by their numbers (R149). -/
theorem groupBytesFrom_eq (t : HeatTable) (c : Sense) (gs : List Group) (k : Nat) : groupBytesFrom t c k gs = (gs.zipIdx k).flatMap fun x =>
    [byte x.1.st.code] ++ be16 (t.rating x.2)
      ++ [byte x.1.n, if x.1.output then 1 else 0, byte x.1.strikes, if x.1.openFlag then 1 else 0, byte (c.onWin x.2).count] := by
  induction gs generalizing k with
  | nil => rfl
  | cons g gs ih =>
    rw [groupBytesFrom, ih, List.zipIdx_cons, List.flatMap_cons, boolByte_eq, boolByte_eq]

/-- The mean of a window, cut toward 0 (R151). -/
def meanCode (w : List Code) : Int := Int.tdiv (w.map BitVec.toInt).sum w.length

theorem average_eq {w : List Code} (h : w ≠ []) : average w = some (meanCode w) := by
  rw [average, if_neg (by simpa using h)]
  rfl

/-- Coverage is lost just outside a continuous scan of channels 0 to 4 (R156). -/
theorem Sense.degraded_iff (c : Sense) : c.degraded = !decide (c.mode = .scanCont ∧ 4 ≤ c.stop) := by
  have hall (f : Nat → Bool) : ([0, 1, 2, 3, 4].any f) = (f 0 || (f 1 || (f 2 || (f 3 || (f 4 || false))))) := rfl
  rw [Sense.degraded, hall]
  cases hm : c.mode with
  | scanCont =>
    simp only [Sense.supervised, hm, true_and, ← decide_not, Bool.or_false, ← Bool.decide_or]
    exact decide_eq_decide.mpr (by omega)
  | singleCont =>
    simp only [Sense.supervised, hm, reduceCtorEq, false_and, ← decide_not, Bool.or_false, ← Bool.decide_or, not_false_eq_true, decide_true]
    exact decide_eq_true (by omega)
  | single => simp [Sense.supervised, hm]
  | scan => simp [Sense.supervised, hm]

theorem saturated_iff (c : Code) : saturated c = true ↔ c.toInt = -2048 ∨ c.toInt = 2047 := by simp [saturated]

/-- A channel as READ SENSE shows it (R162). -/
theorem Sense.channelBytes_eq (c : Sense) (k : Nat) : c.channelBytes k =
    let x := c.channel k
    [if (c.mode = .scanCont ∧ k ≤ c.stop) ∨ (c.mode = .singleCont ∧ k = c.selected) then 1 else 0, byte x.window.length]
      ++ optBytes (fun newest => codeBytes newest.toInt) x.window.getLast?
      ++ (if x.window ≠ [] ∧ (x.age.any fun ms => decide (ms < 500)) = true then
            1 :: codeBytes (meanCode x.window) ++ codeBytes (quantity k x.gain (meanCode x.window))
          else [0]) := by
  have hs : boolByte (c.supervised k) = if (c.mode = .scanCont ∧ k ≤ c.stop) ∨ (c.mode = .singleCont ∧ k = c.selected) then 1 else 0 := by
    rw [boolByte_eq]
    exact if_congr (c.supervised_iff k) rfl rfl
  have hfresh := (c.channel k).not_stale_iff
  rw [Sense.channelBytes]
  dsimp only
  rw [hs]
  congr 1
  by_cases h : (c.channel k).stale = true
  · rw [if_pos h, if_neg fun x => hfresh.mpr x h]
  · rw [if_neg h, if_pos (hfresh.mp h), average_eq (hfresh.mp h).1]
    rfl

/-- A group's on-window as READ SENSE shows it (R162): the current is that of channels 0 to 3. -/
theorem Sense.onWinBytes_eq (c : Sense) {k : Nat} (hk : k < 4) : c.onWinBytes k =
    let w := c.onWin k
    [byte w.window.length, byte w.count]
      ++ (if w.window = [] then [0] else 1 :: be16 ((meanCode w.window).toNat / (2 * (c.channel k).gain)))
      ++ [if ∃ x ∈ w.window, x.toInt = -2048 ∨ x.toInt = 2047 then 1 else 0] := by
  have hq (gain : Nat) (m : Int) : (quantity k gain m).toNat = m.toNat / (2 * gain) := by
    rw [quantity, if_neg (by omega), if_pos (by omega), Int.toNat_natCast]
  have hsat : boolByte ((c.onWin k).window.any saturated) = if ∃ x ∈ (c.onWin k).window, x.toInt = -2048 ∨ x.toInt = 2047 then 1 else 0 := by
    rw [boolByte_eq]
    refine if_congr ?_ rfl rfl
    simp only [List.any_eq_true, saturated_iff]
  rw [Sense.onWinBytes]
  dsimp only
  rw [hsat, Sense.onCurrent]
  congr 2
  by_cases h : (c.onWin k).window = []
  · rw [if_pos h, h]
    rfl
  · rw [if_neg h, average_eq h, Option.map_some, hq]
    rfl

/-! ## Counters and notices -/

theorem byte_toNat_self (b : Byte) : byte b.toNat = b := BitVec.ofNat_toNat 8 b |>.trans (BitVec.setWidth_eq b)

/-- READ COUNTERS by its range (R165). -/
theorem countersAct_eq {o : Origin} {r : Request} {a b : Byte} (hr : r.args = [a, b]) (s : State) : countersAct o r s =
    if 1 ≤ b.toNat ∧ b.toNat ≤ 32 ∧ a.toNat + b.toNat ≤ s.events.counters.length then
      (.now .ok (byte s.events.counters.length :: (be32 s.events.exceptions ++ a :: b ::
        ((s.events.counters.drop a.toNat).take b.toNat).flatMap fun x => be16 x.recent ++ be16 x.wide)), s)
    else (.plain .badRange, s) := by
  rw [countersAct, hr]
  simp only [List.getD_cons_zero, List.getD_cons_succ]
  by_cases h : 1 ≤ b.toNat ∧ b.toNat ≤ 32 ∧ a.toNat + b.toNat ≤ s.events.counters.length
  · rw [if_pos h, if_neg (by omega), byte_toNat_self, byte_toNat_self]
    simp only [List.append_assoc, List.cons_append, List.nil_append]
    rfl
  · rw [if_neg h, if_pos (by omega)]

/-- A mask of thirteen flags has a high byte below 32 (R170, R171). -/
theorem readMask_eq (a b : Byte) : readMask [a, b] = if a.toNat < 32 then some (BitVec.ofNat 13 (a.toNat * 256 + b.toNat)) else none := by
  have hb := b.isLt
  show (if a.toNat * 256 + b.toNat < 8192 then _ else _) = _
  exact if_congr (by omega) rfl rfl

/-- The flags of a mask cleared, where no condition stands behind them (R170). -/
theorem State.clearFlags_quiet {s : State} {m : BitVec 13} (h : hasFlag m .senseDegraded = false ∨ s.sense.degraded = false) :
    s.clearFlags m = { s with notices := { s.notices with flags := s.notices.flags &&& ~~~m } } := by
  rw [State.clearFlags]
  refine if_neg fun x => ?_
  rw [x.1, x.2] at h
  exact h.elim nofun nofun

/-- SENSE_DEGRADED cleared while its condition stands arises again (R170). -/
theorem State.clearFlags_standing {s : State} {m : BitVec 13} (h : hasFlag m .senseDegraded = true ∧ s.sense.degraded = true) :
    s.clearFlags m = ({ s with notices := { s.notices with flags := s.notices.flags &&& ~~~m } } : State).raise .senseDegraded := if_pos h

end Sys2Proof.Machine
end

section

open Sys2Proof Sys2Proof.Machine

/-- Settles O51: each request answers the items of its rules, read off the state. -/
theorem readsAnsweredAndChangeNothing : Obligations.ReadsAnsweredAndChangeNothing := by
  intro s h l c bit record consist coachSide trainSide summary door group demand allocation heating mean channel onWindow sense
  have hbit : boolByte = bit := funext boolByte_eq
  refine ⟨fun hs => ?_, fun hs => ?_, fun hs => ?_, fun hs => ?_, fun hs => ?_, fun hs => ?_, fun code x args hx ha hs => ?_⟩
  · exact State.run_read (v := identifyService) (by decide) rfl rfl (fun _ => rfl) hs
  · have e : s.consistResults = consist := by
      have hrec : ConsistRecord.bytes = record := funext fun r => congrArg (byte r.pos :: ·) r.entry.bytes_eq
      have htab : (if s.hasTable then c.epoch else 0) = if c.table = none then 0 else c.epoch := by
        unfold State.hasTable
        cases hc : s.census.table <;> simp [c]
      have hset : boolByte (!s.settled) = bit (decide (c.cs ≠ .settled)) := by rw [hbit, State.settled, ← decide_not]
      simp only [State.consistResults, hrec, hset]
      rw [htab]
      rfl
    rw [← e]
    exact State.run_read (v := readConsistService) (by decide) rfl rfl (fun _ => rfl) hs
  · have e : s.doorResults = door := by
      have hside : DoorSide.readBytes = coachSide := by
        funext x count
        simp only [DoorSide.readBytes, timeBytes, hbit, coachSide]
        cases x.order <;> cases x.timer <;> rfl
      have hsum : SummaryRecord.bytes = summary := by
        funext r
        simp only [SummaryRecord.bytes, hbit, summary]
        cases r.permit <;> rfl
      have hlead : s.summaryResults = if c.lead = .off then []
          else [byte c.lead.code, byte c.epoch, bit s.summary.proven, byte s.summary.recs.length] ++ s.summary.recs.flatMap summary := by
        rw [State.summaryResults, hsum, hbit, State.isLead]
        by_cases hl : s.census.lead = .off
        · rw [if_neg (by simp [hl]), if_pos hl]
        · rw [if_pos (decide_eq_true hl), if_neg hl]
      rw [State.doorResults, hside, hlead, Supervisor.readBytes, hbit]
      simp only [door, List.append_assoc, List.cons_append, List.nil_append]
    rw [← e]
    exact State.run_read (v := readDoorService) (by decide) rfl rfl (fun _ => rfl) hs
  · have e : s.heatingResults = heating := by
      have hgroup : groupBytesFrom s.mgmt.working.heat s.sense 0 s.heater.groups = s.heater.groups.zipIdx.flatMap group := groupBytesFrom_eq _ _ _ _
      have hdemand : DemandRecord.bytes = demand := by funext r; simp only [DemandRecord.bytes, hbit, num1, demand]; rfl
      have halloc : Allocation.bytes = allocation := by
        funext a
        simp only [Allocation.bytes, num1, listBytes, allocation, List.append_assoc, List.cons_append, List.nil_append]
      have hres : s.allocResults = if c.lead = .holding then
          byte s.alloc.judged.code :: be16 s.alloc.effective ++ byte s.alloc.recs.length :: s.alloc.recs.flatMap demand
            ++ (match s.alloc.last with
                | none => [0]
                | some a => 1 :: allocation a)
          else if c.lead = .off then [] else [0, 0] := by
        simp only [State.allocResults, hdemand, halloc, listBytes, c]
        cases s.census.lead
        · rfl
        · rfl
        · rw [if_pos rfl]
          cases s.alloc.last <;> rfl
        · rfl
      simp only [State.heatingResults, hgroup, hres, hbit, num1, timeBytes, heating]
      cases s.heater.staged <;> cases s.heater.hold <;>
        simp only [optBytes, Grant.bytes, List.append_assoc, List.cons_append, List.nil_append] <;> rfl
    rw [← e]
    exact State.run_read (v := readHeatingService) (by decide) rfl rfl (fun _ => rfl) hs
  · have e : s.senseResults = sense := by
      have hchannel : s.sense.channelBytes = channel := by
        funext k
        rw [Sense.channelBytes_eq]
        dsimp only [channel]
        cases (s.sense.channel k).window.getLast? <;> rfl
      have hwin : (List.range 4).flatMap s.sense.onWinBytes = [0, 1, 2, 3].flatMap onWindow :=
        List.flatMap_congr fun k hk => s.sense.onWinBytes_eq (List.mem_range.mp hk)
      have hdeg : bit s.sense.degraded = if s.sense.mode = .scanCont ∧ 4 ≤ s.sense.stop then 0 else 1 := by
        rw [Sense.degraded_iff]
        by_cases hd : s.sense.mode = .scanCont ∧ 4 ≤ s.sense.stop <;> simp [bit, hd]
      have hconv : optBytes num1 s.sense.conv = match s.sense.conv with
          | none => [0]
          | some k => [1, byte k] := by cases s.sense.conv <;> rfl
      simp only [State.senseResults, hchannel, hwin, hbit, hdeg, hconv, sense]
      rfl
    rw [← e]
    exact State.run_read (v := readSenseService) (by decide) rfl rfl (fun _ => rfl) hs
  · exact State.run_read (v := readNoticesService) (by decide) rfl rfl (fun _ => rfl) hs
  · simp only [List.mem_cons, Prod.mk.injEq, List.not_mem_nil, or_false] at hx
    rcases hx with ⟨rfl, rfl⟩ | ⟨rfl, rfl⟩ | ⟨rfl, rfl⟩ | ⟨rfl, rfl⟩ | ⟨rfl, rfl⟩ | ⟨rfl, rfl⟩
    · exact State.run_badRequest (v := identifyService) (by decide) hs (noArgs_false ha)
    · exact State.run_badRequest (v := readConsistService) (by decide) hs (noArgs_false ha)
    · exact State.run_badRequest (v := readDoorService) (by decide) hs (noArgs_false ha)
    · exact State.run_badRequest (v := readHeatingService) (by decide) hs (noArgs_false ha)
    · exact State.run_badRequest (v := readSenseService) (by decide) hs (noArgs_false ha)
    · exact State.run_badRequest (v := readNoticesService) (by decide) hs (noArgs_false ha)

end

section

open Sys2Proof Sys2Proof.Machine

/-- Settles O52: each request by its range, and the flag whose condition stands arises again. -/
theorem counterAndNoticeRequests : Obligations.CounterAndNoticeRequests := by
  intro s h l a b size inRange mask
  refine ⟨fun hs hin => ?_, fun hs hin => ?_, fun hs => ?_, fun hs ha => ?_, fun hs ha hq => ?_, fun hs ha hm hd => ?_, fun hs ha => ?_, fun hs ha => ?_⟩
  · exact State.run_request (v := readCountersService) (t := s) (by decide) hs rfl fun _ => (countersAct_eq (o := .coachLink) rfl _).trans (if_pos hin)
  · exact State.run_request (v := readCountersService) (t := s) (by decide) hs rfl fun _ => (countersAct_eq (o := .coachLink) rfl _).trans (if_neg hin)
  · exact State.run_request (v := clearCountersService) (t := { s with events := s.events.clear }) (by decide) hs rfl fun k => rfl
  · refine State.run_request (v := clearNoticesService) (t := s) (by decide) hs rfl fun k => ?_
    show clearNoticesAct .coachLink _ _ = _
    simp only [clearNoticesAct, readMask_eq, if_neg (show ¬a.toNat < 32 by omega)]
    rfl
  · refine State.run_request (v := clearNoticesService) (t := { s with notices := { s.notices with flags := s.notices.flags &&& ~~~mask } })
      (by decide) hs rfl fun k => ?_
    show clearNoticesAct .coachLink _ _ = _
    simp only [clearNoticesAct, readMask_eq, if_pos ha]
    rw [State.clearFlags_quiet (s := { s with link := k }) hq]
    rfl
  · generalize hn : (clearNoticesAct .coachLink { kind := 10, tag := u16 h l, args := [a, b] } s).1.places = n
    have hact : clearNoticesAct .coachLink { kind := 10, tag := u16 h l, args := [a, b] } (s.taken n) =
        (.now .ok (flagBytes ((s.taken n).clearFlags mask).notices.flags), (s.taken n).clearFlags mask) := by
      simp only [clearNoticesAct, readMask_eq, if_pos ha]
      rfl
    rw [State.clearFlags_standing (s := s.taken n) ⟨hm, hd⟩] at hact
    generalize hw : ({ s.taken n with notices := { (s.taken n).notices with flags := (s.taken n).notices.flags &&& ~~~mask } } : State) = w at hact
    have q := State.raise_quiet .senseDegraded w
    have hrx : (w.raise .senseDegraded).link.rx = [] := by rw [q.rx, ← hw]; rfl
    have hset := State.raise_sets .senseDegraded w
    have hfacts : w.notices.enable = s.notices.enable ∧ s.sameFrame w ∧ w.sense = s.sense ∧ w.census = s.census ∧ w.doors = s.doors ∧ w.heater = s.heater := by
      rw [← hw]
      exact ⟨rfl, ⟨rfl, rfl, rfl, rfl, rfl⟩, rfl, rfl, rfl, rfl⟩
    obtain ⟨f1, ⟨f2, f3, f4, f5, f6⟩, f7, f8, f9, f10⟩ := hfacts
    have hrun := State.run_taken (v := clearNoticesService) (by decide) hs rfl hn hact ((Link.enterReply_rx _ _ _).trans hrx)
    exact ⟨_, hrun, hset, q.enable.trans f1, (Link.enterReply_rx _ _ _).trans hrx,
      ⟨q.powered.trans f2, q.nodeId.trans f3, q.strap.trans f4, q.mgmt.trans f5, q.pending.trans f6⟩, q.sense.trans f7, q.census.trans f8,
      q.doors.trans f9, q.heater.trans f10⟩
  · refine State.run_request (v := setNoticeEnableService) (t := s) (by decide) hs rfl fun k => ?_
    show setEnableAct .coachLink _ _ = _
    simp only [setEnableAct, readMask_eq, if_neg (show ¬a.toNat < 32 by omega)]
    rfl
  · refine State.run_request (v := setNoticeEnableService) (t := { s with notices := { s.notices with enable := mask } }) (by decide) hs
      rfl fun k => ?_
    show setEnableAct .coachLink _ _ = _
    simp only [setEnableAct, readMask_eq, if_pos ha]
    rfl

end

section
/-! PROOFS. The requests that set the converter (O54), staging (O55), the budget and the groups (O58). -/

namespace Sys2Proof.Machine

/-! ## SET SENSE (R157) -/

theorem SenseMode.ofCode_code (x : SenseMode) : SenseMode.ofCode x.code = some x := by cases x <;> rfl

theorem SenseMode.ofCode_le {n : Nat} (h : n ≤ 3) : ∃ x, SenseMode.ofCode n = some x ∧ x.code = n := by
  have h : n = 0 ∨ n = 1 ∨ n = 2 ∨ n = 3 := by omega
  rcases h with rfl | rfl | rfl | rfl
  · exact ⟨.single, rfl, rfl⟩
  · exact ⟨.singleCont, rfl, rfl⟩
  · exact ⟨.scan, rfl, rfl⟩
  · exact ⟨.scanCont, rfl, rfl⟩

theorem SenseMode.ofCode_none {n : Nat} (h : 3 < n) : SenseMode.ofCode n = none := by
  unfold SenseMode.ofCode
  split
  · omega
  · omega
  · omega
  · omega
  · rfl

/-- The range of every setting (R157). -/
def GoodSettings (m st sel iv : Byte) (gs : List Byte) : Prop :=
  m.toNat ≤ 3 ∧ st.toNat ≤ 7 ∧ sel.toNat ≤ 7 ∧ 1 ≤ iv.toNat ∧ ∀ g ∈ gs, g = 1 ∨ g = 2 ∨ g = 4 ∨ g = 8

theorem goodGain_iff (g : Byte) : goodGain g.toNat = true ↔ g = 1 ∨ g = 2 ∨ g = 4 ∨ g = 8 := by
  have e (n : Nat) (h : n < 256) : g.toNat = n ↔ g = BitVec.ofNat 8 n := (byte_eq_iff g n h).symm
  rw [goodGain, decide_eq_true_eq, e 1 (by decide), e 2 (by decide), e 4 (by decide), e 8 (by decide)]
  rfl

section
variable {m st sel iv : Byte} {gs : List Byte}

theorem goodSettings_gains : (∀ g ∈ gs, g = 1 ∨ g = 2 ∨ g = 4 ∨ g = 8) ↔ (gs.all fun g => goodGain g.toNat) = true := by
  simp only [List.all_eq_true, goodGain_iff]

theorem readSettings_good (h : GoodSettings m st sel iv gs) : ∃ mode : SenseMode, mode.code = m.toNat ∧
    readSettings (m :: st :: sel :: iv :: gs) =
      some { mode := mode, stop := st.toNat, selected := sel.toNat, interval := iv.toNat, gains := gs.map BitVec.toNat } := by
  obtain ⟨hm, h1, h2, h3, hg⟩ := h
  obtain ⟨mode, hx, hc⟩ := SenseMode.ofCode_le hm
  refine ⟨mode, hc, ?_⟩
  rw [readSettings]
  simp only [hx]
  exact if_pos ⟨h1, h2, h3, goodSettings_gains.mp hg⟩

theorem readSettings_bad (h : ¬GoodSettings m st sel iv gs) : readSettings (m :: st :: sel :: iv :: gs) = none := by
  rw [readSettings]
  by_cases hm : m.toNat ≤ 3
  · obtain ⟨mode, hx, -⟩ := SenseMode.ofCode_le hm
    simp only [hx]
    exact if_neg fun x => h ⟨hm, x.1, x.2.1, x.2.2.1, goodSettings_gains.mpr x.2.2.2⟩
  · simp only [SenseMode.ofCode_none (show 3 < m.toNat by omega)]

end

/-- The state with new settings in force and the coverage handed over, before any condition (R144, R157). -/
def State.resensed (v : SenseSettings) (s : State) : State := ({ s with sense := s.sense.change v } : State).handCoverage s.sense

theorem State.changeSense_eq (v : SenseSettings) (s : State) : s.changeSense v =
    if s.sense.degraded = false ∧ (s.resensed v).sense.degraded = true then (s.resensed v).raise .senseDegraded else s.resensed v := rfl

/-- What new settings leave, whether or not SENSE_DEGRADED arises. -/
theorem State.changeSense_resensed (v : SenseSettings) (s : State) : Quiet (s.resensed v) (s.changeSense v) := by
  rw [State.changeSense_eq]
  split
  · exact State.raise_quiet _ _
  · exact Quiet.refl _

theorem State.resensed_sense (v : SenseSettings) (s : State) : (s.resensed v).sense =
    { s.sense.change v with onWins := handLevels (s.resensed v).heater.groups (s.sense.change v).onWins } := rfl

theorem State.resensed_group (v : SenseSettings) (s : State) (k : Nat) : ((s.resensed v).heater.group k).n =
    if s.sense.supervised k = true ∧ (s.sense.change v).supervised k = false then min (s.heater.group k).n 25 else (s.heater.group k).n := by
  have hcut : ({ s.heater with groups := cutFrom s.sense (s.sense.change v) 0 s.heater.groups } : Heater).group k =
      { s.heater.group k with n := if s.sense.supervised k && !(s.sense.change v).supervised k then min (s.heater.group k).n 25
        else (s.heater.group k).n } := by
    rw [Heater.group_mapIdx (h := s.heater) (f := fun i g =>
      { g with n := if s.sense.supervised i && !(s.sense.change v).supervised i then min g.n 25 else g.n })]
    · simp [cutFrom_eq]
    · intro k; simp [Group.absent]
  have hout := State.setOutputs_group k
    { s with sense := s.sense.change v, heater := { s.heater with groups := cutFrom s.sense (s.sense.change v) 0 s.heater.groups } }
  refine (congrArg Group.n hout).trans ((congrArg Group.n hcut).trans ?_)
  exact if_congr (by simp) rfl rfl

/-- A level handed over leaves window and count of an on-window. -/
theorem mem_handLevels {gs : List Group} {ws : List OnWindow} {w : OnWindow} (h : w ∈ handLevels gs ws) :
    ∃ x ∈ ws, w.window = x.window ∧ w.count = x.count := by
  induction gs generalizing ws with
  | nil => exact ⟨w, by cases ws <;> exact h, rfl, rfl⟩
  | cons g gs ih =>
    cases ws with
    | nil => exact absurd h List.not_mem_nil
    | cons x ws =>
      rcases List.mem_cons.mp h with rfl | h
      · exact ⟨x, List.mem_cons_self, rfl, rfl⟩
      · obtain ⟨y, hy, he⟩ := ih h
        exact ⟨y, List.mem_cons_of_mem _ hy, he⟩

theorem Sense.emptiedBy_iff (c : Sense) (v : SenseSettings) :
    c.emptiedBy v = true ↔ ¬(v.mode = c.mode ∧ v.stop = c.stop ∧ v.gains = c.channels.map Channel.gain) := by
  simp only [Sense.emptiedBy, Bool.or_eq_true, decide_eq_true_eq]
  tauto

/-! ## LOAD TABLE (R174) -/

theorem bitCode_bitOf (v : Nat) : bitCode (bitOf v) = min 1 v := by
  rw [bitCode, bitOf]
  by_cases h : v = 0
  · rw [h]; rfl
  · rw [if_pos (decide_eq_true h)]; omega

/-! A field set is read back as it is stored, and leaves the others, in each table. -/

theorem CoachTable.get_set (t : CoachTable) {n : Nat} (h : n < 5) (v : Nat) : (t.set n v).get n = storedValue .coach n v := by
  have h : n = 0 ∨ n = 1 ∨ n = 2 ∨ n = 3 ∨ n = 4 := by omega
  rcases h with rfl | rfl | rfl | rfl | rfl
  · exact bitCode_bitOf v
  · show endCode (some (if v = 2 then .two else .one)) = if v = 2 then 2 else 1
    split <;> rfl
  · exact bitCode_bitOf v
  · exact bitCode_bitOf v
  · rfl

theorem CoachTable.get_set_ne (t : CoachTable) {n m : Nat} (h : m ≠ n) (v : Nat) : (t.set n v).get m = t.get m := by
  unfold CoachTable.set
  split <;> (unfold CoachTable.get; grind)

theorem DoorTable.get_set (t : DoorTable) {n : Nat} (h : n < 6) (v : Nat) : (t.set n v).get n = storedValue .door n v := by
  have h : n = 0 ∨ n = 1 ∨ n = 2 ∨ n = 3 ∨ n = 4 ∨ n = 5 := by omega
  rcases h with rfl | rfl | rfl | rfl | rfl | rfl
  · rfl
  · rfl
  · rfl
  · show WarnMode.code (if v = 1 then .pulsed else .steady) = if v = 1 then 1 else 0
    split <;> rfl
  · rfl
  · rfl

theorem DoorTable.get_set_ne (t : DoorTable) {n m : Nat} (h : m ≠ n) (v : Nat) : (t.set n v).get m = t.get m := by
  unfold DoorTable.set
  split <;> (unfold DoorTable.get; grind)

theorem HeatTable.get_set (t : HeatTable) {n : Nat} (h : n < 10) (v : Nat) : (t.set n v).get n = storedValue .heat n v := by
  have h : (n = 0 ∨ n = 5) ∨ n = 1 ∨ n = 2 ∨ n = 3 ∨ n = 4 ∨ n = 6 ∨ n = 7 ∨ n = 8 ∨ n = 9 := by omega
  rcases h with (rfl | rfl) | rfl | rfl | rfl | rfl | rfl | rfl | rfl | rfl
  · exact bitCode_bitOf v
  · exact bitCode_bitOf v
  all_goals rfl

theorem HeatTable.get_set_ne (t : HeatTable) {n m : Nat} (h : m ≠ n) (v : Nat) : (t.set n v).get m = t.get m := by
  unfold HeatTable.set
  split <;> (unfold HeatTable.get; grind)

theorem ClassAction.ofValue_code (v : Nat) : (ClassAction.ofValue v).code = min 3 v := by
  match v with
  | 0 | 1 | 2 => rfl
  | n + 3 =>
    show 3 = min 3 (n + 3)
    omega

theorem Restriction.ofValue_code (v : Nat) : (Restriction.ofValue v).code = if v ≤ 2 then v else 0 := by
  match v with
  | 0 | 1 | 2 => rfl
  | n + 3 =>
    rw [if_neg (by omega)]
    rfl

theorem ClassEntry.get_set (e : ClassEntry) {n : Nat} (v : Nat) : (e.set (n % 5) v).get (n % 5) = storedValue .cls n v := by
  have h : n % 5 = 0 ∨ n % 5 = 1 ∨ n % 5 = 2 ∨ n % 5 = 3 ∨ n % 5 = 4 := by omega
  rw [storedValue]
  rcases h with h | h | h | h | h
  · rw [h]; exact ClassAction.ofValue_code v
  · rw [h]
    show bitCode (decide (v = 1)) = if v = 1 then 1 else 0
    by_cases hv : v = 1 <;> simp [bitCode, hv]
  · rw [h]; exact Restriction.ofValue_code v
  · rw [h]; exact bitCode_bitOf v
  · rw [h]
    show (if 16 ≤ v ∧ v ≤ 63 then some v else none).getD 0 = if 16 ≤ v ∧ v ≤ 63 then v else 0
    split <;> rfl

theorem ClassEntry.get_set_ne (e : ClassEntry) {n m : Nat} (h : m ≠ n) (v : Nat) : (e.set n v).get m = e.get m := by
  unfold ClassEntry.set
  split <;> (unfold ClassEntry.get; grind)

theorem SenseTable.get_set (t : SenseTable) {n : Nat} (hg : t.gains.length = 8) (h : n < 12) (v : Nat) :
    (t.set n v).get n = storedValue .sense n v := by
  match n with
  | 0 =>
    by_cases hv : v ≤ 3
    · obtain ⟨x, hx, hc⟩ := SenseMode.ofCode_le hv
      show ((SenseMode.ofCode v).getD .scanCont).code = min 3 v
      rw [hx, Option.getD_some, hc]
      omega
    · show ((SenseMode.ofCode v).getD .scanCont).code = min 3 v
      rw [SenseMode.ofCode_none (by omega)]
      show 3 = min 3 v
      omega
  | 1 => rfl
  | 2 => rfl
  | 3 => rfl
  | k + 4 =>
    have hs : storedValue .sense (k + 4) v = clampGain v := by
      rw [storedValue, if_neg (by omega), if_neg (by omega), if_neg (by omega)]
      rfl
    rw [hs]
    show (t.gains.set k (clampGain v)).getD k 0 = clampGain v
    rw [List.getD_eq_getElem?_getD, List.getElem?_set_self (by omega)]
    rfl

theorem SenseTable.get_set_ne (t : SenseTable) {n m : Nat} (h : m ≠ n) (v : Nat) : (t.set n v).get m = t.get m := by
  unfold SenseTable.set
  split <;> (unfold SenseTable.get; grind)

/-- The tables have all their entries. -/
structure Tables.Whole (t : Tables) : Prop where
  cls : t.cls.length = 32
  gains : t.sense.gains.length = 8

theorem Tables.Whole.set {t : Tables} (h : t.Whole) (name : TableName) (n v : Nat) : (t.set name n v).Whole := by
  cases name with
  | cls => exact ⟨(List.length_modify _ _ _).trans h.cls, h.gains⟩
  | sense =>
    refine ⟨h.cls, ?_⟩
    show (t.sense.set n v).gains.length = 8
    unfold SenseTable.set
    split
    · exact h.gains
    · exact h.gains
    · exact h.gains
    · exact h.gains
    · exact List.length_set.trans h.gains
  | coach => exact ⟨h.cls, h.gains⟩
  | door => exact ⟨h.cls, h.gains⟩
  | heat => exact ⟨h.cls, h.gains⟩

theorem Tables.get_set {t : Tables} (h : t.Whole) {name : TableName} {n : Nat} (hn : n < name.fields) (v : Nat) :
    (t.set name n v).get name n = storedValue name n v := by
  cases name with
  | coach => exact t.coach.get_set hn v
  | door => exact t.door.get_set hn v
  | heat => exact t.heat.get_set hn v
  | sense => exact t.sense.get_set h.gains hn v
  | cls =>
    have hlt : n / 5 < t.cls.length := by
      rw [h.cls]
      exact Nat.div_lt_of_lt_mul hn
    show ((t.cls.modify (n / 5) _).getD (n / 5) _).get (n % 5) = _
    rw [List.getD_eq_getElem?_getD, List.getElem?_modify_eq, List.getElem?_eq_getElem hlt]
    exact ClassEntry.get_set _ v

theorem Tables.get_set_ne {t : Tables} {name name' : TableName} {n m : Nat} (h : name' ≠ name ∨ m ≠ n) (v : Nat) :
    (t.set name n v).get name' m = t.get name' m := by
  by_cases hname : name' = name
  · subst hname
    replace h : m ≠ n := h.resolve_left fun x => x rfl
    cases name' with
    | coach => exact t.coach.get_set_ne h v
    | door => exact t.door.get_set_ne h v
    | heat => exact t.heat.get_set_ne h v
    | sense => exact t.sense.get_set_ne h v
    | cls =>
      show ((t.cls.modify (n / 5) _).getD (m / 5) _).get (m % 5) = (t.cls.getD (m / 5) _).get (m % 5)
      rw [List.getD_eq_getElem?_getD, List.getD_eq_getElem?_getD]
      by_cases he : n / 5 = m / 5
      · rw [he, List.getElem?_modify_eq]
        cases t.cls[m / 5]? with
        | none => rfl
        | some e => exact ClassEntry.get_set_ne e (by omega) v
      · rw [List.getElem?_modify_ne _ _ he]
  · cases name with
    | coach =>
      cases name' with
      | coach => exact absurd rfl hname
      | _ => rfl
    | door =>
      cases name' with
      | door => exact absurd rfl hname
      | _ => rfl
    | heat =>
      cases name' with
      | heat => exact absurd rfl hname
      | _ => rfl
    | cls =>
      cases name' with
      | cls => exact absurd rfl hname
      | _ => rfl
    | sense =>
      cases name' with
      | sense => exact absurd rfl hname
      | _ => rfl

/-- Values written from a field onward, each as it is stored. -/
def Tables.setFrom (name : TableName) : Nat → List Nat → Tables → Tables
  | _, [], t => t
  | n, v :: vs, t => Tables.setFrom name (n + 1) vs (t.set name n v)

theorem Tables.setFrom_get_ne {name name' : TableName} {m : Nat} (n : Nat) (vs : List Nat) (t : Tables)
    (h : name' ≠ name ∨ m < n ∨ n + vs.length ≤ m) : (Tables.setFrom name n vs t).get name' m = t.get name' m := by
  induction vs generalizing n t with
  | nil => rfl
  | cons v vs ih =>
    rw [List.length_cons] at h
    rw [Tables.setFrom, ih (n + 1) _ (h.imp_right fun h => by omega), Tables.get_set_ne (h.imp_right fun h => by omega)]

theorem Tables.setFrom_get {name : TableName} {n : Nat} {vs : List Nat} {t : Tables} (ht : t.Whole) (hn : n + vs.length ≤ name.fields) {i v : Nat}
    (hv : vs[i]? = some v) : (Tables.setFrom name n vs t).get name (n + i) = storedValue name (n + i) v := by
  induction vs generalizing n t i with
  | nil => simp at hv
  | cons x xs ih =>
    rw [List.length_cons] at hn
    rw [Tables.setFrom]
    cases i with
    | zero =>
      obtain rfl : x = v := by simpa using hv
      rw [Tables.setFrom_get_ne _ _ _ (.inr (.inl (by omega)))]
      exact Tables.get_set ht (by omega) x
    | succ i =>
      have e : n + (i + 1) = n + 1 + i := by omega
      rw [e]
      exact ih (ht.set name n x) (by omega) (by simpa using hv)

/-- Without a pacer interval above 255, no free value is drawn (log 10). -/
theorem State.loadFields_eq {name : TableName} {n : Nat} {vs : List Nat} (s : State)
    (h : ∀ i v, vs[i]? = some v → ¬(name = .sense ∧ n + i = 3 ∧ 255 < v)) :
    s.loadFields name n vs = { s with mgmt := { s.mgmt with staging := Tables.setFrom name n vs s.mgmt.staging } } := by
  induction vs generalizing n s with
  | nil => rfl
  | cons v vs ih =>
    rw [State.loadFields, State.loadField, if_neg (by simpa using h 0 v rfl), ih _ fun i x hx => by
      have := h (i + 1) x (by simpa using hx)
      rwa [show n + (i + 1) = n + 1 + i by omega] at this]
    rfl

theorem readValues_flatMap {vs : List Nat} (h : ∀ v ∈ vs, v ≤ 65535) : readValues (vs.flatMap be16) = some vs := by
  induction vs with
  | nil => rfl
  | cons v vs ih =>
    have hv := h v List.mem_cons_self
    show (readValues (vs.flatMap be16)).map (u16 (byte (v / 256)) (byte v) :: ·) = _
    rw [ih fun x hx => h x (List.mem_cons_of_mem _ hx), Option.map_some, u16_be16 (by omega)]

/-- LOAD TABLE by its range (R174). -/
theorem loadAct_eq {o : Origin} {r : Request} {x f : Byte} {vs : List Nat} {name : TableName} (hr : r.args = x :: f :: vs.flatMap be16)
    (hx : TableName.ofCode x.toNat = some name) (hv : ∀ v ∈ vs, v ≤ 65535) (s : State) : loadAct o r s =
      if name.fields < f.toNat + vs.length then (.plain .badRange, s)
      else (.now .ok (x :: f :: byte vs.length :: ((s.loadFields name f.toNat vs).mgmt.staging.getFrom name f.toNat vs.length).flatMap be16),
        s.loadFields name f.toNat vs) := by
  rw [loadAct, hr]
  simp only [hx, readValues_flatMap hv, listBytes, Tables.getFrom, List.length_map, List.length_range, List.cons_append, List.nil_append]

/-! ## SET BUDGET and CLEAR GROUP FAULT (R126, R148) -/

/-- A group cleared: ENABLED, its strikes and its flag gone (R148). -/
def Group.cleared (g : Group) : Group := { g with st := .enabled, strikes := 0, openFlag := false }

theorem clearGroup_fitted {g : Group} (h : g.st ≠ .notFitted) : clearGroup g = g.cleared := by
  obtain ⟨st, n, output, strikes, openFlag⟩ := g
  cases st with
  | notFitted => exact absurd rfl h
  | enabled => rfl
  | failed => rfl

theorem Heater.fitted_lt {h : Heater} {k : Nat} (hf : (h.group k).st ≠ .notFitted) : k < h.groups.length := by
  refine Nat.lt_of_not_le fun hk => hf ?_
  rw [Heater.group_eq, List.getElem?_eq_none hk]
  rfl

/-- What CLEAR GROUP FAULT does to the groups and the on-windows, for the places that are named (R148). -/
structure Cleared (named : Nat → Prop) (s t : State) : Prop where
  hit : ∀ k, named k → (s.heater.group k).st ≠ .notFitted →
    t.heater.group k = (s.heater.group k).cleared ∧ (t.sense.onWin k).window = [] ∧ (t.sense.onWin k).count = 0
  missed : ∀ k, (¬named k ∨ (s.heater.group k).st = .notFitted) → t.heater.group k = s.heater.group k ∧ t.sense.onWin k = s.sense.onWin k
  events : t.events = s.events
  notices : t.notices = s.notices
  link : t.link = s.link
  frame : s.sameFrame t
  census : t.census = s.census
  doors : t.doors = s.doors

theorem State.clearGroupFault_cleared (j : Nat) (s : State) : Cleared (· = j) s (State.clearGroupFault j s) := by
  by_cases hs : (s.heater.group j).st = .notFitted
  · rw [State.clearGroupFault, if_pos hs]
    exact ⟨fun k hk hf => absurd (hk ▸ hs) hf, fun _ _ => ⟨rfl, rfl⟩, rfl, rfl, rfl, ⟨rfl, rfl, rfl, rfl, rfl⟩, rfl, rfl⟩
  · have hlt : j < s.heater.groups.length := Heater.fitted_lt hs
    rw [State.clearGroupFault, if_neg hs]
    refine ⟨fun k hk hf => ?_, fun k hk => ?_, rfl, rfl, rfl, ⟨rfl, rfl, rfl, rfl, rfl⟩, rfl, rfl⟩
    · subst hk
      refine ⟨(State.changeGroup_group_self hlt).trans (clearGroup_fitted hf), ?_⟩
      simp only [Sense.onWin_eq, List.getElem?_modify_eq]
      cases (s.changeGroup k clearGroup).sense.onWins[k]? <;> exact ⟨rfl, rfl⟩
    · have hne : k ≠ j := fun e => hk.elim (fun h => h e) fun h => hs (e ▸ h)
      refine ⟨State.changeGroup_group_ne hne, ?_⟩
      simp only [Sense.onWin_eq, List.getElem?_modify_ne _ _ hne.symm]
      rfl

theorem Cleared.trans {a b : Nat → Prop} {s t u : State} (h : Cleared a s t) (k : Cleared b t u) : Cleared (fun i => a i ∨ b i) s u := by
  obtain ⟨f1, f2, f3, f4, f5⟩ := h.frame
  obtain ⟨g1, g2, g3, g4, g5⟩ := k.frame
  refine ⟨fun i hi hf => ?_, fun i hi => ?_, k.events.trans h.events, k.notices.trans h.notices, k.link.trans h.link,
    ⟨g1.trans f1, g2.trans f2, g3.trans f3, g4.trans f4, g5.trans f5⟩, k.census.trans h.census, k.doors.trans h.doors⟩
  · by_cases ha : a i
    · obtain ⟨h1, h2, h3⟩ := h.hit i ha hf
      by_cases hb : b i
      · obtain ⟨k1, k2, k3⟩ := k.hit i hb (by rw [h1]; exact nofun)
        exact ⟨by rw [k1, h1]; rfl, k2, k3⟩
      · obtain ⟨k1, k2⟩ := k.missed i (.inl hb)
        exact ⟨k1.trans h1, by rw [k2]; exact h2, by rw [k2]; exact h3⟩
    · obtain ⟨h1, h2⟩ := h.missed i (.inl ha)
      obtain ⟨k1, k2⟩ := k.hit i (hi.resolve_left ha) (by rw [h1]; exact hf)
      exact ⟨by rw [k1, h1], k2⟩
  · obtain ⟨h1, h2⟩ := h.missed i (hi.imp_left fun x y => x (.inl y))
    obtain ⟨k1, k2⟩ := k.missed i (hi.imp (fun x y => x (.inr y)) fun x => by rw [h1]; exact x)
    exact ⟨k1.trans h1, k2.trans h2⟩

/-- All groups, one after another. -/
theorem State.clearGroups_cleared (ks : List Nat) (s : State) : Cleared (· ∈ ks) s (ks.foldl (fun acc j => State.clearGroupFault j acc) s) := by
  induction ks generalizing s with
  | nil => exact ⟨fun _ h => absurd h List.not_mem_nil, fun _ _ => ⟨rfl, rfl⟩, rfl, rfl, rfl, ⟨rfl, rfl, rfl, rfl, rfl⟩, rfl, rfl⟩
  | cons j ks ih =>
    have h := (State.clearGroupFault_cleared j s).trans (ih _)
    simpa only [List.mem_cons, List.foldl_cons] using h

theorem Cleared.congr {a b : Nat → Prop} {s t : State} (h : Cleared a s t) (e : ∀ k, k < 4 → (a k ↔ b k)) :
    (∀ k, k < 4 → b k → (s.heater.group k).st ≠ .notFitted →
      t.heater.group k = (s.heater.group k).cleared ∧ (t.sense.onWin k).window = [] ∧ (t.sense.onWin k).count = 0)
    ∧ ∀ k, k < 4 → (¬b k ∨ (s.heater.group k).st = .notFitted) → t.heater.group k = s.heater.group k ∧ t.sense.onWin k = s.sense.onWin k :=
  ⟨fun k hk hb => h.hit k ((e k hk).mpr hb), fun k hk hn => h.missed k (hn.imp_left (mt (e k hk).mp))⟩

/-- The state that CLEAR GROUP FAULT leaves where it clears (R148). -/
def State.faultsCleared (k : Nat) (s : State) : State :=
  (if k = 255 then [0, 1, 2, 3].foldl (fun acc j => State.clearGroupFault j acc) s else State.clearGroupFault k s).formR

theorem Cleared.rated {named : Nat → Prop} {s t : State} (h : Cleared named s t) : Cleared named s t.formR :=
  ⟨h.hit, h.missed, h.events, h.notices, h.link, h.frame, h.census, h.doors⟩

theorem State.faultsCleared_cleared (j : Nat) (s : State) :
    ∃ named, Cleared named s (s.faultsCleared j) ∧ ∀ k, k < 4 → (named k ↔ k = j ∨ j = 255) := by
  by_cases hall : j = 255
  · rw [State.faultsCleared, if_pos hall]
    refine ⟨_, (State.clearGroups_cleared [0, 1, 2, 3] s).rated, fun i hi => ?_⟩
    simp only [List.mem_cons, List.not_mem_nil, or_false]
    omega
  · rw [State.faultsCleared, if_neg hall]
    exact ⟨_, (State.clearGroupFault_cleared j s).rated, fun i _ => by simp [hall]⟩

theorem State.faultsCleared_rating (j : Nat) (s : State) :
    (s.faultsCleared j).heater.rating = ratingOf (s.faultsCleared j).mgmt.working.heat (s.faultsCleared j).heater.groups := by
  unfold State.faultsCleared
  generalize (if j = 255 then _ else _ : State) = t
  rfl

theorem groupFaultAct_clears {o : Origin} {r : Request} {a : Byte} {s : State} (hr : r.args = [a])
    (h : a.toNat = 255 ∨ (a.toNat ≤ 3 ∧ (s.heater.group a.toNat).st ≠ .notFitted)) :
    groupFaultAct o r s = (.now .ok (s.faultsCleared a.toNat).groupStates, s.faultsCleared a.toNat) := by
  have ha : (r.args.getD 0 0) = a := by rw [hr]; rfl
  unfold groupFaultAct State.faultsCleared
  rw [ha]
  by_cases hall : a.toNat = 255
  · simp only [hall, if_true]
  · obtain ⟨h3, hf⟩ := h.resolve_left hall
    simp only [hall, if_false, if_neg (show ¬3 < a.toNat by omega), if_neg hf]

theorem groupFaultAct_range {o : Origin} {r : Request} {a : Byte} {s : State} (hr : r.args = [a]) (h3 : 3 < a.toNat) (h : a.toNat ≠ 255) :
    groupFaultAct o r s = (.now .badRange s.groupStates, s) := by
  have ha : (r.args.getD 0 0) = a := by rw [hr]; rfl
  unfold groupFaultAct
  rw [ha]
  simp only [h, if_false, if_pos h3]

theorem groupFaultAct_refused {o : Origin} {r : Request} {a : Byte} {s : State} (hr : r.args = [a]) (h3 : a.toNat ≤ 3)
    (h : (s.heater.group a.toNat).st = .notFitted) : groupFaultAct o r s = (.now .refused s.groupStates, s) := by
  have ha : (r.args.getD 0 0) = a := by rw [hr]; rfl
  unfold groupFaultAct
  rw [ha]
  simp only [if_neg (show ¬a.toNat = 255 by omega), if_neg (show ¬3 < a.toNat by omega), if_pos h]

/-- Clearing does not look at the coach link. -/
theorem State.faultsCleared_link (k : Nat) (s : State) (x : Link) :
    ({ s with link := x } : State).faultsCleared k = { s.faultsCleared k with link := x } := by
  have h1 (j : Nat) (s : State) : State.clearGroupFault j { s with link := x } = { State.clearGroupFault j s with link := x } := by
    unfold State.clearGroupFault
    by_cases h : (s.heater.group j).st = .notFitted
    · rw [if_pos h, if_pos h]
    · rw [if_neg h, if_neg h]
      rfl
  have h2 (ks : List Nat) (s : State) : ks.foldl (fun acc j => State.clearGroupFault j acc) { s with link := x } =
      { ks.foldl (fun acc j => State.clearGroupFault j acc) s with link := x } := by
    induction ks generalizing s with
    | nil => rfl
    | cons j ks ih => rw [List.foldl_cons, h1, ih, List.foldl_cons]
  have h3 (t : State) : ({ t with link := x } : State).formR = { t.formR with link := x } := rfl
  by_cases h : k = 255
  · rw [State.faultsCleared, if_pos h, h2, h3, State.faultsCleared, if_pos h]
  · rw [State.faultsCleared, if_neg h, h1, h3, State.faultsCleared, if_neg h]

end Sys2Proof.Machine
end

section

open Sys2Proof Sys2Proof.Machine

/-- Settles O54: the settings read or refused, put in force, and the coverage that they cost. -/
theorem setSenseChangesSettings : Obligations.SetSenseChangesSettings := by
  intro s h l m st sel iv gs hlen hs c good
  have hform : setSenseService.form (m :: st :: sel :: iv :: gs) = true := by
    show decide _ = true
    rw [decide_eq_true_eq]
    simp [hlen]
  refine ⟨fun hg => ?_, fun hg => ?_⟩
  · refine State.run_request (v := setSenseService) (t := s) (by decide) hs hform fun k => ?_
    show setSenseAct .coachLink _ _ = _
    simp only [setSenseAct, readSettings_bad hg]
    rfl
  · obtain ⟨mode, hmode, hread⟩ := readSettings_good hg
    generalize hv : ({ mode := mode, stop := st.toNat, selected := sel.toNat, interval := iv.toNat, gains := gs.map BitVec.toNat } : SenseSettings) = v at hread
    have hact (x : State) : setSenseAct .coachLink { kind := 16, tag := u16 h l, args := m :: st :: sel :: iv :: gs } x =
        (.plain .ok, x.changeSense v) := by
      simp only [setSenseAct, hread]
    have q := State.changeSense_resensed v (s.taken 1)
    have hplaces : (setSenseAct .coachLink { kind := 16, tag := u16 h l, args := m :: st :: sel :: iv :: gs } s).1.places = 1 := by
      rw [hact]
      rfl
    have hrun := State.run_taken (v := setSenseService) (by decide) hs hform hplaces (hact _) ((Link.enterReply_rx _ _ _).trans q.rx)
    have hset := State.raise_sets .senseDegraded ((s.taken 1).resensed v)
    have hcond := State.changeSense_eq v (s.taken 1)
    have hgroup := State.resensed_group v (s.taken 1)
    have hblocks : s.sameFrame ((s.taken 1).resensed v) ∧ ((s.taken 1).resensed v).census = s.census ∧ ((s.taken 1).resensed v).doors = s.doors :=
      ⟨⟨rfl, rfl, rfl, rfl, rfl⟩, rfl, rfl⟩
    have hw := State.resensed_sense v (s.taken 1)
    generalize hgs : ((s.taken 1).resensed v).heater.groups = groups at hw
    have hquiet : (c.degraded = true ∨ ((s.taken 1).resensed v).sense.degraded = false) →
        exec (.setSense .coachLink) s = .next { s.resensed v with link := (s.answered 16 h l .ok []).link } := fun hc =>
      State.run_request (v := setSenseService) (t := s.resensed v) (by decide) hs hform fun k => by
        refine (hact { s with link := k }).trans ?_
        rw [State.changeSense_eq, if_neg fun x => by
          have x1 : c.degraded = false := x.1
          have x2 : ((s.taken 1).resensed v).sense.degraded = true := x.2
          rw [x1, x2] at hc
          exact hc.elim nofun nofun]
        rfl
    generalize (s.taken 1).resensed v = w at q hset hcond hgroup hblocks hw hquiet
    generalize (s.taken 1).changeSense v = u at q hcond hrun
    generalize ht : State.sendAnswer _ _ _ u = t at hrun
    have tsense : t.sense = { c.change v with onWins := handLevels groups (c.change v).onWins } := by rw [← ht]; exact q.sense.trans hw
    have tgroup (k : Nat) : t.heater.group k = w.heater.group k := by rw [← ht]; exact congrArg (Heater.group · k) q.heater
    have tframe : s.sameFrame t ∧ t.census = s.census ∧ t.doors = s.doors := by
      obtain ⟨⟨f1, f2, f3, f4, f5⟩, f6, f7⟩ := hblocks
      rw [← ht]
      exact ⟨⟨q.powered.trans f1, q.nodeId.trans f2, q.strap.trans f3, q.mgmt.trans f4, q.pending.trans f5⟩, q.census.trans f6, q.doors.trans f7⟩
    have hempty := c.emptiedBy_iff v
    refine ⟨t, hrun, ?_⟩
    rw [tsense]
    subst hv
    refine ⟨hmode, rfl, rfl, rfl, rfl, rfl, rfl, rfl, ?_, ⟨fun hsame => ?_, fun hd x hx => ?_, ?_⟩, fun k => ?_, rfl, rfl, tframe.1, tframe.2.1,
      tframe.2.2, fun h1 h2 => ?_, fun hc => ?_⟩
    · by_cases he : c.emptiedBy { mode := mode, stop := st.toNat, selected := sel.toNat, interval := iv.toNat, gains := gs.map BitVec.toNat } = true
      · simp only [Sense.change, he, if_true, List.map_map]
        rfl
      · simp only [Sense.change, he, if_false, Bool.false_eq_true]
        exact (Classical.not_not.mp (mt hempty.mpr he)).2.2.symm
    · exact if_neg fun he => hempty.mp he hsame
    · have he := hempty.mpr hd
      simp only [Sense.change, he, if_true, List.mem_map] at hx
      obtain ⟨g, -, rfl⟩ := hx
      exact ⟨rfl, rfl⟩
    · intro hd w' hw'
      have he := hempty.mpr hd
      obtain ⟨y, hy, h1, h2⟩ := mem_handLevels hw'
      simp only [Sense.change, he, if_true, List.mem_map] at hy
      obtain ⟨z, -, rfl⟩ := hy
      exact ⟨h1, h2⟩
    · rw [tgroup]
      exact hgroup k
    · rw [← ht]
      show hasFlag u.notices.flags _ = true
      rw [hcond, if_pos ⟨h1, by rw [hw]; exact h2⟩]
      exact hset
    · have e := hrun.symm.trans (hquiet (hc.imp_right fun h => by rw [hw]; exact h))
      injection e with e
      rw [e]

end

section

open Sys2Proof Sys2Proof.Machine

/-- Settles O55: the values written one after another, each read back as it is stored. -/
theorem loadTableClampsIntoStaging : Obligations.LoadTableClampsIntoStaging := by
  intro s h l x f vs name hx h1 h32 hv hs hc hg
  have hform : loadTableService.form (x :: f :: vs.flatMap be16) = true := by
    show loadForm (x :: f :: vs.flatMap be16) = true
    simp only [loadForm, hx, readValues_flatMap hv, h1, h32, decide_true, Option.isSome_some, Bool.and_self]
  refine ⟨fun hbad => ?_, fun hok hpacer => ?_⟩
  · exact State.run_request (v := loadTableService) (t := s) (by decide) hs hform fun k =>
      (loadAct_eq (o := .coachLink) (r := { kind := 12, tag := u16 h l, args := x :: f :: vs.flatMap be16 }) rfl hx hv { s with link := k }).trans (if_pos hbad)
  · have hfree (i v : Nat) (hi : vs[i]? = some v) : ¬(name = .sense ∧ f.toNat + i = 3 ∧ 255 < v) := fun ⟨hn, h3, hlt⟩ => by
      have := hpacer hn (by omega) v (by rw [← hi]; congr 1; omega)
      omega
    refine ⟨Tables.setFrom name f.toNat vs s.mgmt.staging, ?_, fun i v hi => ?_, fun name' n hn => ?_⟩
    · refine State.run_request (v := loadTableService)
        (t := { s with mgmt := { s.mgmt with staging := Tables.setFrom name f.toNat vs s.mgmt.staging } }) (by decide) hs hform fun k => ?_
      refine (loadAct_eq (o := .coachLink) (r := { kind := 12, tag := u16 h l, args := x :: f :: vs.flatMap be16 }) rfl hx hv { s with link := k }).trans ((if_neg (Nat.not_lt.mpr hok)).trans ?_)
      rw [State.loadFields_eq { s with link := k } hfree]
    · exact Tables.setFrom_get ⟨hc, hg⟩ hok hi
    · exact Tables.setFrom_get_ne _ _ _ hn

end

section

open Sys2Proof Sys2Proof.Machine

/-- Settles O58: the budget by the lead role, and the groups by what the argument names. -/
theorem heatingRequests : Obligations.HeatingRequests := by
  intro s h l a b states
  refine ⟨fun hs hl => ?_, fun hs hl => ?_, fun hs h3 h255 => ?_, fun hs h3 hn => ?_, fun hs hc => ?_⟩
  · refine State.run_request (v := setBudgetService) (t := s) (by decide) hs rfl fun k => ?_
    exact if_neg (by simp [State.isLead, hl])
  · refine State.run_request (v := setBudgetService) (t := { s with alloc := { s.alloc with budget := min 4095 (a.toNat * 256 + b.toNat) } }) (by decide) hs rfl fun k => ?_
    exact if_pos (decide_eq_true hl)
  · exact State.run_request (v := clearGroupFaultService) (t := s) (by decide) hs rfl fun k =>
      groupFaultAct_range (o := .coachLink) (r := { kind := 20, tag := u16 h l, args := [a] }) (s := { s with link := k }) rfl h3 h255
  · exact State.run_request (v := clearGroupFaultService) (t := s) (by decide) hs rfl fun k =>
      groupFaultAct_refused (o := .coachLink) (r := { kind := 20, tag := u16 h l, args := [a] }) (s := { s with link := k }) rfl h3 hn
  · have hrun := State.run_request (v := clearGroupFaultService) (t := s.faultsCleared a.toNat)
      (st := .ok) (results := (s.faultsCleared a.toNat).groupStates) (by decide) hs rfl fun k =>
      (groupFaultAct_clears (o := .coachLink) (r := { kind := 20, tag := u16 h l, args := [a] }) (s := { s with link := k }) rfl hc).trans
        (by rw [State.faultsCleared_link]; rfl)
    obtain ⟨named, k, hnamed⟩ := State.faultsCleared_cleared a.toNat s
    have hrating : (s.faultsCleared a.toNat).heater.rating = ratingOf s.mgmt.working.heat (s.faultsCleared a.toNat).heater.groups := by
      rw [← k.frame.2.2.2.1]
      exact State.faultsCleared_rating _ _
    obtain ⟨hhit, hmiss⟩ := k.congr hnamed
    generalize s.faultsCleared a.toNat = t at hrun k hrating hhit hmiss
    refine ⟨_, hrun, hhit, fun i hi hn => hmiss i hi (hn.imp_left fun x y => ?_), hrating, rfl, k.events, k.notices, k.frame, k.census, k.doors⟩
    exact y.elim x.1 x.2

end

section
/-! PROOFS. STORE and its completion (O57), RESTART and RECENSUS (O59). -/

namespace Sys2Proof.Machine

/-! ## A reply behind what its request did -/

/-- The reply to a request that leaves the coach link as taking it left it is the reply alone (R179). -/
theorem State.sendAnswer_link {s u : State} {code : Nat} {h l : Byte} {args : List Byte} {st : Status} {results : List Byte}
    (hs : s.asks code h l args) (hu : u.link = (s.taken (Answer.now st results).places).link) :
    (u.sendAnswer .coachLink { kind := code, tag := u16 h l, args := args } (.now st results)).link = (s.answered code h l st results).link := by
  obtain ⟨-, -, hq, hb, hres, hsend⟩ := hs
  obtain ⟨m, hm⟩ := Option.ne_none_iff_exists'.mp hsend
  have hparts : ∀ parts : List Message, parts.length = (pieces Config.maxParts linkPartBytes results).length →
      (s.taken (Answer.now st results).places).link.enterReply (Answer.now st results).places parts =
        { s.link with rx := [], txQ := parts.take 8, backlog := parts.drop 8 } := fun parts hlen => by
    have ht : parts.take (Answer.now st results).places = parts.take 8 := by
      rw [List.take_eq_take_iff, Answer.places, hlen, show Config.txPlaces = 8 from rfl]
      omega
    have hd : parts.drop (Answer.now st results).places = parts.drop 8 := by
      rw [List.drop_eq_drop_iff, Answer.places, hlen, show Config.txPlaces = 8 from rfl]
      omega
    rw [Link.enterReply, ht, hd, Link.start]
    simp only [State.taken, hm, hq, hb, hres, List.nil_append, Nat.sub_self]
  show u.link.enterReply _ _ = _
  rw [hu, hparts _ (by simp [replyPayloads])]
  rfl

/-! ## STORE (R176) -/

/-- The store WRITING, the stored image invalid (R176). -/
def State.writing (o : Origin) (tag : Nat) (s : State) : State :=
  { s with mgmt := { s.mgmt with
      image := none, store := .writing { tables := s.mgmt.working, enable := s.notices.enable } o tag } }

theorem storeAct_idle {o : Origin} {r : Request} {s : State} (h : s.mgmt.store = .idle) : storeAct o r s = (.later, s.writing o r.tag) :=
  if_neg (by simp [h])

theorem storeAct_busy {o : Origin} {r : Request} {s : State} (h : s.mgmt.store ≠ .idle) : storeAct o r s = (.plain .busy, s) := if_pos h

/-- The image valid and the store IDLE (R176). -/
def State.stored (image : Image) (s : State) : State := { s with mgmt := { s.mgmt with image := some image, store := .idle } }

theorem State.storeDone_writing {s : State} {image : Image} {o : Origin} {tag : Nat} (h : s.mgmt.store = .writing image o tag) :
    s.storeDone = ((s.stored image).sendReply o storeCode tag .ok []).drainLink := by
  rw [State.storeDone, h]
  rfl

theorem State.storeDone_idle {s : State} (h : s.mgmt.store = .idle) : s.storeDone = s := by rw [State.storeDone, h]

theorem exec_storeWriteComplete {s : State} (h : s.powered = true) : exec .storeWriteComplete s = .next s.storeDone := State.run_powered _ h

/-- A reply without results over the line is one frame of class 10 (R172). -/
theorem State.sendReply_line (p : Port) (i : NodeId) (d : Dir) {code : Nat} (tag : Nat) (st : Status) (s : State) :
    s.sendReply (.line p i d) code tag st [] = s.sendReplyFrame p i d (byte code :: (be16 tag ++ [byte st.code, 0x80])) := rfl

theorem State.sendReplyFrame_quiet (p : Port) (i : NodeId) (d : Dir) (payload : List Byte) (s : State) : Quiet s (s.sendReplyFrame p i d payload) :=
  State.originate_quiet _ _ _

theorem State.sendReplyFrame_ready {p : Port} {i : NodeId} {s : State} (d : Dir) (payload : List Byte) (hi : i ≠ s.nodeId) (h : s.Ready p) :
    s.sendReplyFrame p i d payload = s.begun p
      (s.ownFrame 10 d.opposite (if s.census.cs = .settled then s.census.epoch else 0) .nodeId i payload) := by
  rw [← State.shownEpoch_eq]
  exact State.originate_ready (m := { cls := 10, dir := d.opposite, epoch := s.shownEpoch, destKind := .nodeId, destVal := i, payload := payload })
    (Nat.le_succ 10) (decide_eq_false hi) h

theorem Dir.opposite_eq (d : Dir) : d.opposite = match d with
    | .away => .toward
    | .toward => .away := by cases d <;> rfl

/-! ## RECENSUS (R59) -/

theorem recensusAct_off {o : Origin} {r : Request} {s : State} (h : s.census.lead = .off) : recensusAct o r s = (.plain .refused, s) :=
  if_pos (.inr (decide_eq_false (by simp [h])))

theorem recensusAct_lead {r : Request} {s : State} (h : s.census.lead ≠ .off) : recensusAct .coachLink r s = (.plain .ok, s.startAttempt 0) :=
  if_neg (by simp [Origin.overLine, State.isLead, h])

/-- A census that a lead completes alone touches no port and nothing of the coach link: its announce is a broadcast that finds no end. -/
theorem State.startAttempt_silent {ctr : Nat} {s : State} (h : s.mated s.nonCabPort = false) : Silent s (s.startAttempt ctr) := by
  have hc := State.calling_silent ctr s
  rw [State.startAttempt_alone h, State.acceptReturn_eq]
  have hh := hc.trans (State.held_silent [s.ownEntry (endOrientation s.mgmt.working.coach.cabEnd)] (s.calling ctr))
  have hev := (s.calling_eventful ctr).trans (State.held_eventful [s.ownEntry (endOrientation s.mgmt.working.coach.cabEnd)] (s.calling ctr))
  generalize State.held _ _ = w at hh hev
  have hm : w.mated w.nonCabPort = false := by rw [hev.nonCabPort, hev.mated]; exact h
  rw [State.originate, State.originateWith_one (State.isOwnDestination_broadcast w 0), State.sendOne, if_neg (by simp [hm])]
  rw [if_pos (show (w.complete (announceSending _ _ _)).destKind = .broadcast from rfl)]
  exact hh

end Sys2Proof.Machine
end

section

open Sys2Proof Sys2Proof.Machine

/-- Settles O57: the image taken, and the reply when it is written, by the route of the request. -/
theorem storeWritesImage : Obligations.StoreWritesImage := by
  intro s
  refine ⟨fun h l hs hi => ?_, fun h l hs hi => ?_, fun hp hi => ?_, fun image h l hp hw hr hsend hres hb => ?_, fun image p i d tag hp hw hr => ?_,
    fun image p i dir h l hp hw hr hi he => ?_⟩
  · have hrun := State.run_taken (v := storeService) (by decide) hs rfl (n := 1) (by rw [show storeService.act = storeAct from rfl, storeAct_idle hi]; rfl)
      (storeAct_idle (o := .coachLink) (s := s.taken 1) hi) rfl
    exact hrun
  · exact State.run_request (v := storeService) (t := s) (by decide) hs rfl fun k => storeAct_busy (s := { s with link := k }) hi
  · rw [exec_storeWriteComplete hp, State.storeDone_idle hi]
  · rw [exec_storeWriteComplete hp, State.storeDone_writing hw, State.sendReply_one (s := s.stored image) hsend (by decide), be16_u16]
    rw [State.drainLink_empty (by exact hr), show (s.stored image).link.reserved = 1 from hres]
    rfl
  · have q := State.sendReplyFrame_quiet p i d (byte storeCode :: (be16 tag ++ [byte Status.ok.code, 0x80])) (s.stored image)
    refine ⟨_, exec_storeWriteComplete hp, ?_⟩
    rw [State.storeDone_writing hw, State.sendReply_line, State.drainLink_empty (q.rx.trans hr)]
    exact ⟨q.mgmt, q.nodeId, q.census, q.doors, q.heater, q.sense⟩
  · have hq : (s.stored image).Ready p := (State.ready_of_idleEnd he).congr (by cases p <;> rfl)
    rw [exec_storeWriteComplete hp, State.storeDone_writing hw, State.sendReply_line,
      State.sendReplyFrame_ready (s := s.stored image) dir _ hi hq, be16_u16, Dir.opposite_eq]
    refine congrArg _ ((State.drainLink_empty ?_).trans ?_)
    · rw [State.begun, State.setPort_link]
      exact hr
    · cases dir <;> rfl

/-- Settles O59: a restart by whether one is pending, a census by the lead role and the non-cab end. -/
theorem restartAndRecensusRequests : Obligations.RestartAndRecensusRequests := by
  intro s h l tag
  refine ⟨fun hs hr => ?_, fun hs hr => ?_, fun hs hl => ?_, fun hs hl hm => ?_, fun hs hl hm => ?_⟩
  · exact State.run_request (v := restartService) (t := { s with mgmt := { s.mgmt with restart := some 100 } }) (by decide) hs rfl fun k =>
      if_neg (by simpa using hr)
  · exact State.run_request (v := restartService) (t := s) (by decide) hs rfl fun k => if_pos hr
  · exact State.run_request (v := recensusService) (t := s) (by decide) hs rfl fun k => recensusAct_off (r := { kind := 21, tag := u16 h l, args := [] }) (s := { s with link := k }) hl
  · have ev := State.startAttempt_eventful 0 (s.taken 1)
    have hrun := State.run_taken (v := recensusService) (by decide) hs rfl (n := 1)
      (by rw [show recensusService.act = recensusAct from rfl, recensusAct_lead hl]; rfl) (recensusAct_lead (r := { kind := 21, tag := u16 h l, args := [] }) (s := s.taken 1) hl)
      ((Link.enterReply_rx _ _ _).trans ev.rx)
    have hc := State.startAttempt_census 0 (s.taken 1)
    rw [if_pos (show (s.taken 1).mated (s.taken 1).nonCabPort = true from hm)] at hc
    generalize (s.taken 1).startAttempt 0 = u at ev hrun hc
    refine ⟨_, hrun, ?_⟩
    show u.census.lead = _ ∧ u.census.cs = _ ∧ u.census.attemptNo = _ ∧ u.census.attemptCtr = _ ∧ u.census.timer = _ ∧ u.census.tag = _
      ∧ u.census.table = _ ∧ _ ∧ _
    rw [hc]
    exact ⟨rfl, rfl, rfl, rfl, rfl, rfl, rfl, (Link.enterReply_rx _ _ _).trans ev.rx, ev.sameFrame⟩
  · have ev := State.startAttempt_eventful 0 (s.taken 1)
    have hm' : (s.taken 1).mated (s.taken 1).nonCabPort = false := hm
    have hsil := State.startAttempt_silent (ctr := 0) hm'
    have hrun := State.run_taken (v := recensusService) (by decide) hs rfl (n := 1)
      (by rw [show recensusService.act = recensusAct from rfl, recensusAct_lead hl]; rfl) (recensusAct_lead (r := { kind := 21, tag := u16 h l, args := [] }) (s := s.taken 1) hl)
      ((Link.enterReply_rx _ _ _).trans ev.rx)
    have hc := State.startAttempt_census 0 (s.taken 1)
    have hline := State.startAttempt_line 0 (s.taken 1)
    rw [if_neg (by rw [hm']; decide)] at hc hline
    generalize (s.taken 1).startAttempt 0 = u at ev hrun hc hline hsil
    refine ⟨_, hrun, ?_⟩
    show u.census.lead = _ ∧ u.census.cs = _ ∧ u.census.attemptNo = _ ∧ u.census.attemptCtr = _ ∧ u.census.timer = _ ∧ u.census.epoch = _
      ∧ u.census.table.map List.length = _ ∧ u.line.beaconOn = _ ∧ _ ∧ _
    rw [hc, hline]
    exact ⟨rfl, rfl, rfl, rfl, rfl, rfl, rfl, rfl, State.sendAnswer_link hs hsil.link, ev.sameFrame⟩

end

section
/-! PROOFS. Two runs of one event that differ in their coach links alone: while there is room for the messages and frames of the conditions
that can still arise, they go on to differ in their coach links alone. -/

namespace Sys2Proof.Machine

/-! ## Conditions that can still arise -/

/-- The conditions that the censuses, the counters and the converter settings can raise (R36, R40, R158, R164, R168). -/
def raisable : Finset Flag := {.topology, .censusFailed, .framesDropped, .counterException, .senseDegraded}

/-- How many of them have not been raised. -/
def Notices.unraised (n : Notices) : Nat := (raisable.filter fun f => hasFlag n.flags f = false).card

theorem Notices.unraised_le (n : Notices) : n.unraised ≤ 5 := Finset.card_filter_le raisable _

/-- A condition raised is one less to arise. -/
theorem State.setFlag_unraised {s : State} {f : Flag} (hf : f ∈ raisable) (h : hasFlag s.notices.flags f = false) :
    (s.setFlag f).notices.unraised + 1 ≤ s.notices.unraised := by
  refine Finset.card_lt_card (Finset.ssubset_iff_of_subset ?_ |>.mpr ⟨f, ?_, ?_⟩)
  · intro g hg
    simp only [Finset.mem_filter] at hg ⊢
    refine ⟨hg.1, Bool.eq_false_iff.mpr fun k => ?_⟩
    rw [(State.setFlag_quiet f s).flags g k] at hg
    exact absurd hg.2 (by decide)
  · exact Finset.mem_filter.mpr ⟨hf, h⟩
  · rw [Finset.mem_filter, hasFlag_setFlag]
    exact fun k => absurd k.2 (by decide)

theorem State.setFlag_unraised_le (s : State) (f : Flag) : (s.setFlag f).notices.unraised ≤ s.notices.unraised :=
  Finset.card_le_card fun g hg => by
    simp only [Finset.mem_filter] at hg ⊢
    refine ⟨hg.1, Bool.eq_false_iff.mpr fun k => ?_⟩
    rw [(State.setFlag_quiet f s).flags g k] at hg
    exact absurd hg.2 (by decide)

/-! ## Runs in step -/

/-- A coach link whose transmitter is busy, with room for `n` messages. -/
structure Link.Spare (n : Nat) (l : Link) : Prop where
  busy : l.sending ≠ none
  places : l.txQ.length + l.reserved + n ≤ 8

theorem Link.Spare.weaken {m n : Nat} {l : Link} (h : l.Spare n) (k : m ≤ n) : l.Spare m := ⟨h.busy, by have := h.places; omega⟩

/-- Two states that differ in their coach links alone, both with room for the messages of what can still arise and `m` more, and with room
for its frames and `n` more at the ports of `P`. -/
structure Paired (P : Port → Prop) (m n : Nat) (x y : State) : Prop where
  same : y = { x with link := y.link }
  left : x.link.Spare (x.notices.unraised + m)
  right : y.link.Spare (x.notices.unraised + m)
  room : ∀ p, P p → (x.port p).normalQ.length + 2 * x.notices.unraised + n ≤ 15

variable {P : Port → Prop} {m n : Nat} {x y : State}

theorem Paired.weaken (h : Paired P m n x y) {m' n' : Nat} (hm : m' ≤ m) (hn : n' ≤ n) : Paired P m' n' x y :=
  ⟨h.same, h.left.weaken (by omega), h.right.weaken (by omega), fun p hp => by have := h.room p hp; omega⟩

/-- A change that leaves notices, coach link and ports. -/
theorem Paired.inner (h : Paired P m n x y) {z : State} (hn : z.notices = x.notices := by rfl) (hl : z.link = x.link := by rfl)
    (ha : z.portA = x.portA := by rfl) (hb : z.portB = x.portB := by rfl) : Paired P m n z { z with link := y.link } := by
  refine ⟨rfl, by rw [hn, hl]; exact h.left, by rw [hn]; exact h.right, fun p hp => ?_⟩
  have hz : z.port p = x.port p := by cases p; exacts [ha, hb]
  rw [hz, hn]
  exact h.room p hp

theorem Paired.port (h : Paired P m n x y) (p : Port) : y.port p = x.port p := by
  rw [h.same]; cases p <;> rfl

theorem Paired.mated (h : Paired P m n x y) (p : Port) : y.mated p = x.mated p := by rw [State.mated, h.port p]; rfl

/-- A port changed in both states, its normal queue one longer at most where the port is of `P`. -/
theorem Paired.setPort {k : Nat} (h : Paired P m (n + k) x y) {p : Port} {z : LinePort}
    (hz : z.normalQ.length ≤ (x.port p).normalQ.length + k) : Paired P m n (x.setPort p z) (y.setPort p z) := by
  have hs := h.same
  generalize y.link = l at hs
  have hl := h.left
  have hr := h.right
  have hroom := h.room
  subst hs
  refine ⟨by cases p <;> rfl, by cases p <;> exact hl, by cases p <;> exact hr, fun q hq => ?_⟩
  have hn : (x.setPort p z).notices = x.notices := by cases p <;> rfl
  have := hroom q hq
  rw [hn]
  by_cases hp : q = p
  · subst hp
    rw [State.port_setPort]
    omega
  · rw [State.port_setPort_ne _ _ hp]
    omega

/-- An idle transmitter takes from the normal queue at most. -/
theorem LinePort.takeNext_normal (z : LinePort) : z.takeNext.normalQ.length ≤ z.normalQ.length := by
  unfold LinePort.takeNext
  split
  · split
    · exact Nat.le_refl _
    · rename_i h; rw [h]; exact Nat.le_succ _
    · exact Nat.le_refl _
  · exact Nat.le_refl _

/-- The places of the normal queue that a frame can take. -/
def normalPlaces (urgent : Bool) : Nat := if urgent then 0 else 1

theorem LinePort.enqueue_normalQ {z w : LinePort} {u : Bool} {f : Frame} (h : z.enqueue u f = some w) :
    w.normalQ.length ≤ z.normalQ.length + normalPlaces u := by
  unfold LinePort.enqueue at h
  cases u
  · rw [if_neg (by decide)] at h
    split at h
    · cases h
      exact (LinePort.takeNext_normal _).trans (by simp [normalPlaces])
    · exact absurd h nofun
  · rw [if_pos rfl] at h
    split at h
    · cases h
      exact LinePort.takeNext_normal _
    · exact absurd h nofun

/-- What keeps two states in step. -/
def InStep (P : Port → Prop) (f : State → State) : Prop := ∀ {m n : Nat} {x y : State}, Paired P m n x y → Paired P m n (f x) (f y)

section
variable {count : Nat → State → State} (hc : ∀ c, InStep P (count c))
include hc

theorem Paired.offer {u : Bool} (h : Paired P m (n + normalPlaces u) x y) (p : Port) (f : Frame) :
    Paired P m n (x.offer count p u f) (y.offer count p u f) := by
  unfold State.offer
  rw [h.port p]
  split
  · exact h.setPort (LinePort.enqueue_normalQ ‹_›)
  · exact hc _ (h.weaken (Nat.le_refl m) (Nat.le_add_right n _))

theorem Paired.sendOne {u : Bool} (h : Paired P m (n + normalPlaces u) x y) (p : Port) (f : Frame) :
    Paired P m n (x.sendOne count p u f) (y.sendOne count p u f) := by
  have hw := h.weaken (Nat.le_refl m) (Nat.le_add_right n _)
  unfold State.sendOne
  rw [h.mated p]
  split
  · exact h.offer hc p f
  · split
    · exact hw
    · exact hc _ hw

theorem Paired.sendCopy {u : Bool} (h : Paired P m (n + normalPlaces u) x y) (p : Port) (f : Frame) :
    Paired P m n (x.sendCopy count p u f) (y.sendCopy count p u f) := by
  unfold State.sendCopy
  rw [h.mated p]
  split
  · exact h.offer hc p f
  · exact h.weaken (Nat.le_refl m) (Nat.le_add_right n _)

theorem Paired.originateWith {s : Sending} (h : Paired P m (n + 2 * normalPlaces (x.classUrgent s.cls)) x y) (l : Leave) :
    Paired P m n (x.originateWith count s l) (y.originateWith count s l) := by
  have hw := h.weaken (Nat.le_refl m) (Nat.le_add_right n _)
  have hown : y.isOwnDestination s.destKind s.destVal = x.isOwnDestination s.destKind s.destVal := by rw [h.same]; rfl
  have hf : y.complete s = x.complete s := by rw [h.same]; rfl
  have he : y.endPort .one = x.endPort .one := by rw [h.same]; rfl
  unfold State.originateWith
  rw [hown, hf, he]
  split
  · exact hw
  · cases l with
    | one p =>
      have h1 : Paired P m (n + normalPlaces (x.complete s).urgent) x y :=
        h.weaken (Nat.le_refl m) (Nat.add_le_add_left (Nat.le_mul_of_pos_left _ (by decide)) n)
      exact h1.sendOne hc p _
    | both =>
      have h2 : Paired P m (n + normalPlaces (x.complete s).urgent + normalPlaces (x.complete s).urgent) x y :=
        h.weaken (Nat.le_refl m) (by rw [Nat.add_assoc, ← Nat.two_mul]; exact Nat.le_refl _)
      exact (h2.sendCopy hc _ _).sendCopy hc _ _

omit hc in
/-- A message for which there is room in both coach links. -/
theorem Paired.offerMessage (h : Paired P (m + 1) n x y) (w : Message) :
    Paired P m n (x.offerMessage count w) (y.offerMessage count w) := by
  have hl := h.left.places
  have hr := h.right.places
  rw [State.offerMessage_room h.left.busy (by omega), State.offerMessage_room h.right.busy (by omega)]
  have hs := h.same
  have hL := h.left.busy
  have hR := h.right.busy
  have hroom := h.room
  generalize y.link = k at hs hr hR
  subst hs
  refine ⟨rfl, ⟨hL, ?_⟩, ⟨hR, ?_⟩, fun p hp => ?_⟩
  · simp only [List.length_append, List.length_singleton]; omega
  · simp only [List.length_append, List.length_singleton]; omega
  · have := hroom p hp
    cases p <;> exact this

/-- The NOTICE of a condition takes the room of one message and, at each port, of one frame. -/
theorem Paired.sendNotice (h : Paired P (m + 1) (n + 2) x y) (f : Flag) : Paired P m n (x.sendNotice count f) (y.sendNotice count f) := by
  have hw : y.noticeMessage f = x.noticeMessage f := by rw [h.same]; rfl
  have hs : y.noticeSending f = x.noticeSending f := by rw [h.same]; rfl
  have hl : y.isLead = x.isLead := by rw [h.same]; rfl
  have hn : y.noticeLeave = x.noticeLeave := by rw [h.same]; rfl
  have hm : Paired P m (n + 2) _ _ := h.offerMessage (count := count) (x.noticeMessage f)
  unfold State.sendNotice
  dsimp only
  rw [hw, hs, hl, hn]
  split
  · exact hm.weaken (Nat.le_refl m) (Nat.le_add_right n 2)
  · exact hm.originateWith hc _

end

theorem Paired.events (h : Paired P m n x y) (c : Nat) :
    Paired P m n { x with events := x.events.bump c } { y with events := y.events.bump c } := by
  have he : y.events = x.events := by rw [h.same]
  rw [he, h.same]
  exact h.inner (z := { x with events := x.events.bump c })

theorem InStep.countWith {raise : Flag → State → State} (hr : ∀ f ∈ raisable, InStep P (raise f)) (c : Nat) :
    InStep P (State.countWith raise c) := by
  intro m n x y h
  have he : y.events = x.events := by rw [h.same]
  have h1 := h.events c
  have hx : InStep P (raise .counterException) := hr _ (by decide)
  have hd : InStep P (raise .framesDropped) := hr _ (by decide)
  unfold State.countWith
  rw [he] at h1 ⊢
  dsimp only
  by_cases hs : c < x.events.counters.length
  · rw [if_pos hs, if_pos hs]
    split
    · exact hd h1
    · exact h1
  · rw [if_neg hs, if_neg hs]
    split
    · exact hd (hx h1)
    · exact hx h1

theorem Paired.setFlag (h : Paired P m n x y) (f : Flag) : Paired P m n (x.setFlag f) (y.setFlag f) := by
  have hle := x.setFlag_unraised_le f
  have hs := h.same
  have hl := h.left
  have hr := h.right
  have hroom := h.room
  generalize y.link = k at hs hr
  subst hs
  refine ⟨rfl, hl.weaken (by omega), hr.weaken (by omega), fun p hp => ?_⟩
  have := hroom p hp
  rw [show (x.setFlag f).port p = x.port p by cases p <;> rfl]
  omega

/-- A flag set for the first time leaves the room that its NOTICE takes. -/
theorem Paired.setFlag_first (h : Paired P m n x y) {f : Flag} (hf : f ∈ raisable) (hx : hasFlag x.notices.flags f = false) :
    Paired P (m + 1) (n + 2) (x.setFlag f) (y.setFlag f) := by
  have hle := State.setFlag_unraised hf hx
  have hs := h.same
  have hl := h.left
  have hr := h.right
  have hroom := h.room
  generalize y.link = k at hs hr
  subst hs
  refine ⟨rfl, hl.weaken (by omega), hr.weaken (by omega), fun p hp => ?_⟩
  have := hroom p hp
  rw [show (x.setFlag f).port p = x.port p by cases p <;> rfl]
  omega

theorem InStep.raiseFuel (k : Nat) {f : Flag} (hf : f ∈ raisable) : InStep P (State.raiseFuel k f) := by
  induction k generalizing f with
  | zero => exact fun h => h.setFlag f
  | succ k ih =>
    intro m n x y h
    have hn : y.notices = x.notices := by rw [h.same]
    unfold State.raiseFuel State.flagSet
    rw [hn]
    split
    · exact h
    · split
      · exact (h.setFlag_first hf (Bool.eq_false_iff.mpr ‹_›)).sendNotice (fun c => InStep.countWith (fun _ hg => ih hg) c) f
      · exact h.setFlag f

/-- Conditions raised keep two runs in step. -/
theorem InStep.raise {f : Flag} (hf : f ∈ raisable) : InStep P (State.raise f) := InStep.raiseFuel 3 hf

/-- Events counted keep two runs in step. -/
theorem InStep.count (c : Nat) : InStep P (State.count c) := InStep.countWith (fun _ hf => InStep.raise hf) c

theorem State.classUrgent_low {s : State} {c : Nat} (h : c ≤ 6) : s.classUrgent c = true := if_pos h

/-- Urgent frames keep two runs in step. -/
theorem Paired.originate (h : Paired P m n x y) {s : Sending} (hs : s.cls ≤ 6) (l : Leave) :
    Paired P m n (x.originate s l) (y.originate s l) :=
  Paired.originateWith InStep.count (by rw [State.classUrgent_low hs]; exact h) l

/-- The second state is the first with another coach link. -/
theorem Paired.relinked (h : Paired P m n x y) : ∃ k, y = { x with link := k } := ⟨_, h.same⟩

/-- Two runs that branch alike. -/
theorem Paired.ite {a b a' b' : State} {c c' : Prop} [Decidable c] [Decidable c'] (hc : c' ↔ c) (ht : c → Paired P m n a a')
    (he : ¬c → Paired P m n b b') : Paired P m n (if c then a else b) (if c' then a' else b') := by
  by_cases h : c
  · rw [if_pos h, if_pos (hc.mpr h)]; exact ht h
  · rw [if_neg h, if_neg (mt hc.mp h)]; exact he h

/-! ## Doors and supervision -/

theorem Paired.toLead (h : Paired P m n x y) {s : Sending} (hs : s.cls ≤ 6) : Paired P m n (x.toLead s) (y.toLead s) := by
  have hc : y.census = x.census := by rw [h.same]
  have he (e : EndNo) : y.endPort e = x.endPort e := by rw [h.same]; rfl
  unfold State.toLead
  rw [hc]
  split
  · rw [he]; exact h.originate hs _
  · exact h

theorem InStep.doorStateWork : InStep P State.doorStateWork := by
  intro m n x y h
  obtain ⟨k, rfl⟩ := h.relinked
  refine Paired.ite Iff.rfl (fun _ => Paired.ite Iff.rfl (fun _ => ?_) fun _ => ?_) fun _ => h
  · exact h.inner (z := x.recordDoors 1 x.doors.side1.report x.doors.side2.report x.line.permit)
  · exact h.toLead (s := x.doorStateSending) (Nat.le_refl 6)

theorem InStep.afterSides (b : Doors) : InStep P (State.afterSides b) := by
  intro m n x y h
  obtain ⟨k, rfl⟩ := h.relinked
  exact Paired.ite Iff.rfl (fun _ => h) fun _ => InStep.doorStateWork (h.inner (z := x.formDerate))

theorem InStep.withdrawBoth (c : Cause) : InStep P (State.withdrawBoth c) := by
  intro m n x y h
  obtain ⟨k, rfl⟩ := h.relinked
  exact InStep.afterSides x.doors (h.inner (z := { x with doors := x.doors.withdrawn x.mgmt.working.door c }))

theorem InStep.formPermit : InStep P State.formPermit := by
  intro m n x y h
  obtain ⟨k, rfl⟩ := h.relinked
  have h1 := h.inner (z := { x with line := { x.line with permit := permitOf x.line.sup x.line.zsp x.line.flag } })
  exact Paired.ite Iff.rfl (fun _ => InStep.withdrawBoth .zeroSpeedLost h1) fun _ => h1

/-- The line supervisor changed and the permit formed. -/
theorem InStep.supervise (f : Supervisor → Supervisor) : InStep P fun s => ({ s with line := f s.line } : State).formPermit := by
  intro m n x y h
  obtain ⟨k, rfl⟩ := h.relinked
  exact InStep.formPermit (h.inner (z := { x with line := f x.line }))

/-! ## The census -/

theorem InStep.leaveSettled : InStep P State.leaveSettled := fun h =>
  InStep.supervise (fun l => { l with sup := .none, timer := none, flag := false }) (InStep.withdrawBoth .consistChanged h)

theorem InStep.record (f : Census → Census) : InStep P fun s => { s with census := f s.census } := by
  intro m n x y h
  obtain ⟨k, rfl⟩ := h.relinked
  exact h.inner (z := { x with census := f x.census })

theorem InStep.enterCensus (cs : CensusState) : InStep P (State.enterCensus cs) := by
  intro m n x y h
  obtain ⟨k, rfl⟩ := h.relinked
  have h1 := InStep.record (P := P) (fun c => c.entering cs) h
  exact Paired.ite Iff.rfl (fun _ => InStep.leaveSettled h1) fun _ => h1

theorem InStep.enterLead (lead : LeadState) : InStep P (State.enterLead lead) := by
  intro m n x y h
  obtain ⟨k, rfl⟩ := h.relinked
  have h1 := h.inner (z := { x with census := { x.census with lead := lead } })
  exact Paired.ite Iff.rfl (fun _ => h1.inner (z := State.leaveHolding { x with census := { x.census with lead := lead } })) fun _ => h1

theorem InStep.failCensus (r : Failure) : InStep P (State.failCensus r) := fun h =>
  InStep.raise (by decide) (InStep.count 5 (InStep.record (fun c => { c with failure := r }) h))

theorem InStep.seeTopology : InStep P State.seeTopology := fun h => InStep.raise (by decide) (InStep.count 6 h)

theorem InStep.held (es : List Entry) : InStep P (State.held es) := by
  intro m n x y h
  obtain ⟨k, rfl⟩ := h.relinked
  have h1 := h.inner (z := ({ x with census := x.census.accepted es x.mgmt.working.coach.cabEnd } : State).dropOldEpoch)
  have h2 : Paired P m n (State.superviseAsLead _) (State.superviseAsLead _) :=
    InStep.supervise (fun l => { l with sup := .live, timer := none, flag := l.zsp, beaconOn := true }) h1
  have h3 : ∀ {a b : State}, Paired P m n a b → Paired P m n
      ({ a with alloc := { a.alloc with recs := demandRecords (recordsFrom 1 es), last := none }
                summary := { a.summary with recs := (recordsFrom 1 es).map createdRecord } } : State).judgeProven
      ({ b with alloc := { b.alloc with recs := demandRecords (recordsFrom 1 es), last := none }
                summary := { b.summary with recs := (recordsFrom 1 es).map createdRecord } } : State).judgeProven := by
    intro a b hab
    obtain ⟨k, rfl⟩ := hab.relinked
    exact hab.inner (z := ({ a with alloc := { a.alloc with recs := demandRecords (recordsFrom 1 es), last := none }
                                    summary := { a.summary with recs := (recordsFrom 1 es).map createdRecord } } : State).judgeProven)
  exact h3 h2

theorem InStep.acceptReturn (tag : Tag) (es : List Entry) : InStep P (State.acceptReturn tag es) := by
  intro m n x y h
  have h1 := InStep.held (P := P) es h
  have he : y.census = x.census := by rw [h.same]
  have hp : (y.held es).nonCabPort = (x.held es).nonCabPort := by rw [h1.same]; rfl
  rw [State.acceptReturn_eq, State.acceptReturn_eq, hp, he]
  exact h1.originate (s := announceSending (nextEpoch x.census.lastEpoch) tag es) (show 2 ≤ 6 by decide) _

theorem InStep.calling (ctr : Nat) : InStep P (State.calling ctr) := by
  intro m n x y h
  obtain ⟨k, rfl⟩ := h.relinked
  exact InStep.enterCensus .survey (InStep.enterLead .calling (h.inner (z := { x with census := { x.census with
    attemptNo := x.census.nextAttempt, tag := some x.nextTag, attemptCtr := ctr, position := 1
    orient := endOrientation x.mgmt.working.coach.cabEnd, leadEnd := some x.mgmt.working.coach.cabEnd, timer := none, hold := none } })))

theorem InStep.startAttempt (ctr : Nat) : InStep P (State.startAttempt ctr) := by
  intro m n x y h
  have h1 := InStep.calling (P := P) ctr h
  have hp : (y.calling ctr).nonCabPort = (x.calling ctr).nonCabPort := by rw [h1.same]; rfl
  have ht : y.nextTag = x.nextTag := by rw [h.same]; rfl
  have ho (o : Orientation) : y.ownEntry o = x.ownEntry o := by rw [h.same]; rfl
  have hm : y.mgmt = x.mgmt := by rw [h.same]
  rw [State.startAttempt_eq, State.startAttempt_eq, ht, hm, ho, hp]
  dsimp only
  refine Paired.ite (by rw [h1.mated]) (fun _ => ?_) fun _ => InStep.acceptReturn _ _ h1
  exact InStep.record (fun c => { c with timer := some Config.censusTimerMs }) (h1.originate (by decide : 0 ≤ 6) _)

theorem InStep.fallBack : InStep P State.fallBack := by
  intro m n x y h
  have hc : y.census = x.census := by rw [h.same]
  rw [State.fallBack_eq, State.fallBack_eq, hc]
  exact InStep.enterCensus _ h

theorem InStep.stripped : InStep P State.stripped := by
  intro m n x y h
  have hc : y.census.lead = x.census.lead := by rw [h.same]
  have h1 : Paired P m n x.dismissed y.dismissed :=
    InStep.record (fun c => { c with timer := none, tag := none }) (InStep.enterLead .off h)
  unfold State.stripped
  rw [hc]
  split
  · exact InStep.supervise (fun l => { l with sup := .none, timer := some Config.supervisionMs, flag := false }) h1
  · exact InStep.fallBack h1
  · exact h1
  · exact h1

theorem InStep.loseRole (coupled : Bool) : InStep P (State.loseRole coupled) := by
  intro m n x y h
  rw [State.loseRole_eq, State.loseRole_eq]
  exact Paired.ite Iff.rfl (fun _ => InStep.failCensus _ (InStep.stripped h)) fun _ => InStep.stripped h

theorem InStep.restartCensus : InStep P State.restartCensus := fun h => InStep.startAttempt 0 (InStep.seeTopology h)

theorem InStep.judgeRole : InStep P State.judgeRole := by
  intro m n x y h
  obtain ⟨k, rfl⟩ := h.relinked
  refine Paired.ite Iff.rfl (fun _ => Paired.ite ?_ (fun _ => ?_) fun _ => ?_) fun _ => h
  · rw [← h.mated x.cabPort]; rfl
  · exact InStep.failCensus .cabCoupled (InStep.record (fun c => { c with cabRefused := true }) h)
  · exact InStep.startAttempt 0 h

theorem InStep.sendTopologyChange (k : TopologyKind) : InStep P (State.sendTopologyChange k) := by
  intro m n x y h
  have hc : y.census = x.census := by rw [h.same]
  have ht : y.hasTable = x.hasTable := by rw [h.same]; rfl
  have he (e : EndNo) : y.endPort e = x.endPort e := by rw [h.same]; rfl
  have h3 : 3 ≤ 6 := by decide
  unfold State.sendTopologyChange
  dsimp only
  rw [hc, ht]
  split
  · rw [he, h.mated]
    exact Paired.ite Iff.rfl (fun _ => h.originate h3 _) fun _ => h.originate h3 _
  · exact h.originate h3 _

theorem InStep.memberReport (k : TopologyKind) : InStep P (State.memberReport k) := by
  intro m n x y h
  have hs : y.settled = x.settled := by rw [h.same]; rfl
  rw [State.memberReport_eq, State.memberReport_eq]
  exact InStep.sendTopologyChange k (InStep.seeTopology (Paired.ite (by rw [hs]) (fun _ => InStep.enterCensus .stale h) fun _ => h))

theorem InStep.mappingReport (k : TopologyKind) : InStep P (State.mappingReport k) := by
  intro m n x y h
  have hs : y.isLead = x.isLead := by rw [h.same]; rfl
  have hp : y.cabPort = x.cabPort := by rw [h.same]; rfl
  exact Paired.ite (by rw [hs]) (fun _ => Paired.ite (by rw [hp, h.mated]) (fun _ => InStep.loseRole true h) fun _ => InStep.restartCensus h)
    fun _ => InStep.memberReport k h

/-! ## APPLY -/

theorem InStep.applyArray (old : Tables) : InStep P (State.applyArray old) := by
  intro m n x y h
  obtain ⟨k, rfl⟩ := h.relinked
  exact Paired.ite Iff.rfl (fun _ => h) fun _ => h.inner (z := { x with events := x.events.resize x.mgmt.working.coach.arraySize })

theorem InStep.applyDoors (old : DoorTable) : InStep P (State.applyDoors old) := by
  intro m n x y h
  obtain ⟨k, rfl⟩ := h.relinked
  exact InStep.afterSides x.doors (h.inner (z := { x with doors := { x.doors with
    side1 := x.doors.side1.countChange old.count1 x.mgmt.working.door.count1
    side2 := x.doors.side2.countChange old.count2 x.mgmt.working.door.count2 } }))

theorem InStep.applyHeat (old : HeatTable) : InStep P (State.applyHeat old) := by
  intro m n x y h
  obtain ⟨k, rfl⟩ := h.relinked
  have h1 := h.inner (z := x.heatMoved old)
  exact Paired.ite Iff.rfl (fun _ => h1) fun _ =>
    h1.inner (z := { x.heatMoved old with alloc := { x.alloc with budget := x.mgmt.working.heat.defaultBudget } })

theorem InStep.applyEnds (old : CoachTable) : InStep P (State.applyEnds old) := by
  intro m n x y h
  have hm : y.mgmt = x.mgmt := by rw [h.same]
  unfold State.applyEnds
  rw [hm]
  have h1 := Paired.ite (c := old.endSwap = x.mgmt.working.coach.endSwap) Iff.rfl (fun _ => h) fun _ => InStep.mappingReport .numbering h
  exact Paired.ite Iff.rfl (fun _ => h1) fun _ => InStep.mappingReport .cabEnd h1

theorem InStep.applyRole (old : CoachTable) : InStep P (State.applyRole old) := by
  intro m n x y h
  have hm : y.mgmt = x.mgmt := by rw [h.same]
  have hc : y.census = x.census := by rw [h.same]
  have hs : y.isLead = x.isLead := by rw [h.same]; rfl
  unfold State.applyRole
  rw [hm, hc, hs]
  exact Paired.ite Iff.rfl (fun _ => h) fun _ => Paired.ite Iff.rfl
    (fun _ => Paired.ite Iff.rfl (fun _ => InStep.judgeRole h) fun _ => h) fun _ => Paired.ite Iff.rfl (fun _ => InStep.loseRole false h) fun _ => h

/-- An accepted APPLY keeps two runs in step (R175). -/
theorem InStep.switchTables : InStep P State.switchTables := by
  intro m n x y h
  obtain ⟨k, rfl⟩ := h.relinked
  have h1 := h.inner (z := { x with mgmt := { x.mgmt with working := x.mgmt.staging } })
  exact InStep.applyRole x.mgmt.working.coach (InStep.applyEnds x.mgmt.working.coach (InStep.applyHeat x.mgmt.working.heat
    (InStep.applyDoors x.mgmt.working.door (InStep.applyArray x.mgmt.working h1))))

end Sys2Proof.Machine
end

section
/-! PROOFS. What a topology report and the loss or gain of the lead role leave: ZSP, the budget and the door sides that are not open. -/

namespace Sys2Proof.Machine

/-! ## What such an event leaves -/

/-- ZSP and budget stand, and so does a side that is neither RELEASED nor WARNING, its order record aside. -/
structure Steady (s t : State) : Prop where
  zsp : t.line.zsp = s.line.zsp
  budget : t.alloc.budget = s.alloc.budget
  side : ∀ sd, (s.doors.side sd).open' = false → t.doors.side sd = { s.doors.side sd with order := (t.doors.side sd).order }

theorem Quiet.steady {s t : State} (h : Quiet s t) : Steady s t :=
  ⟨by rw [h.line], by rw [h.alloc], fun sd _ => by rw [h.doors]⟩

theorem Steady.refl (s : State) : Steady s s := (Quiet.refl s).steady

theorem Steady.trans {s t u : State} (h : Steady s t) (k : Steady t u) : Steady s u where
  zsp := k.zsp.trans h.zsp
  budget := k.budget.trans h.budget
  side sd ho := by
    have ht := h.side sd ho
    have hto : (t.doors.side sd).open' = false := by rw [ht]; exact ho
    have hu := k.side sd hto
    rw [ht] at hu
    exact hu

theorem Steady.inner {s t : State} (hz : t.line.zsp = s.line.zsp := by rfl) (hb : t.alloc.budget = s.alloc.budget := by rfl)
    (hd : t.doors = s.doors := by rfl) : Steady s t := ⟨hz, hb, fun sd _ => by rw [hd]⟩

theorem Steady.ite {c : Prop} [Decidable c] {s t u : State} (ht : Steady s t) (hu : Steady s u) : Steady s (if c then t else u) := by
  split
  · exact ht
  · exact hu

theorem DoorSide.open_false {x : DoorSide} (h : x.open' = false) : x.st ≠ .released ∧ x.st ≠ .warning := by
  simpa [DoorSide.open', not_or] using h

theorem State.withdrawBoth_steady (c : Cause) (s : State) : Steady s (s.withdrawBoth c) where
  zsp := by simp
  budget := by simp
  side sd ho := by rw [State.withdrawBoth_side, DoorSide.withdraw_shut (DoorSide.open_false ho).1 (DoorSide.open_false ho).2]

theorem State.formPermit_steady (s : State) : Steady s s.formPermit := by
  unfold State.formPermit
  exact Steady.ite (Steady.trans (t := { s with line := { s.line with permit := permitOf s.line.sup s.line.zsp s.line.flag } }) Steady.inner
    (State.withdrawBoth_steady _ _)) Steady.inner

theorem State.supervise_steady {s : State} {l : Supervisor} (h : l.zsp = s.line.zsp) : Steady s ({ s with line := l } : State).formPermit :=
  Steady.trans (t := { s with line := l }) (Steady.inner h) (State.formPermit_steady _)

theorem State.superviseAsLead_steady (s : State) : Steady s s.superviseAsLead := State.supervise_steady rfl

theorem State.leaveSettled_steady (s : State) : Steady s s.leaveSettled :=
  (State.withdrawBoth_steady _ s).trans (State.supervise_steady rfl)

theorem State.enterCensus_steady (cs : CensusState) (s : State) : Steady s (s.enterCensus cs) :=
  Steady.ite (Steady.trans (t := { s with census := s.census.entering cs }) Steady.inner (State.leaveSettled_steady _)) Steady.inner

theorem State.enterLead_steady (lead : LeadState) (s : State) : Steady s (s.enterLead lead) := Steady.ite Steady.inner Steady.inner

theorem State.dropOldEpoch_steady (s : State) : Steady s s.dropOldEpoch where
  zsp := rfl
  budget := rfl
  side sd _ := by
    have hx (x : DoorSide) (e : Nat) : x.dropOldOrder e = { x with order := (x.dropOldOrder e).order } := by
      unfold DoorSide.dropOldOrder
      split
      · split <;> rfl
      · rfl
    cases sd
    · exact hx _ _
    · exact hx _ _

theorem State.held_steady (es : List Entry) (s : State) : Steady s (s.held es) := by
  have h1 : Steady s ({ s with census := s.census.accepted es s.mgmt.working.coach.cabEnd } : State).dropOldEpoch :=
    Steady.trans (t := { s with census := s.census.accepted es s.mgmt.working.coach.cabEnd }) Steady.inner (State.dropOldEpoch_steady _)
  exact (h1.trans (State.superviseAsLead_steady _)).trans (Steady.inner (by simp) (by simp) rfl)

theorem State.acceptReturn_steady (tag : Tag) (es : List Entry) (s : State) : Steady s (s.acceptReturn tag es) :=
  (State.held_steady es s).trans (State.originate_quiet _ _ _).steady

theorem State.calling_steady (ctr : Nat) (s : State) : Steady s (s.calling ctr) := by
  unfold State.calling
  dsimp only
  generalize hu : ({ s with census := _ } : State) = u
  have h1 : Steady s u := by rw [← hu]; exact Steady.inner
  exact (h1.trans (State.enterLead_steady _ _)).trans (State.enterCensus_steady _ _)

theorem State.startAttempt_steady (ctr : Nat) (s : State) : Steady s (s.startAttempt ctr) := by
  rw [State.startAttempt_eq]
  exact Steady.ite (((State.calling_steady ctr s).trans (State.sendCall_quiet _ _ _ _).steady).trans Steady.inner)
    ((State.calling_steady ctr s).trans (State.acceptReturn_steady _ _ _))

theorem State.seeTopology_steady (s : State) : Steady s s.seeTopology := s.seeTopology_quiet.steady

theorem State.failCensus_steady (r : Failure) (s : State) : Steady s (s.failCensus r) :=
  Steady.inner (by simp) (by simp) (by simp)

theorem State.stripped_steady (s : State) : Steady s s.stripped := by
  have h1 : Steady s s.dismissed := (State.enterLead_steady .off s).trans Steady.inner
  unfold State.stripped
  split
  · exact h1.trans (State.supervise_steady rfl)
  · exact h1.trans (State.enterCensus_steady _ _)
  · exact h1
  · exact h1

theorem State.loseRole_steady (coupled : Bool) (s : State) : Steady s (s.loseRole coupled) := by
  rw [State.loseRole_eq]
  exact Steady.ite (s.stripped_steady.trans (State.failCensus_steady _ _)) s.stripped_steady

theorem State.restartCensus_steady (s : State) : Steady s s.restartCensus := s.seeTopology_steady.trans (State.startAttempt_steady 0 _)

theorem State.judgeRole_steady (s : State) : Steady s s.judgeRole :=
  Steady.ite (Steady.ite (Steady.trans (t := { s with census := { s.census with cabRefused := true } }) Steady.inner
    (State.failCensus_steady _ _)) (State.startAttempt_steady 0 s)) (Steady.refl s)

theorem State.memberReport_steady (k : TopologyKind) (s : State) : Steady s (s.memberReport k) := by
  rw [State.memberReport_eq]
  exact ((Steady.ite (State.enterCensus_steady .stale s) (Steady.refl s)).trans (State.seeTopology_steady _)).trans
    (State.sendTopologyChange_quiet _ _).steady

theorem State.mappingReport_steady (k : TopologyKind) (s : State) : Steady s (s.mappingReport k) :=
  Steady.ite (Steady.ite (State.loseRole_steady true s) s.restartCensus_steady) (State.memberReport_steady k s)

theorem State.applyEnds_steady (old : CoachTable) (s : State) : Steady s (s.applyEnds old) := by
  have h1 : Steady s (if old.endSwap = s.mgmt.working.coach.endSwap then s else s.mappingReport .numbering) :=
    Steady.ite (Steady.refl s) (State.mappingReport_steady _ s)
  exact h1.trans (Steady.ite (Steady.refl _) (State.mappingReport_steady _ _))

theorem State.applyRole_steady (old : CoachTable) (s : State) : Steady s (s.applyRole old) :=
  Steady.ite (Steady.refl s) (Steady.ite (Steady.ite s.judgeRole_steady (Steady.refl s)) (Steady.ite (State.loseRole_steady false s) (Steady.refl s)))

end Sys2Proof.Machine
end

section
/-! PROOFS. APPLY (O56): the switch of the tables block by block, its topology reports and its judgement of the lead role. -/

namespace Sys2Proof.Machine

/-! ## The judgement (R175) -/

theorem State.applyRefused_iff (s : State) : s.applyRefused = true ↔
    ((s.mgmt.staging.door.count1 ≠ s.mgmt.working.door.count1 ∨ s.mgmt.staging.door.count2 ≠ s.mgmt.working.door.count2)
        ∧ ¬((s.doors.side1.st = .locked ∨ s.doors.side1.st = .absent) ∧ (s.doors.side2.st = .locked ∨ s.doors.side2.st = .absent)))
      ∨ ((s.mgmt.staging.coach.endSwap ≠ s.mgmt.working.coach.endSwap ∨ s.mgmt.staging.coach.cabEnd ≠ s.mgmt.working.coach.cabEnd)
        ∧ ((s.doors.side1.st = .released ∨ s.doors.side1.st = .warning) ∨ (s.doors.side2.st = .released ∨ s.doors.side2.st = .warning))) := by
  simp only [State.applyRefused, DoorSide.shut, DoorSide.open', Bool.or_eq_true, Bool.and_eq_true, Bool.not_eq_true',
    Bool.and_eq_false_iff, decide_eq_true_eq, decide_eq_false_iff_not, Decidable.not_and_iff_not_or_not]

theorem applyAct_busy (o : Origin) (r : Request) {s : State} (h : s.mgmt.store ≠ .idle) : applyAct o r s = (.plain .busy, s) := if_pos h

theorem applyAct_refused (o : Origin) (r : Request) {s : State} (h : s.mgmt.store = .idle) (hr : s.applyRefused = true) :
    applyAct o r s = (.plain .refused, s) := by
  rw [applyAct, if_neg (by simp [h]), if_pos hr]

theorem applyAct_accepted (o : Origin) (r : Request) {s : State} (h : s.mgmt.store = .idle) (hr : ¬s.applyRefused = true) :
    applyAct o r s =
      (.now .ok (listBytes (fun n => [byte (TableName.code n)]) (changedTables s.mgmt.working s.mgmt.staging)), s.switchTables) := by
  rw [applyAct, if_neg (by simp [h]), if_neg hr]

/-- The codes of the tables in which a field changed (R175). -/
def changedCodes (old new : Tables) : List Byte :=
  (if new.coach = old.coach then [] else [1]) ++ (if new.door = old.door then [] else [2]) ++ (if new.heat = old.heat then [] else [3])
    ++ (if new.cls = old.cls then [] else [4]) ++ (if new.sense = old.sense then [] else [5])

theorem changedTables_codes (old new : Tables) : (changedTables old new).map (fun n => byte (TableName.code n)) = changedCodes old new := by
  have hif (c c' : Prop) [Decidable c] [Decidable c'] (h : c ↔ c') (n : TableName) (b : Byte) (hb : byte n.code = b) :
      (if c then [] else [n]).map (fun n => byte (TableName.code n)) = if c' then [] else [b] := by
    by_cases hc : c
    · rw [if_pos hc, if_pos (h.mp hc)]; rfl
    · rw [if_neg hc, if_neg (mt h.mpr hc), ← hb]; rfl
  simp only [changedTables, changedCodes, List.map_append]
  rw [hif _ _ eq_comm .coach 1 rfl, hif _ _ eq_comm .door 2 rfl, hif _ _ eq_comm .heat 3 rfl, hif _ _ eq_comm .cls 4 rfl,
    hif _ _ eq_comm .sense 5 rfl]

theorem changedTables_listBytes (old new : Tables) :
    listBytes (fun n => [byte (TableName.code n)]) (changedTables old new) = byte (changedCodes old new).length :: changedCodes old new := by
  rw [listBytes, ← changedTables_codes, List.length_map, List.map_eq_flatMap]

theorem changedCodes_length (old new : Tables) : (changedCodes old new).length ≤ 5 := by
  have hif (c : Prop) [Decidable c] (b : Byte) : (if c then [] else [b]).length ≤ 1 := by
    split
    · exact Nat.zero_le 1
    · exact Nat.le_refl 1
  simp only [changedCodes, List.length_append]
  have h1 := hif (new.coach = old.coach) 1
  have h2 := hif (new.door = old.door) 2
  have h3 := hif (new.heat = old.heat) 3
  have h4 := hif (new.cls = old.cls) 4
  have h5 := hif (new.sense = old.sense) 5
  omega

theorem changedCodes_self (t : Tables) : changedCodes t t = [] := by simp [changedCodes]

/-! ## The blocks with their new tables (R91, R117, R118, R126, R136, R163) -/

/-- The tables switched, and array, doors and heating after them. -/
def State.retabled (s : State) : State :=
  ((({ s with mgmt := { s.mgmt with working := s.mgmt.staging } } : State).applyArray s.mgmt.working).applyDoors s.mgmt.working.door).applyHeat
    s.mgmt.working.heat

theorem State.switchTables_retabled (s : State) :
    s.switchTables = (s.retabled.applyEnds s.mgmt.working.coach).applyRole s.mgmt.working.coach := rfl

/-- What the blocks are after their tables are switched. -/
structure Retabled (s t : State) : Prop where
  powered : t.powered = s.powered
  nodeId : t.nodeId = s.nodeId
  strap : t.strap = s.strap
  delivered : t.delivered = s.delivered
  mgmt : t.mgmt = { s.mgmt with working := s.mgmt.staging }
  census : t.census = s.census
  line : t.line = s.line
  budget : t.alloc.budget = if s.mgmt.working.heat.defaultBudget = s.mgmt.staging.heat.defaultBudget then s.alloc.budget
    else s.mgmt.staging.heat.defaultBudget
  side1 : t.doors.side1 = s.doors.side1.countChange s.mgmt.working.door.count1 s.mgmt.staging.door.count1
  side2 : t.doors.side2 = s.doors.side2.countChange s.mgmt.working.door.count2 s.mgmt.staging.door.count2
  group : ∀ k, k < s.heater.groups.length → ∃ g, moveGroup (s.mgmt.working.heat.rating k) (s.mgmt.staging.heat.rating k) (s.heater.group k) = g
    ∧ t.heater.group k = { g with output := inWindow k g.n s.heater.slot }
  rating : t.heater.rating = ratingOf s.mgmt.staging.heat t.heater.groups
  demandT : t.heater.demandT = s.heater.demandT
  demand : t.heater.demandD = effectiveDemand s.heater.demandT t.doors.derate s.mgmt.staging.heat.derate
  settings : t.sense.mode = s.sense.mode ∧ t.sense.stop = s.sense.stop ∧ t.sense.interval = s.sense.interval
    ∧ t.sense.channels = s.sense.channels
  mated : ∀ p, t.mated p = s.mated p
  size : t.events.counters.length = if s.mgmt.working.coach.arraySize = s.mgmt.staging.coach.arraySize then s.events.counters.length
    else s.mgmt.staging.coach.arraySize
  flags : ∀ f, hasFlag s.notices.flags f = true → hasFlag t.notices.flags f = true
  rx : t.link.rx = s.link.rx
  port : s.mgmt.staging.door = s.mgmt.working.door → ∀ p, t.port p = s.port p

theorem Events.resize_size (e : Events) (m : Nat) : (e.resize m).counters.length = m := by
  simp only [Events.resize, List.length_append, List.length_take, List.length_replicate]
  omega

/-- A side whose count neither becomes 0 nor leaves it (R91). -/
theorem DoorSide.countChange_same {x : DoorSide} {before after : Nat} (h : before = 0 ↔ after = 0) : x.countChange before after = x := by
  rw [DoorSide.countChange, if_neg (fun k => k.1 (h.mpr k.2)), if_neg (fun k => k.2 (h.mp k.1))]

theorem State.applyDoors_same {s : State} {old : DoorTable} (h : s.mgmt.working.door = old) : s.applyDoors old = s := by
  subst h
  unfold State.applyDoors
  dsimp only
  rw [DoorSide.countChange_same Iff.rfl, DoorSide.countChange_same Iff.rfl]
  exact State.afterSides_unmoved (s := s) (before := s.doors) (by simp [Doors.moved])

theorem State.heatMoved_group {s : State} {old : HeatTable} {k : Nat} (hk : k < s.heater.groups.length) :
    let g := moveGroup (old.rating k) (s.mgmt.working.heat.rating k) (s.heater.group k)
    (s.heatMoved old).heater.group k = { g with output := inWindow k g.n s.heater.slot } := by
  have hg : ({ s.heater with groups := moveGroupsFrom old s.mgmt.working.heat 0 s.heater.groups } : Heater).group k
      = moveGroup (old.rating k) (s.mgmt.working.heat.rating k) (s.heater.group k) := by
    simp [Heater.group_eq, moveGroupsFrom_eq, hk]
  have ho := State.setOutputs_group k ({ s with heater := { s.heater with groups := moveGroupsFrom old s.mgmt.working.heat 0 s.heater.groups } } : State)
  rw [hg] at ho
  exact ho

theorem State.retabled_retabled (s : State) : Retabled s s.retabled := by
  unfold State.retabled
  rw [State.applyArray_eq]
  dsimp only
  generalize hv : ({ s with events := _, mgmt := _ } : State) = v
  have hmgmt : v.mgmt = { s.mgmt with working := s.mgmt.staging } := by rw [← hv]
  have hport (p : Port) : v.port p = s.port p := by rw [← hv]; cases p <;> rfl
  have e := State.applyDoors_eventful s.mgmt.working.door v
  have hside (sd : Side) : (v.applyDoors s.mgmt.working.door).doors.side sd = (match sd with
      | .one => s.doors.side1.countChange s.mgmt.working.door.count1 s.mgmt.staging.door.count1
      | .two => s.doors.side2.countChange s.mgmt.working.door.count2 s.mgmt.staging.door.count2) := by
    unfold State.applyDoors
    rw [State.afterSides_side, hmgmt, ← hv]
    cases sd <;> rfl
  have hc : (v.applyDoors s.mgmt.working.door).census = s.census := by unfold State.applyDoors; rw [State.afterSides_census, ← hv]
  have hl : (v.applyDoors s.mgmt.working.door).line = s.line := by unfold State.applyDoors; rw [State.afterSides_line, ← hv]
  have ha : (v.applyDoors s.mgmt.working.door).alloc = s.alloc := by unfold State.applyDoors; rw [State.afterSides_alloc, ← hv]
  have hsame (h : s.mgmt.staging.door = s.mgmt.working.door) : v.applyDoors s.mgmt.working.door = v :=
    State.applyDoors_same (by rw [hmgmt]; exact h)
  generalize v.applyDoors s.mgmt.working.door = w at e hside hc hl ha hsame
  have hwm : w.mgmt = { s.mgmt with working := s.mgmt.staging } := e.mgmt.trans hmgmt
  have hh : w.heater = { s.heater with demandD := w.heater.demandD, staged := w.heater.staged } := by
    have := e.heater
    rwa [show v.heater = s.heater by rw [← hv]] at this
  have hgroups : w.heater.groups = s.heater.groups := by rw [hh]
  have hslot : w.heater.slot = s.heater.slot := by rw [hh]
  have hT : w.heater.demandT = s.heater.demandT := by rw [hh]
  rw [State.applyHeat_eq]
  refine
    { powered := e.powered.trans (by rw [← hv]), nodeId := e.nodeId.trans (by rw [← hv]), strap := e.strap.trans (by rw [← hv])
      delivered := e.delivered.trans (by rw [← hv])
      mgmt := hwm, census := hc, line := hl, budget := ?_, side1 := hside .one, side2 := hside .two, group := fun k hk => ⟨_, rfl, ?_⟩
      rating := ?_, demandT := hT, demand := ?_, settings := ?_, mated := fun p => ?_, size := ?_, flags := fun f hf => ?_, rx := e.rx.trans (by rw [← hv])
      port := fun h p => ?_ }
  · dsimp only; rw [hwm, ha]
  · have hg := State.heatMoved_group (s := w) (old := s.mgmt.working.heat) (k := k) (by rw [hgroups]; exact hk)
    have hgk : w.heater.group k = s.heater.group k := by rw [Heater.group_eq, hgroups, ← Heater.group_eq]
    rw [hwm, hgk, hslot] at hg
    exact hg
  · have hr : (w.heatMoved s.mgmt.working.heat).heater.rating =
        ratingOf w.mgmt.working.heat (w.heatMoved s.mgmt.working.heat).heater.groups := rfl
    exact hr.trans (congrArg (fun m : Mgmt => ratingOf m.working.heat (w.heatMoved s.mgmt.working.heat).heater.groups) hwm)
  · show effectiveDemand w.heater.demandT w.doors.derate w.mgmt.working.heat.derate = _
    rw [hwm, hT]; rfl
  · have hs : w.sense = s.sense := e.sense.trans (by rw [← hv])
    rw [← hs]
    exact ⟨rfl, rfl, rfl, rfl⟩
  · exact (show State.mated _ p = w.mated p by cases p <;> rfl).trans ((e.mated p).trans (by rw [State.mated, hport]; rfl))
  · refine e.size.trans ?_
    rw [← hv]
    dsimp only
    split
    · rfl
    · exact Events.resize_size _ _
  · refine e.flags f ?_
    rw [← hv]
    exact hf
  · refine (show State.port _ p = w.port p by cases p <;> rfl).trans ?_
    rw [hsame h]
    exact hport p

end Sys2Proof.Machine
end

section
/-! PROOFS. APPLY (O56): the topology reports of a changed numbering or cab end (R15, R34, R36, R51), and the role under a changed drivable
mark (R33, R34). -/

namespace Sys2Proof.Machine

/-! ## One report -/

theorem State.mappingReport_member {s : State} (h : s.census.lead = .off) (k : TopologyKind) : s.mappingReport k = s.memberReport k :=
  if_neg (by simp [State.isLead, h])

theorem State.mappingReport_lead {s : State} (h : s.census.lead ≠ .off) (k : TopologyKind) :
    s.mappingReport k = if s.mated s.cabPort then s.stripped.failCensus .cabCoupled else s.restartCensus := by
  rw [State.mappingReport, if_pos (show s.isLead = true from decide_eq_true h), State.loseRole_eq]
  rfl

/-! ## The reports of an APPLY -/

theorem State.applyEnds_none {s : State} {old : CoachTable} (h1 : old.endSwap = s.mgmt.working.coach.endSwap)
    (h2 : old.cabEnd = s.mgmt.working.coach.cabEnd) : s.applyEnds old = s := by
  rw [State.applyEnds, if_pos h1, if_pos h2]

/-- What one report gives and a further one keeps holds after the reports of an APPLY. -/
theorem State.applyEnds_reports {Q : State → Prop} {s : State} {old : CoachTable}
    (h : s.mgmt.working.coach.endSwap ≠ old.endSwap ∨ s.mgmt.working.coach.cabEnd ≠ old.cabEnd) (first : ∀ k, Q (s.mappingReport k))
    (more : ∀ k v, Eventful s v → Q v → Q (v.mappingReport k)) : Q (s.applyEnds old) := by
  unfold State.applyEnds
  dsimp only
  by_cases h1 : old.endSwap = s.mgmt.working.coach.endSwap
  · rw [if_pos h1, if_neg fun e => h.elim (fun k => k h1.symm) fun k => k e.symm]
    exact first _
  · rw [if_neg h1]
    split
    · exact first _
    · exact more _ _ (State.mappingReport_eventful _ s) (first _)

/-- A node without the lead role after its topology reports (R51). -/
structure Reported (s t : State) : Prop where
  lead : t.census.lead = .off
  told : hasFlag t.notices.flags .topology = true
  cs : t.census.cs = if s.census.cs = .settled then .stale else s.census.cs
  table : t.census.table = s.census.table
  position : t.census.position = s.census.position
  epoch : t.census.epoch = s.census.epoch
  leadEnd : t.census.leadEnd = s.census.leadEnd

theorem State.memberReport_reported {s : State} (h : s.census.lead = .off) (k : TopologyKind) : Reported s (s.memberReport k) := by
  refine ⟨?_, State.memberReport_sets k s, ?_, ?_, ?_, ?_, ?_⟩ <;> rw [State.memberReport_census]
  exact h

theorem Reported.again {s t u : State} (h : Reported s t) (k : Reported t u) : Reported s u where
  lead := k.lead
  told := k.told
  cs := by
    rw [k.cs, h.cs]
    by_cases hs : s.census.cs = .settled
    · rw [if_pos hs, if_neg nofun]
    · rw [if_neg hs, if_neg hs]
  table := k.table.trans h.table
  position := k.position.trans h.position
  epoch := k.epoch.trans h.epoch
  leadEnd := k.leadEnd.trans h.leadEnd

theorem State.applyEnds_member {s : State} {old : CoachTable} (hl : s.census.lead = .off)
    (h : s.mgmt.working.coach.endSwap ≠ old.endSwap ∨ s.mgmt.working.coach.cabEnd ≠ old.cabEnd) : Reported s (s.applyEnds old) := by
  refine State.applyEnds_reports h (fun k => ?_) fun k v _ hv => ?_
  · rw [State.mappingReport_member hl]
    exact State.memberReport_reported hl k
  · rw [State.mappingReport_member hv.lead]
    exact hv.again (State.memberReport_reported hv.lead k)

/-- A census begun afresh at a lead (R35, R36). -/
structure Recalled (s t : State) : Prop where
  attempt : t.census.attemptCtr = 0
  position : t.census.position = 1
  lead : t.census.lead = if s.mated s.nonCabPort then .calling else .holding

theorem State.startAttempt_recalled (s : State) : Recalled s (s.startAttempt 0) := by
  constructor <;> rw [State.startAttempt_census] <;> cases s.mated s.nonCabPort <;> rfl

theorem Recalled.congr {s u t : State} (h : Recalled u t) (hp : u.nonCabPort = s.nonCabPort) (hm : ∀ p, u.mated p = s.mated p) : Recalled s t :=
  ⟨h.attempt, h.position, by rw [h.lead, hp, hm]⟩

theorem Recalled.isLead {s t : State} (h : Recalled s t) : t.census.lead ≠ .off := by
  rw [h.lead]
  split <;> exact nofun

theorem State.restartCensus_recalled (s : State) : Recalled s s.restartCensus :=
  have q := s.seeTopology_quiet
  (State.startAttempt_recalled s.seeTopology).congr q.eventful.nonCabPort q.mated

theorem State.applyEnds_recalled {s : State} {old : CoachTable} (hl : s.census.lead ≠ .off) (hm : s.mated s.cabPort = false)
    (h : s.mgmt.working.coach.endSwap ≠ old.endSwap ∨ s.mgmt.working.coach.cabEnd ≠ old.cabEnd) :
    hasFlag (s.applyEnds old).notices.flags .topology = true ∧ Recalled s (s.applyEnds old) := by
  refine State.applyEnds_reports (Q := fun v => hasFlag v.notices.flags .topology = true ∧ Recalled s v) h (fun k => ?_)
    fun k v e hv => ?_
  · rw [State.mappingReport_lead hl, hm]
    exact ⟨s.restartCensus_sets, s.restartCensus_recalled⟩
  · rw [State.mappingReport_lead hv.2.isLead, e.cabPort, e.mated, hm]
    exact ⟨v.restartCensus_sets, v.restartCensus_recalled.congr e.nonCabPort e.mated⟩

/-- A lead whose cab end is MATED loses its role at the first report (R34), and the second is a member's. -/
theorem State.applyEnds_coupled {s : State} {old : CoachTable} (hl : s.census.lead ≠ .off) (hm : s.mated s.cabPort = true)
    (h : s.mgmt.working.coach.endSwap ≠ old.endSwap ∨ s.mgmt.working.coach.cabEnd ≠ old.cabEnd) :
    (s.applyEnds old).census.lead = .off ∧ (s.applyEnds old).census.failure = .cabCoupled
      ∧ hasFlag (s.applyEnds old).notices.flags .censusFailed = true := by
  refine State.applyEnds_reports
    (Q := fun v => v.census.lead = .off ∧ v.census.failure = .cabCoupled ∧ hasFlag v.notices.flags .censusFailed = true) h (fun k => ?_)
    fun k v _ hv => ?_
  · rw [State.mappingReport_lead hl, if_pos hm, State.failCensus_census]
    refine ⟨?_, rfl, State.failCensus_sets _ _⟩
    obtain ⟨b, hb⟩ := s.stripped_fields
    rw [hb]
    rfl
  · obtain ⟨hv1, hv2, hv3⟩ := hv
    rw [State.mappingReport_member hv1, State.memberReport_census]
    exact ⟨hv1, hv2, (State.memberReport_eventful k v).flags _ hv3⟩

/-! ## TOPOLOGY_CHANGE of an APPLY (R51, R53) -/

theorem State.memberReport_tells {s : State} (hl : s.census.lead = .off) (h : s.Told) {k : TopologyKind} {x : Port} {y : LinePort}
    (hw : s.goesBy x) (hm : s.mated x = true) (hy : (s.port x).enqueue true (s.changeFrame (byte k.code)) = some y) :
    (s.memberReport k).port x = y := by
  rw [State.memberReport_eq]
  exact (Adrift.reported hl).sends h hw hm hy

/-- After its first report a member is out of SETTLED, and what it tells by a second stands as before. -/
theorem Reported.changeFrame {s t : State} (h : Reported s t) (hn : t.nodeId = s.nodeId) (kind : Byte) :
    t.changeFrame kind = s.changeFrame kind := by
  have hout (c : Census) (u : State) : ({ u with census := { c with cs := if c.cs = .settled then .stale else c.cs } } : State).census.cs ≠ .settled := by
    dsimp only
    split
    · exact nofun
    · assumption
  have hf : ({ t with census := { t.census with cs := if t.census.cs = .settled then .stale else t.census.cs } } : State).ownFrame
      = ({ s with census := { s.census with cs := if s.census.cs = .settled then .stale else s.census.cs } } : State).ownFrame :=
    State.ownFrame_outside (hout s.census s) (hout t.census t) hn
  rw [State.changeFrame, State.changeFrame, h.table, h.epoch]
  exact congrArg (fun g : Nat → Dir → Nat → DestKind → BitVec 32 → List Byte → Frame =>
    g 3 .toward (if s.census.table.isSome then s.census.epoch else 0) .lead 0 [kind]) hf

/-- The frames of the reports at an idle end: one in transmission, and that of the second behind it. -/
theorem State.applyEnds_tells {s : State} {old : CoachTable} {x : Port} (hl : s.census.lead = .off) (ht : s.Told) (hw : s.goesBy x)
    (hx : s.Ready x) (h : s.mgmt.working.coach.endSwap ≠ old.endSwap ∨ s.mgmt.working.coach.cabEnd ≠ old.cabEnd) :
    ((s.applyEnds old).port x).tx = some (s.changeFrame (if s.mgmt.working.coach.endSwap = old.endSwap then 4 else 3))
      ∧ ((s.applyEnds old).port x).urgentQ =
        if s.mgmt.working.coach.endSwap ≠ old.endSwap ∧ s.mgmt.working.coach.cabEnd ≠ old.cabEnd then [s.changeFrame 4] else [] := by
  have first (k : TopologyKind) : (s.mappingReport k).port x = { s.port x with tx := some (s.changeFrame (byte k.code)) } := by
    rw [State.mappingReport_member hl]
    exact State.memberReport_tells hl ht hw hx.mated (LinePort.enqueue_idle hx.pilot hx.tx hx.urgent hx.normal true _)
  unfold State.applyEnds
  dsimp only
  by_cases h1 : old.endSwap = s.mgmt.working.coach.endSwap
  · have h2 : old.cabEnd ≠ s.mgmt.working.coach.cabEnd := fun e => h.elim (fun k => k h1.symm) fun k => k e.symm
    rw [if_pos h1, if_neg h2, if_pos h1.symm, if_neg fun k => k.1 h1.symm, first]
    exact ⟨rfl, hx.urgent⟩
  · rw [if_neg h1, if_neg (Ne.symm h1)]
    by_cases h2 : old.cabEnd = s.mgmt.working.coach.cabEnd
    · rw [if_pos h2, if_neg fun k => k.2 h2.symm, first]
      exact ⟨rfl, hx.urgent⟩
    · rw [if_neg h2, if_pos ⟨Ne.symm h1, Ne.symm h2⟩]
      have hr : Reported s (s.mappingReport .numbering) := by rw [State.mappingReport_member hl]; exact State.memberReport_reported hl _
      have e := State.mappingReport_eventful .numbering s
      have hp := first .numbering
      generalize s.mappingReport .numbering = v at hr e hp
      have hm : v.mated x = true := by rw [e.mated]; exact hx.mated
      have hy : (v.port x).enqueue true (v.changeFrame (byte TopologyKind.cabEnd.code)) =
          some { v.port x with urgentQ := [s.changeFrame 4] } := by
        have hu : (v.port x).urgentQ = [] := by rw [hp]; exact hx.urgent
        rw [LinePort.enqueue_busy (by rw [hp]; exact nofun), if_pos rfl, hu, if_pos (by decide), hr.changeFrame e.nodeId]
        rfl
      rw [State.mappingReport_member hr.lead,
        State.memberReport_tells hr.lead (ht.congr e.flags e.size) (hw.congr hr.leadEnd e.endPort e.mated) hm hy, hp]
      exact ⟨rfl, rfl⟩

/-! ## The role (R33, R34) -/

theorem State.applyRole_same {s : State} {old : CoachTable} (h : s.mgmt.working.coach.drivable = old.drivable) : s.applyRole old = s :=
  if_pos h.symm

theorem State.applyRole_cleared {s : State} {old : CoachTable} (ho : old.drivable = true) (hn : s.mgmt.working.coach.drivable = false) :
    s.applyRole old = if s.isLead then s.stripped else s := by
  rw [State.applyRole, if_neg (by rw [ho, hn]; decide), hn, State.loseRole_eq]
  rfl

theorem State.applyRole_set {s : State} {old : CoachTable} (ho : old.drivable = false) (hn : s.mgmt.working.coach.drivable = true) :
    s.applyRole old = if s.census.cab = true ∧ s.census.cabRefused = false then s.judgeRole else s := by
  rw [State.applyRole, if_neg (by rw [ho, hn]; decide), hn]
  rfl

end Sys2Proof.Machine
end

section
/-! PROOFS. APPLY as a whole (O56): what stands after the switch of the tables, and the reply behind it. -/

namespace Sys2Proof.Machine

/-! ## An unchanged staging -/

/-- Outputs that are on exactly in their windows are set as they are (R143, R145). -/
theorem State.setOutputs_fit {s : State} (h : s.GroupsFit) : s.setOutputs = s := by
  have hlen := h.slots.length
  have hgs : setOutputsFrom s.heater.slot 0 s.heater.groups = s.heater.groups := by
    rw [setOutputsFrom_eq]
    refine List.ext_getElem (by simp) fun i h1 h2 => ?_
    have ho := h.outputs.output i (hlen ▸ h2)
    rw [Heater.group_of_getElem? (List.getElem?_eq_getElem h2)] at ho
    rw [List.getElem_mapIdx, Nat.zero_add, ← ho]
  have hws : handLevels s.heater.groups s.sense.onWins = s.sense.onWins := by
    refine List.ext_getElem? fun i => ?_
    rw [handLevels_getElem?]
    by_cases hi : i < 4
    · have hg : i < s.heater.groups.length := by rw [hlen]; exact hi
      have hw : i < s.sense.onWins.length := by rw [h.outputs.length]; exact hi
      have hl := h.outputs.level i hi
      rw [Heater.group_of_getElem? (List.getElem?_eq_getElem hg), Sense.onWin_eq, List.getElem?_eq_getElem hw] at hl
      rw [List.getElem?_eq_getElem hg, List.getElem?_eq_getElem hw]
      exact congrArg some (by rw [← hl]; rfl)
    · have hg : s.heater.groups[i]? = none := List.getElem?_eq_none (by omega)
      rw [hg]
  unfold State.setOutputs
  dsimp only
  rw [hgs, hws]

theorem moveGroup_same (r : Nat) (g : Group) : moveGroup r r g = g := by
  rw [moveGroup, if_neg fun k => k.2 k.1, if_neg fun k => k.1 k.2]

theorem State.heatMoved_same {s : State} (h : s.HeaterFits) : s.heatMoved s.mgmt.working.heat = s := by
  have hgs : moveGroupsFrom s.mgmt.working.heat s.mgmt.working.heat 0 s.heater.groups = s.heater.groups := by
    rw [moveGroupsFrom_eq]
    exact List.ext_getElem (by simp) fun i _ _ => by rw [List.getElem_mapIdx, moveGroup_same]
  rw [State.heatMoved, hgs]
  have ho : ({ s with heater := { s.heater with groups := s.heater.groups } } : State).setOutputs = s := State.setOutputs_fit h.groups
  rw [ho]
  have hr := h.rating
  have hd := h.demand
  unfold State.formD State.formR
  dsimp only
  rw [← hr, ← hd]

/-- An APPLY of an unchanged staging switches nothing (R175). -/
theorem State.switchTables_same {s : State} (h : s.heaterSound = true) (he : s.mgmt.staging = s.mgmt.working) : s.switchTables = s := by
  have hw : ({ s with mgmt := { s.mgmt with working := s.mgmt.staging } } : State) = s := by rw [he]
  rw [State.switchTables_eq, hw, State.applyArray, if_pos rfl, State.applyDoors_same rfl, State.applyHeat_eq,
    State.heatMoved_same (s.heaterSound_iff.mp h), if_pos rfl]
  exact (congrArg (State.applyRole s.mgmt.working.coach) (State.applyEnds_none rfl rfl)).trans (State.applyRole_same rfl)

theorem applyAct_same (o : Origin) (r : Request) {s : State} (h : s.mgmt.store = .idle) (he : s.mgmt.staging = s.mgmt.working)
    (hs : s.heaterSound = true) : applyAct o r s = (.now .ok [0], s) := by
  have hr : ¬s.applyRefused = true := by
    rw [State.applyRefused_iff, he]
    exact fun k => k.elim (fun k => k.1.elim (fun k => k rfl) fun k => k rfl) fun k => k.1.elim (fun k => k rfl) fun k => k rfl
  rw [applyAct_accepted o r h hr, changedTables_listBytes, he, changedCodes_self, State.switchTables_same hs he]
  rfl

/-! ## What stands after the switch -/

/-- A side before and after a change of its door count (R91). -/
def DoorSide.Moves (old new : Nat) (x y : DoorSide) : Prop :=
  (old ≠ 0 → new = 0 → y.st = .absent ∧ y.rel = false ∧ y.warn = false ∧ y.timer = none)
    ∧ (old = 0 → new ≠ 0 → y.st = if x.loop then .locked else .fault)
    ∧ ((old = 0 ↔ new = 0) → (x.st = .locked ∨ x.st = .absent) → y.st = x.st)

theorem DoorSide.countChange_moves (old new : Nat) (x : DoorSide) {y : DoorSide}
    (hy : (x.countChange old new).open' = false → y = { x.countChange old new with order := y.order }) : x.Moves old new y := by
  have closed {z : DoorSide} (h : z.st ≠ .released ∧ z.st ≠ .warning) : z.open' = false := by simp [DoorSide.open', h]
  refine ⟨fun h1 h2 => ?_, fun h1 h2 => ?_, fun h hs => ?_⟩
  · have hc : x.countChange old new = x.rest .absent := if_pos ⟨h1, h2⟩
    rw [hc] at hy
    rw [hy (closed ⟨nofun, nofun⟩)]
    exact ⟨rfl, rfl, rfl, rfl⟩
  · have hc : x.countChange old new = x.rest (if x.loop then .locked else .fault) := by
      rw [DoorSide.countChange, if_neg (fun k => h2 k.2), if_pos ⟨h1, h2⟩]
    rw [hc] at hy
    rw [hy (closed (by cases x.loop <;> exact ⟨nofun, nofun⟩))]
    rfl
  · rw [DoorSide.countChange_same h] at hy
    rw [hy (closed (by rcases hs with h | h <;> rw [h] <;> exact ⟨nofun, nofun⟩))]

/-- A group before and after a change of its rating (R136). -/
def Group.Moves (old new : Nat) (g g' : Group) : Prop :=
  (old = 0 → new ≠ 0 → g'.st = .enabled ∧ g'.strikes = 0 ∧ g'.openFlag = false)
    ∧ (old ≠ 0 → new = 0 → g'.st = .notFitted ∧ g'.n = 0 ∧ g'.output = false ∧ g'.strikes = 0 ∧ g'.openFlag = false)
    ∧ ((old = 0 ↔ new = 0) → g'.st = g.st ∧ g'.strikes = g.strikes ∧ g'.openFlag = g.openFlag ∧ g'.n = g.n)

theorem moveGroup_moves (old new k slot : Nat) (g : Group) :
    g.Moves old new { moveGroup old new g with output := inWindow k (moveGroup old new g).n slot } := by
  refine ⟨fun h1 h2 => ?_, fun h1 h2 => ?_, fun h => ?_⟩
  · rw [moveGroup, if_pos ⟨h1, h2⟩]
    exact ⟨rfl, rfl, rfl⟩
  · rw [moveGroup, if_neg (fun k => h1 k.1), if_pos ⟨h1, h2⟩]
    exact ⟨rfl, rfl, inWindow_zero k slot, rfl, rfl⟩
  · rw [moveGroup, if_neg (fun k => k.2 (h.mp k.1)), if_neg (fun k => k.1 (h.mpr k.2))]
    exact ⟨rfl, rfl, rfl, rfl⟩

/-- The blocks after an accepted APPLY, whatever becomes of the census (R91, R117, R118, R126, R136, R158, R163, R175). -/
structure Switched (s t : State) : Prop where
  mgmt : t.mgmt = { s.mgmt with working := s.mgmt.staging }
  budget : t.alloc.budget = if s.mgmt.staging.heat.defaultBudget = s.mgmt.working.heat.defaultBudget then s.alloc.budget
    else s.mgmt.staging.heat.defaultBudget
  demand : t.heater.demandD = effectiveDemand s.heater.demandT t.doors.derate s.mgmt.staging.heat.derate
  rating : t.heater.rating = ratingOf s.mgmt.staging.heat t.heater.groups
  size : s.events.counters.length = s.mgmt.working.coach.arraySize → t.events.counters.length = s.mgmt.staging.coach.arraySize
  settings : t.sense.mode = s.sense.mode ∧ t.sense.stop = s.sense.stop ∧ t.sense.interval = s.sense.interval
    ∧ t.sense.channels = s.sense.channels
  zsp : t.line.zsp = s.line.zsp
  nodeId : t.nodeId = s.nodeId
  powered : t.powered = s.powered
  side1 : s.doors.side1.Moves s.mgmt.working.door.count1 s.mgmt.staging.door.count1 t.doors.side1
  side2 : s.doors.side2.Moves s.mgmt.working.door.count2 s.mgmt.staging.door.count2 t.doors.side2
  group : ∀ k, k < s.heater.groups.length →
    (s.heater.group k).Moves (s.mgmt.working.heat.rating k) (s.mgmt.staging.heat.rating k) (t.heater.group k)

theorem State.switchTables_switched (s : State) : Switched s s.switchTables := by
  have r := s.retabled_retabled
  rw [State.switchTables_retabled]
  have e := (State.applyEnds_eventful s.mgmt.working.coach s.retabled).trans (State.applyRole_eventful s.mgmt.working.coach _)
  have st := (State.applyEnds_steady s.mgmt.working.coach s.retabled).trans (State.applyRole_steady s.mgmt.working.coach _)
  generalize s.retabled = v at r e st
  generalize (v.applyEnds s.mgmt.working.coach).applyRole s.mgmt.working.coach = u at e st
  have hgroups : u.heater.groups = v.heater.groups := by rw [e.heater]
  refine
    { mgmt := e.mgmt.trans r.mgmt, budget := st.budget.trans (r.budget.trans (by simp only [eq_comm])), demand := ?_, rating := ?_
      size := fun h => ?_, settings := by rw [e.sense]; exact r.settings, zsp := st.zsp.trans (by rw [r.line])
      nodeId := e.nodeId.trans r.nodeId, powered := e.powered.trans r.powered
      side1 := DoorSide.countChange_moves _ _ _ ?_, side2 := DoorSide.countChange_moves _ _ _ ?_, group := fun k hk => ?_ }
  · rcases e.demand with ⟨hd, hD⟩ | hD
    · rw [hD, r.demand, hd]
    · rw [hD, r.demandT, r.mgmt]
  · rw [hgroups, ← r.rating, e.heater]
  · rw [e.size, r.size, h]
    split
    · assumption
    · rfl
  · rw [← r.side1]
    exact st.side .one
  · rw [← r.side2]
    exact st.side .two
  · obtain ⟨g, hg, hk⟩ := r.group k hk
    have hu : u.heater.group k = v.heater.group k := by rw [Heater.group_eq, Heater.group_eq, hgroups]
    rw [hu, hk, ← hg]
    exact moveGroup_moves _ _ _ _ _

/-- The census after an accepted APPLY, where the ends as numbered after it are `cab` and `nonCab` (R33 to R36, R51). -/
structure SwitchedCensus (s t : State) (renamed : Prop) (cab nonCab : Port) : Prop where
  cleared : ¬renamed → s.mgmt.staging.coach.drivable = false → s.mgmt.working.coach.drivable = true →
    (s.census.lead = .off → t.census = s.census)
    ∧ (s.census.lead ≠ .off → t.census.lead = .off ∧ t.census.timer = none ∧ t.census.tag = none
        ∧ t.census.failure = s.census.failure ∧ t.census.table = s.census.table
        ∧ t.census.cs = (if s.census.lead = .calling then (if s.census.table.isSome then .stale else .detached) else s.census.cs)
        ∧ (s.census.lead = .holding → t.summary.recs = [] ∧ t.summary.proven = false ∧ t.alloc.recs = [] ∧ t.alloc.last = none
            ∧ t.line.beaconOn = false ∧ t.line.sup = .none ∧ t.line.timer = some 350 ∧ t.line.flag = false))
  set : ¬renamed → s.mgmt.staging.coach.drivable = true → s.mgmt.working.coach.drivable = false → s.census.lead = .off →
    ((s.census.cab = false ∨ s.census.cabRefused = true) → t.census = s.census)
    ∧ (s.census.cab = true → s.census.cabRefused = false → s.mated cab = true →
        t.census = { s.census with cabRefused := true, failure := .cabCoupled } ∧ hasFlag t.notices.flags .censusFailed = true)
    ∧ (s.census.cab = true → s.census.cabRefused = false → s.mated cab = false →
        t.census.attemptNo = (s.census.attemptNo + 1) % 256 ∧ t.census.attemptCtr = 0 ∧ t.census.position = 1
        ∧ t.census.lead = (if s.mated nonCab then .calling else .holding))
  same : s.mgmt.staging.coach.drivable = s.mgmt.working.coach.drivable → ¬renamed → t.census = s.census
  member : s.mgmt.staging.coach.drivable = s.mgmt.working.coach.drivable → renamed → s.census.lead = .off → Reported s t
  lead : s.mgmt.staging.coach.drivable = s.mgmt.working.coach.drivable → renamed → s.census.lead ≠ .off → s.mated cab = false →
    hasFlag t.notices.flags .topology = true ∧ t.census.attemptCtr = 0 ∧ t.census.position = 1
      ∧ t.census.lead = if s.mated nonCab then .calling else .holding
  coupled : s.mgmt.staging.coach.drivable = s.mgmt.working.coach.drivable → renamed → s.census.lead ≠ .off → s.mated cab = true →
    t.census.lead = .off ∧ t.census.failure = .cabCoupled ∧ hasFlag t.notices.flags .censusFailed = true

/-- Whether the numbering or the cab end changes (R15). -/
def State.Renamed (s : State) : Prop :=
  s.mgmt.staging.coach.endSwap ≠ s.mgmt.working.coach.endSwap ∨ s.mgmt.staging.coach.cabEnd ≠ s.mgmt.working.coach.cabEnd

/-- A node whose lead role a cleared drivable mark takes (R34). -/
theorem State.stripped_cleared (s : State) : s.stripped.census.lead = .off ∧ s.stripped.census.timer = none ∧ s.stripped.census.tag = none
    ∧ s.stripped.census.failure = s.census.failure ∧ s.stripped.census.table = s.census.table
    ∧ s.stripped.census.cs = if s.census.lead = .calling then s.census.standing else s.census.cs := by
  obtain ⟨b, hb⟩ := s.stripped_fields
  rw [hb]
  exact ⟨rfl, rfl, rfl, rfl, rfl, rfl⟩

theorem State.switchTables_census (s : State) :
    SwitchedCensus s s.switchTables s.Renamed s.retabled.cabPort s.retabled.nonCabPort := by
  have r := s.retabled_retabled
  rw [State.switchTables_retabled]
  generalize s.retabled = v at r
  have hm : v.mgmt.working = s.mgmt.staging := by rw [r.mgmt]
  have stays (h : ¬s.Renamed) : v.applyEnds s.mgmt.working.coach = v := by
    obtain ⟨h1, h2⟩ := not_or.mp h
    exact State.applyEnds_none (by rw [hm]; exact (not_not.mp h1).symm) (by rw [hm]; exact (not_not.mp h2).symm)
  have renames (h : s.Renamed) : v.mgmt.working.coach.endSwap ≠ s.mgmt.working.coach.endSwap
      ∨ v.mgmt.working.coach.cabEnd ≠ s.mgmt.working.coach.cabEnd := by rw [hm]; exact h
  have e := State.applyEnds_eventful s.mgmt.working.coach v
  have undriven (h : s.mgmt.staging.coach.drivable = s.mgmt.working.coach.drivable) :
      (v.applyEnds s.mgmt.working.coach).applyRole s.mgmt.working.coach = v.applyEnds s.mgmt.working.coach :=
    State.applyRole_same (by rw [e.mgmt, hm]; exact h)
  have hl : v.isLead = true ↔ s.census.lead ≠ .off := by rw [State.isLead, r.census]; exact decide_eq_true_iff
  refine
    { cleared := fun h hn ho => ⟨fun h0 => ?_, fun h0 => ?_⟩
      set := fun h hn ho h0 => ⟨fun hc => ?_, fun hc hr hx => ?_, fun hc hr hx => ?_⟩
      same := fun hd h => ?_, member := fun hd h h0 => ?_, lead := fun hd h h0 hx => ?_, coupled := fun hd h h0 hx => ?_ }
  · rw [stays h, State.applyRole_cleared ho (by rw [hm]; exact hn), if_neg (mt hl.mp fun k => k h0), r.census]
  · rw [stays h, State.applyRole_cleared ho (by rw [hm]; exact hn), if_pos (hl.mpr h0)]
    obtain ⟨h1, h2, h3, h4, h5, h6⟩ := v.stripped_cleared
    rw [r.census] at h4 h5 h6
    refine ⟨h1, h2, h3, h4, h5, h6, fun hh => ?_⟩
    have hh' : v.census.lead = .holding := by rw [r.census]; exact hh
    rw [State.stripped_summary, State.stripped_alloc, State.stripped_line, if_pos hh', if_pos hh', hh']
    exact ⟨rfl, rfl, rfl, rfl, rfl, rfl, rfl, rfl⟩
  · have hno : ¬(v.census.cab = true ∧ v.census.cabRefused = false) := by
      rw [r.census]
      rcases hc with hc | hc <;> simp [hc]
    rw [stays h, State.applyRole_set ho (by rw [hm]; exact hn), if_neg hno, r.census]
  · rw [stays h, State.applyRole_set ho (by rw [hm]; exact hn), if_pos (by rw [r.census]; exact ⟨hc, hr⟩),
      State.judgeRole_refused (by rw [r.census]; exact h0) (by rw [hm]; exact hn) (by rw [r.mated]; exact hx)]
    refine ⟨?_, State.failCensus_sets _ _⟩
    rw [State.failCensus_census, r.census]
  · rw [stays h, State.applyRole_set ho (by rw [hm]; exact hn), if_pos (by rw [r.census]; exact ⟨hc, hr⟩),
      State.judgeRole_gained (by rw [r.census]; exact h0) (by rw [hm]; exact hn) (by rw [r.mated]; exact hx)]
    obtain ⟨h1, h2, h3⟩ := v.startAttempt_recalled
    rw [r.mated] at h3
    refine ⟨?_, h1, h2, h3⟩
    rw [State.startAttempt_census, r.census]
    cases v.mated v.nonCabPort <;> rfl
  · rw [undriven hd, stays h, r.census]
  · rw [undriven hd]
    have k := State.applyEnds_member (by rw [r.census]; exact h0) (renames h)
    refine ⟨k.lead, k.told, ?_, ?_, ?_, ?_, ?_⟩
    · rw [k.cs, r.census]
    · rw [k.table, r.census]
    · rw [k.position, r.census]
    · rw [k.epoch, r.census]
    · rw [k.leadEnd, r.census]
  · rw [undriven hd]
    obtain ⟨k, c⟩ := State.applyEnds_recalled (by rw [r.census]; exact h0) (by rw [r.mated]; exact hx) (renames h)
    exact ⟨k, c.attempt, c.position, by rw [c.lead, r.mated]⟩
  · rw [undriven hd]
    exact State.applyEnds_coupled (by rw [r.census]; exact h0) (by rw [r.mated]; exact hx) (renames h)

/-- The frames of a member's reports at an idle end, where the door table stands (R51, R53). -/
theorem State.switchTables_tells {s : State} {p : Port} (hd : s.mgmt.staging.coach.drivable = s.mgmt.working.coach.drivable) (h : s.Renamed)
    (hl : s.census.lead = .off) (hdoor : s.mgmt.staging.door = s.mgmt.working.door) (ht : s.Told) (h6 : 6 < s.mgmt.staging.coach.arraySize)
    (hw : ∀ e, s.census.leadEnd = some e → s.mated (s.retabled.endPort e) = true → p = s.retabled.endPort e) (hr : s.Ready p) :
    (s.switchTables.port p).tx =
        some (s.changeFrame (if s.mgmt.staging.coach.endSwap = s.mgmt.working.coach.endSwap then 4 else 3))
      ∧ (s.switchTables.port p).urgentQ =
        if s.mgmt.staging.coach.endSwap ≠ s.mgmt.working.coach.endSwap ∧ s.mgmt.staging.coach.cabEnd ≠ s.mgmt.working.coach.cabEnd then
          [s.changeFrame 4] else [] := by
  have r := s.retabled_retabled
  rw [State.switchTables_retabled]
  generalize s.retabled = v at r hw
  have hm : v.mgmt.working = s.mgmt.staging := by rw [r.mgmt]
  have e := State.applyEnds_eventful s.mgmt.working.coach v
  rw [State.applyRole_same (by rw [e.mgmt, hm]; exact hd)]
  have hv : v.Told := ⟨r.flags _ ht.topology, r.flags _ ht.dropped, by
    rw [r.size]
    split
    · exact ht.size
    · exact h6⟩
  have hgo : v.goesBy p := fun x hx hmx => hw x (by rw [← r.census]; exact hx) (by rw [← r.mated]; exact hmx)
  have k := State.applyEnds_tells (old := s.mgmt.working.coach) (by rw [r.census]; exact hl) hv hgo (hr.congr (r.port hdoor p))
    (by rw [hm]; exact h)
  rw [hm] at k
  have hf (b : Byte) : v.changeFrame b = s.changeFrame b := State.changeFrame_congr r.census r.nodeId b
  rw [hf, hf] at k
  exact k

theorem exec_applyLink {s : State} : exec (.apply .coachLink) s = s.run (fun x => x.serve .coachLink applyService) := rfl

/-- The message of the reply to an accepted APPLY (R175). -/
def applyReply (h l : Byte) (old new : Tables) : Message :=
  { kind := 0x81, payload := 13 :: h :: l :: 0 :: 0x80 :: byte (changedCodes old new).length :: changedCodes old new }

/-- An accepted APPLY over the coach link: the tables switched, and the reply behind the NOTICEs of that (R175; log 33). -/
theorem exec_applyLink_accepted {s : State} {h l : Byte} (ha : s.asks 13 h l []) (hs : s.mgmt.store = .idle) (hr : ¬s.applyRefused = true) :
    ∃ k : Link, exec (.apply .coachLink) s = .next { (s.taken 1).switchTables with link := k }
      ∧ k.txQ.getLast? = some (applyReply h l s.mgmt.working s.mgmt.staging) := by
  have hlen : (byte (changedCodes s.mgmt.working s.mgmt.staging).length :: changedCodes s.mgmt.working s.mgmt.staging).length ≤ 67 := by
    have := changedCodes_length s.mgmt.working s.mgmt.staging
    rw [List.length_cons]
    omega
  have hact (x : State) (h1 : x.mgmt.store = .idle) (h2 : ¬x.applyRefused = true) (h3 : x.mgmt = s.mgmt) :
      applyService.act .coachLink { kind := 13, tag := u16 h l, args := [] } x =
        (.now .ok (byte (changedCodes s.mgmt.working s.mgmt.staging).length :: changedCodes s.mgmt.working s.mgmt.staging), x.switchTables) := by
    refine (applyAct_accepted .coachLink { kind := 13, tag := u16 h l, args := [] } h1 h2).trans ?_
    rw [h3, changedTables_listBytes]
  have hplaces : (applyService.act .coachLink { kind := 13, tag := u16 h l, args := [] } s).1.places = 1 := by
    rw [hact s hs hr rfl]
    have hp : pieces Config.maxParts linkPartBytes _ = [_] := if_pos hlen
    rw [Answer.places, hp]
    rfl
  have htaken := hact (s.taken 1) hs hr rfl
  have spare : (s.taken 1).link.Spare ((s.taken 1).notices.unraised + 0) := by
    obtain ⟨-, -, hq, -, -, hsend⟩ := ha
    have h5 := s.notices.unraised_le
    have hl : s.link.txQ.length = 0 := by rw [hq]; rfl
    exact ⟨hsend, by show s.link.txQ.length + 1 + (s.notices.unraised + 0) ≤ 8; omega⟩
  have pair : Paired (fun _ => False) 0 0 (s.taken 1) (s.taken 1) := ⟨rfl, spare, spare, fun _ k => k.elim⟩
  have busy := (InStep.switchTables pair).left.busy
  have rx : (s.taken 1).switchTables.link.rx = [] := by
    have r := (s.taken 1).retabled_retabled
    rw [State.switchTables_retabled]
    exact ((State.applyRole_eventful _ _).rx.trans (State.applyEnds_eventful _ _).rx).trans r.rx
  have hrun := State.run_taken (v := applyService) (by decide) ha rfl hplaces htaken
  generalize (s.taken 1).switchTables = u at busy rx hrun ⊢
  have hsend : u.sendAnswer .coachLink { kind := 13, tag := u16 h l, args := [] }
      (.now .ok (byte (changedCodes s.mgmt.working s.mgmt.staging).length :: changedCodes s.mgmt.working s.mgmt.staging)) = _ :=
    State.sendReply_one busy hlen
  refine ⟨_, exec_applyLink.trans ((hrun ?_).trans (congrArg _ hsend)), ?_⟩
  · exact (congrArg (fun x : State => x.link.rx) hsend).trans rx
  · dsimp only
    rw [List.getLast?_append, be16_u16]
    rfl

end Sys2Proof.Machine
end

section
open Sys2Proof Sys2Proof.Machine

/-- Settles O56: busy, refused, of an unchanged staging, and accepted, where the census follows numbering, cab end and drivable mark. -/
theorem applyJudgedAndSwitched : Obligations.ApplyJudgedAndSwitched := by
  intro s h l ha w n shut open' refused moved renamed after changed
  refine ⟨fun hb => ?_, fun hi hr => ?_, fun hi he hs => ?_, fun hi hr => ?_⟩
  · exact exec_applyLink.trans ((State.run_request (v := applyService) (t := s) (st := .busy) (results := []) (by decide) ha rfl
      fun k => applyAct_busy .coachLink { kind := 13, tag := u16 h l, args := [] } (s := { s with link := k }) hb).trans rfl)
  · exact exec_applyLink.trans ((State.run_request (v := applyService) (t := s) (st := .refused) (results := []) (by decide) ha rfl
      fun k => applyAct_refused .coachLink { kind := 13, tag := u16 h l, args := [] } (s := { s with link := k }) hi (s.applyRefused_iff.mpr hr)).trans rfl)
  · exact exec_applyLink.trans ((State.run_request (v := applyService) (t := s) (st := .ok) (results := [0]) (by decide) ha rfl
      fun k => applyAct_same .coachLink { kind := 13, tag := u16 h l, args := [] } (s := { s with link := k }) hi he hs).trans rfl)
  · obtain ⟨k, hx, hq⟩ := exec_applyLink_accepted ha hi (mt s.applyRefused_iff.mp hr)
    have b := (s.taken 1).switchTables_switched
    have c := (s.taken 1).switchTables_census
    have r := (s.taken 1).retabled_retabled
    have hend (e : EndNo) : (s.taken 1).retabled.endPort e = after.endPort e := by simp only [State.endPort, r.strap, r.mgmt]; rfl
    have hcab : (s.taken 1).retabled.cabPort = after.cabPort := by rw [State.cabPort, hend, r.mgmt]; rfl
    have hnon : (s.taken 1).retabled.nonCabPort = after.nonCabPort := by rw [State.nonCabPort, hend, r.mgmt]; rfl
    rw [hcab, hnon] at c
    have tells (p : Port) (hd : n.coach.drivable = w.coach.drivable) (hn : renamed) (hl : s.census.lead = .off) (hdoor : n.door = w.door)
        (ht : s.Told) (h6 : 6 < n.coach.arraySize)
        (hw : ∀ e, s.census.leadEnd = some e → s.mated (after.endPort e) = true → p = after.endPort e) (hp : s.idleEnd p) :=
      State.switchTables_tells (s := s.taken 1) (p := p) hd hn hl hdoor ⟨ht.topology, ht.dropped, ht.size⟩ h6
        (fun e h1 h2 => by
          rw [hend] at h2 ⊢
          refine hw e h1 ?_
          rw [← h2]
          cases after.endPort e <;> rfl)
        ((State.ready_of_idleEnd hp).congr (by cases p <;> rfl))
    refine ⟨_, hx, ?_⟩
    generalize (s.taken 1).switchTables = u at b c tells
    have mated (p : Port) : (s.taken 1).mated p = s.mated p := by cases p <;> rfl
    refine ⟨b.mgmt, b.budget, b.demand, b.rating, b.size, b.settings.1, b.settings.2.1, b.settings.2.2.1, b.settings.2.2.2, b.zsp, b.nodeId,
      b.powered.trans ha.1, b.side1, b.side2, fun j _ hj => b.group j hj, hq, c.cleared, fun hn hd ho h0 => ?_, fun hd => ⟨fun hn => ?_,
        fun hn h0 => ?_, fun p hn h0 hdoor htop hdrop h6 hn6 hw hp => ?_, fun hn h0 hx => ?_, fun hn h0 hx => ?_⟩⟩
    · have k := c.set hn hd ho h0
      rw [mated, mated] at k
      exact k
    · exact c.same hd hn
    · have k := c.member hd hn h0
      exact ⟨k.told, k.cs, k.table, k.position, k.epoch⟩
    · have k := tells p hd hn h0 hdoor ⟨htop, hdrop, h6⟩ hn6 hw hp
      have hp (x : Link) : ({ u with link := x } : State).port p = u.port p := by cases p <;> rfl
      rw [hp]
      exact k
    · have k := c.lead hd hn h0 (by rw [mated]; exact hx)
      rw [mated] at k
      exact k
    · exact c.coupled hd hn h0 (by rw [mated]; exact hx)

end

section
/-! PROOFS. Requests over the train line (O60): what each request does by either route, and the replies that go back by the line. -/

namespace Sys2Proof.Machine

/-! ## Requests whose act the coach link does not enter -/

/-- What such an act leaves: the ports, and what its reply is formed from. -/
structure Unsent (x z : State) : Prop where
  portA : z.portA = x.portA
  portB : z.portB = x.portB
  nodeId : z.nodeId = x.nodeId
  delivered : z.delivered = x.delivered
  powered : z.powered = x.powered

theorem Unsent.same {x z : State} (hA : z.portA = x.portA := by rfl) (hB : z.portB = x.portB := by rfl) (hn : z.nodeId = x.nodeId := by rfl)
    (hd : z.delivered = x.delivered := by rfl) (hp : z.powered = x.powered := by rfl) : Unsent x z := ⟨hA, hB, hn, hd, hp⟩

theorem Unsent.trans {x y z : State} (h : Unsent x y) (k : Unsent y z) : Unsent x z :=
  ⟨k.portA.trans h.portA, k.portB.trans h.portB, k.nodeId.trans h.nodeId, k.delivered.trans h.delivered, k.powered.trans h.powered⟩

/-- An answer, and the state with another coach link. -/
def relinked (k : Link) (a : Answer × State) : Answer × State := (a.1, { a.2 with link := k })

/-- The same answer, given at once, and the same act by either route, whatever the coach link holds. -/
structure Service.Routeless (v : Service) : Prop where
  link : ∀ (o : Origin) (r : Request) (x : State) (k : Link),
    v.act o r { x with link := k } = relinked k (v.act .coachLink r x)
  now : ∀ (r : Request) (x : State), ∃ st results, (v.act .coachLink r x).1 = .now st results
  unsent : ∀ (r : Request) (x : State), Unsent x (v.act .coachLink r x).2

/-- A request that reads. -/
theorem readAct_routeless {v : Service} {results : State → List Byte} (ha : v.act = readAct results)
    (hr : ∀ (x : State) (k : Link), results { x with link := k } = results x) : v.Routeless where
  link o r x k := by rw [ha, readAct, readAct, hr]; rfl
  now r x := by rw [ha]; exact ⟨_, _, rfl⟩
  unsent r x := by rw [ha]; exact .same

theorem captureAct_routeless : readCaptureService.Routeless := ⟨fun _ _ _ _ => rfl, fun _ _ => ⟨_, _, rfl⟩, fun _ _ => .same⟩

theorem clearCountersAct_routeless : clearCountersService.Routeless := ⟨fun _ _ _ _ => rfl, fun _ _ => ⟨_, _, rfl⟩, fun _ _ => .same⟩

theorem sampleAct_routeless : sampleService.Routeless := ⟨fun _ _ _ _ => rfl, fun _ _ => ⟨_, _, rfl⟩, fun _ _ => .same⟩

theorem startCaptureAct_routeless : startCaptureService.Routeless := ⟨fun _ _ _ _ => rfl, fun _ _ => ⟨_, _, rfl⟩, fun _ _ => .same⟩

theorem stopCaptureAct_routeless : stopCaptureService.Routeless := ⟨fun _ _ _ _ => rfl, fun _ _ => ⟨_, _, rfl⟩, fun _ _ => .same⟩

theorem countersAct_routeless : readCountersService.Routeless where
  link o r x k := by
    show countersAct o r _ = relinked k (countersAct .coachLink r x)
    unfold countersAct
    dsimp only
    split <;> rfl
  now r x := by
    show ∃ st results, (countersAct .coachLink r x).1 = .now st results
    unfold countersAct
    dsimp only
    split <;> exact ⟨_, _, rfl⟩
  unsent r x := by
    show Unsent x (countersAct .coachLink r x).2
    unfold countersAct
    dsimp only
    split <;> exact .same

theorem setEnableAct_routeless : setNoticeEnableService.Routeless where
  link o r x k := by
    show setEnableAct o r _ = relinked k (setEnableAct .coachLink r x)
    unfold setEnableAct
    split <;> rfl
  now r x := by
    show ∃ st results, (setEnableAct .coachLink r x).1 = .now st results
    unfold setEnableAct
    split <;> exact ⟨_, _, rfl⟩
  unsent r x := by
    show Unsent x (setEnableAct .coachLink r x).2
    unfold setEnableAct
    split <;> exact .same

theorem budgetAct_routeless : setBudgetService.Routeless where
  link o r x k := by
    show budgetAct o r _ = relinked k (budgetAct .coachLink r x)
    unfold budgetAct
    rw [show State.isLead { x with link := k } = x.isLead from rfl]
    split <;> rfl
  now r x := by
    show ∃ st results, (budgetAct .coachLink r x).1 = .now st results
    unfold budgetAct
    split <;> exact ⟨_, _, rfl⟩
  unsent r x := by
    show Unsent x (budgetAct .coachLink r x).2
    unfold budgetAct
    split <;> exact .same

theorem restartAct_routeless : restartService.Routeless where
  link o r x k := by
    show restartAct o r _ = relinked k (restartAct .coachLink r x)
    unfold restartAct
    dsimp only
    split <;> rfl
  now r x := by
    show ∃ st results, (restartAct .coachLink r x).1 = .now st results
    unfold restartAct
    split <;> exact ⟨_, _, rfl⟩
  unsent r x := by
    show Unsent x (restartAct .coachLink r x).2
    unfold restartAct
    split <;> exact .same

theorem State.loadFields_link (name : TableName) (n : Nat) (vs : List Nat) (x : State) (k : Link) :
    State.loadFields name n vs { x with link := k } = { State.loadFields name n vs x with link := k } := by
  induction vs generalizing n x with
  | nil => rfl
  | cons v vs ih =>
    have h1 : State.loadField name n v { x with link := k } = { State.loadField name n v x with link := k } := by
      unfold State.loadField
      split <;> rfl
    rw [State.loadFields, h1, ih]
    rfl

theorem State.loadFields_unsent (name : TableName) (n : Nat) (vs : List Nat) (x : State) : Unsent x (x.loadFields name n vs) := by
  obtain ⟨g, k, h⟩ := x.loadFields_cases name n vs
  rw [h]
  exact .same

theorem loadAct_routeless : loadTableService.Routeless where
  link o r x k := by
    show loadAct o r _ = relinked k (loadAct .coachLink r x)
    unfold loadAct
    split
    · split
      · split
        · rfl
        · dsimp only
          rw [State.loadFields_link]
          rfl
      · rfl
    · rfl
  now r x := by
    show ∃ st results, (loadAct .coachLink r x).1 = .now st results
    unfold loadAct
    split
    · split
      · split <;> exact ⟨_, _, rfl⟩
      · exact ⟨_, _, rfl⟩
    · exact ⟨_, _, rfl⟩
  unsent r x := by
    show Unsent x (loadAct .coachLink r x).2
    unfold loadAct
    split
    · split
      · split
        · exact .same
        · exact State.loadFields_unsent _ _ _ _
      · exact .same
    · exact .same

theorem State.clearGroupFault_unsent (j : Nat) (x : State) : Unsent x (x.clearGroupFault j) := by
  unfold State.clearGroupFault
  split
  · exact .same
  · exact .same

theorem State.clearGroups_unsent (js : List Nat) (x : State) : Unsent x (js.foldl (fun acc j => State.clearGroupFault j acc) x) := by
  induction js generalizing x with
  | nil => exact .same
  | cons j js ih => exact (State.clearGroupFault_unsent j x).trans (ih _)

theorem State.faultsCleared_unsent (j : Nat) (x : State) : Unsent x (x.faultsCleared j) := by
  have h : Unsent x (if j = 255 then [0, 1, 2, 3].foldl (fun acc j => State.clearGroupFault j acc) x else State.clearGroupFault j x) := by
    split
    · exact State.clearGroups_unsent [0, 1, 2, 3] x
    · exact State.clearGroupFault_unsent j x
  unfold State.faultsCleared
  generalize (if j = 255 then _ else _ : State) = y at h
  exact h.trans .same

/-- CLEAR GROUP FAULT by its three outcomes (R148). -/
theorem groupFaultAct_eq (o : Origin) (r : Request) (s : State) : groupFaultAct o r s =
    let k := (r.args.getD 0 0).toNat
    if k ≠ 255 ∧ 3 < k then (.now .badRange s.groupStates, s)
    else if k ≠ 255 ∧ (s.heater.group k).st = .notFitted then (.now .refused s.groupStates, s)
    else (.now .ok (s.faultsCleared k).groupStates, s.faultsCleared k) := by
  unfold groupFaultAct State.faultsCleared
  dsimp only
  generalize (r.args.getD 0 0).toNat = k
  by_cases h : k = 255
  · simp only [h, if_true, ne_eq, not_true, false_and, if_false]
  · simp only [h, if_false, ne_eq, not_false_eq_true, true_and]

theorem groupFaultAct_routeless : clearGroupFaultService.Routeless where
  link o r x k := by
    show groupFaultAct o r _ = relinked k (groupFaultAct .coachLink r x)
    rw [groupFaultAct_eq, groupFaultAct_eq]
    dsimp only
    rw [State.faultsCleared_link]
    rw [show State.groupStates { x with link := k } = x.groupStates from rfl]
    split
    · rfl
    · split <;> rfl
  now r x := by
    show ∃ st results, (groupFaultAct .coachLink r x).1 = .now st results
    rw [groupFaultAct_eq]
    dsimp only
    split
    · exact ⟨_, _, rfl⟩
    · split <;> exact ⟨_, _, rfl⟩
  unsent r x := by
    show Unsent x (groupFaultAct .coachLink r x).2
    rw [groupFaultAct_eq]
    dsimp only
    split
    · exact .same
    · split
      · exact .same
      · exact State.faultsCleared_unsent _ _

/-! ## What two runs leave before their replies -/

/-- What a request leaves by the line (`z`) and over the coach link (`z'`): the same but for the coach link, with room at the port of its
arrival for the parts of its reply. -/
structure Alike (x : State) (p : Port) (results : List Byte) (z z' : State) : Prop where
  same : z' = { z with link := z'.link }
  nodeId : z.nodeId = x.nodeId
  delivered : z.delivered = x.delivered
  powered : z.powered = x.powered
  mated : z.mated p = x.mated p
  rx : z.link.rx = x.link.rx
  rx' : z'.link.rx = []
  room : (z.port p).normalQ.length + (pieces Config.maxParts linePartBytes results).length ≤ 16

/-- A request that does the same by either route, from an idle end and a busy transmitter of the coach link with an empty queue. -/
def Service.Alike (v : Service) : Prop :=
  ∀ (o : Origin) (r : Request) (x : State) (p : Port), x.Ready p → x.link.sending ≠ none → x.link.txQ = [] → x.link.reserved = 0 →
    ∃ st results z z', v.act o r x = (.now st results, z)
      ∧ v.act .coachLink r (x.taken (v.act .coachLink r x).1.places) = (.now st results, z') ∧ Machine.Alike x p results z z'

theorem pieces_length_le_parts (size : Nat) (n : Nat) (bs : List Byte) : (pieces n size bs).length ≤ n := by
  induction n generalizing bs with
  | zero => exact Nat.zero_le 0
  | succ n ih =>
    unfold pieces
    split
    · exact Nat.succ_le_succ (Nat.zero_le n)
    · exact Nat.succ_le_succ (ih _)

theorem Service.Routeless.alike {v : Service} (h : v.Routeless) : v.Alike := by
  intro o r x p hp _ _ _
  obtain ⟨st, results, hn⟩ := h.now r x
  have hu := h.unsent r x
  have hk := h.link o r x x.link
  have hk' := h.link .coachLink r x (x.taken (v.act .coachLink r x).1.places).link
  rw [relinked, hn] at hk hk'
  rw [hn]
  generalize (v.act .coachLink r x).2 = z at hu hk hk'
  refine ⟨st, results, { z with link := x.link }, _, hk, hk', rfl, hu.nodeId, hu.delivered, hu.powered, ?_, rfl, rfl, ?_⟩
  · cases p
    · exact congrArg (fun y : LinePort => decide (y.pilot = .mated)) hu.portA
    · exact congrArg (fun y : LinePort => decide (y.pilot = .mated)) hu.portB
  · have hz : State.port { z with link := x.link } p = x.port p := by cases p; exacts [hu.portA, hu.portB]
    have hn : (x.port p).normalQ.length = 0 := by rw [hp.normal]; rfl
    have := pieces_length_le_parts linePartBytes Config.maxParts results
    have h16 : Config.maxParts = 16 := rfl
    rw [hz]
    omega

/-- Two runs in step that answer the same in one part. -/
theorem Paired.alike {x : State} {p : Port} {z z' : State} {results : List Byte} {m n : Nat} (h : Paired (· = p) m n z z')
    (hl : results.length ≤ 259) (e : Eventful x z) (hr : z'.link.rx = []) : Machine.Alike x p results z z' where
  same := h.same
  nodeId := e.nodeId
  delivered := e.delivered
  powered := e.powered
  mated := e.mated p
  rx := e.rx
  rx' := hr
  room := by
    have h1 : pieces Config.maxParts linePartBytes results = [results] := if_pos hl
    have := h.room p rfl
    rw [h1, List.length_singleton]
    omega

/-- What is left of a state that stands for the first as far as the replies go. -/
theorem Alike.of {x w : State} {p : Port} {z z' : State} {results : List Byte} (h : Machine.Alike w p results z z') (hn : w.nodeId = x.nodeId)
    (hd : w.delivered = x.delivered) (hp : w.powered = x.powered) (hm : w.mated p = x.mated p) (hr : w.link.rx = x.link.rx) :
    Machine.Alike x p results z z' :=
  ⟨h.same, h.nodeId.trans hn, h.delivered.trans hd, h.powered.trans hp, h.mated.trans hm, h.rx.trans hr, h.rx', h.room⟩

/-- Nothing done by either route, and an answer of one part. -/
theorem Alike.refl {x : State} {p : Port} {results : List Byte} (hp : x.Ready p) (hl : results.length ≤ 259) (n : Nat) :
    Machine.Alike x p results x (x.taken n) where
  same := rfl
  nodeId := rfl
  delivered := rfl
  powered := rfl
  mated := rfl
  rx := rfl
  rx' := rfl
  room := by
    have h1 : pieces Config.maxParts linePartBytes results = [results] := if_pos hl
    rw [h1, hp.normal]
    exact (by decide : 0 + 1 ≤ 16)

/-! ## Requests that can raise a condition -/

/-- From an idle end and a busy transmitter of the coach link with an empty queue there is room for all that can arise. -/
theorem Paired.fresh {x : State} {p : Port} (hp : x.Ready p) (hb : x.link.sending ≠ none) (hq : x.link.txQ = []) (hr : x.link.reserved = 0) :
    Paired (· = p) 0 0 x (x.taken 1) := by
  have h5 := x.notices.unraised_le
  have hl : x.link.txQ.length = 0 := by rw [hq]; rfl
  refine ⟨rfl, ⟨hb, ?_⟩, ⟨hb, ?_⟩, fun q h => ?_⟩
  · rw [hr]; omega
  · show x.link.txQ.length + 1 + (x.notices.unraised + 0) ≤ 8
    omega
  · subst h
    have hn : (x.port q).normalQ.length = 0 := by rw [hp.normal]; rfl
    omega

theorem Answer.places_short {st : Status} {results : List Byte} (h : results.length ≤ 67) : (Answer.now st results).places = 1 := by
  have h1 : pieces Config.maxParts linkPartBytes results = [results] := if_pos h
  rw [Answer.places, h1]
  rfl

theorem clearNotices_alike : clearNoticesService.Alike := by
  intro o r x p hp hb hq hr
  rw [show clearNoticesService.act = clearNoticesAct from rfl]
  unfold clearNoticesAct
  cases hm : readMask r.args with
  | none => exact ⟨_, _, _, _, rfl, rfl, Alike.refl hp (Nat.zero_le _) _⟩
  | some m =>
    dsimp only
    rw [Answer.places_short (by exact Nat.le_of_ble_eq_true rfl)]
    generalize hw : ({ x with notices := { x.notices with flags := x.notices.flags &&& ~~~m } } : State) = w
    have h0 : Paired (· = p) 0 0 w (w.taken 1) := by
      rw [← hw]
      exact Paired.fresh (hp.congr (by cases p <;> rfl)) hb hq hr
    have h1 : Paired (· = p) 0 0 (x.clearFlags m) ((x.taken 1).clearFlags m) := by
      unfold State.clearFlags
      dsimp only
      rw [show ({ x.taken 1 with notices := { (x.taken 1).notices with flags := (x.taken 1).notices.flags &&& ~~~m } } : State) = w.taken 1 by
        rw [← hw]; rfl, hw]
      exact Paired.ite Iff.rfl (fun _ => InStep.raise (by decide) h0) fun _ => h0
    have hev (y : State) : ∃ v : State, Eventful v (y.clearFlags m) ∧ v = { y with notices := { y.notices with flags := y.notices.flags &&& ~~~m } } := by
      refine ⟨_, ?_, rfl⟩
      unfold State.clearFlags
      dsimp only
      split
      · exact (State.raise_quiet _ _).eventful
      · exact Eventful.refl _
    obtain ⟨v, e, hv⟩ := hev x
    obtain ⟨v', e', hv'⟩ := hev (x.taken 1)
    have hn : ((x.taken 1).clearFlags m).notices = (x.clearFlags m).notices := by rw [h1.same]
    rw [hn]
    refine ⟨_, _, _, _, rfl, rfl, (h1.alike (by exact Nat.le_of_ble_eq_true rfl) e (e'.rx.trans (by rw [hv']; rfl))).of ?_ ?_ ?_ ?_ ?_⟩ <;> rw [hv]
    cases p <;> rfl

theorem setSense_alike : setSenseService.Alike := by
  intro o r x p hp hb hq hr
  rw [show setSenseService.act = setSenseAct from rfl]
  unfold setSenseAct
  cases hm : readSettings r.args with
  | none => exact ⟨_, _, _, _, rfl, rfl, Alike.refl hp (Nat.zero_le _) _⟩
  | some t =>
    have h0 : Paired (· = p) 0 0 (x.resensed t) ((x.resensed t).taken 1) :=
      Paired.fresh (hp.congr (by cases p <;> rfl)) hb hq hr
    have h1 : Paired (· = p) 0 0 (x.changeSense t) ((x.taken 1).changeSense t) := by
      rw [State.changeSense_eq, State.changeSense_eq]
      exact Paired.ite Iff.rfl (fun _ => InStep.raise (by decide) h0) fun _ => h0
    have e := (State.changeSense_resensed t x).eventful
    have e' := (State.changeSense_resensed t (x.taken 1)).eventful
    exact ⟨_, _, _, _, rfl, rfl, (h1.alike (Nat.zero_le _) e e'.rx).of rfl rfl rfl (by cases p <;> rfl) rfl⟩

theorem apply_alike : applyService.Alike := by
  intro o r x p hp hb hq hr
  rw [show applyService.act = applyAct from rfl]
  by_cases hi : x.mgmt.store = .idle
  · by_cases hf : x.applyRefused = true
    · rw [applyAct_refused o r hi hf, applyAct_refused .coachLink r hi hf]
      exact ⟨_, _, _, _, rfl, applyAct_refused .coachLink r (s := x.taken _) hi hf, Alike.refl hp (Nat.zero_le _) _⟩
    · have hlen := changedCodes_length x.mgmt.working x.mgmt.staging
      have hshort : (byte (changedCodes x.mgmt.working x.mgmt.staging).length :: changedCodes x.mgmt.working x.mgmt.staging).length ≤ 67 := by
        rw [List.length_cons]; omega
      rw [applyAct_accepted o r hi hf, applyAct_accepted .coachLink r hi hf]
      rw [changedTables_listBytes, Answer.places_short hshort]
      have h2 := applyAct_accepted .coachLink r (s := x.taken 1) hi hf
      rw [changedTables_listBytes] at h2
      have h1 := InStep.switchTables (Paired.fresh hp hb hq hr)
      have ev (y : State) : Eventful y.retabled y.switchTables := by
        rw [State.switchTables_retabled]
        exact (State.applyEnds_eventful _ _).trans (State.applyRole_eventful _ _)
      have k := x.retabled_retabled
      have k' := (x.taken 1).retabled_retabled
      exact ⟨_, _, _, _, rfl, h2, (h1.alike (by omega) (ev x) ((ev (x.taken 1)).rx.trans k'.rx)).of k.nodeId k.delivered k.powered (k.mated p) k.rx⟩
  · rw [applyAct_busy o r hi, applyAct_busy .coachLink r hi]
    exact ⟨_, _, _, _, rfl, applyAct_busy .coachLink r (s := x.taken _) hi, Alike.refl hp (Nat.zero_le _) _⟩

end Sys2Proof.Machine
end

section
/-! PROOFS. Requests over the train line (O60): taken, answered by the port of their arrival, and set beside the same requests of the coach
link. -/

namespace Sys2Proof.Machine

/-! ## Replies by the line (R172) -/

theorem LinePort.takeNext_held {x : LinePort} {g : Frame} (h : g ∈ x.tx.toList ++ x.normalQ) : g ∈ x.takeNext.tx.toList ++ x.takeNext.normalQ := by
  unfold LinePort.takeNext
  split
  · rename_i hc
    rw [hc.2] at h
    have hg : g ∈ x.normalQ := by simpa using h
    split
    · exact List.mem_append_right _ hg
    · rename_i hq
      rw [hq] at hg
      simpa using hg
    · rename_i hq
      rw [hq] at hg
      exact absurd hg List.not_mem_nil
  · exact h

/-- A frame in a normal queue with room is held, and so are the frames that were. -/
theorem LinePort.enqueue_room {x : LinePort} {f : Frame} (h : x.normalQ.length < 16) : ∃ y, x.enqueue false f = some y
    ∧ f ∈ y.tx.toList ++ y.normalQ ∧ ∀ g ∈ x.tx.toList ++ x.normalQ, g ∈ y.tx.toList ++ y.normalQ := by
  refine ⟨_, by rw [LinePort.enqueue, if_neg (by decide), if_pos (show x.normalQ.length < Config.normalCapacity from h)], ?_, fun g hg => ?_⟩
  · exact LinePort.takeNext_held (by simp)
  · refine LinePort.takeNext_held ?_
    rw [List.mem_append] at hg ⊢
    exact hg.imp id fun k => List.mem_append_left _ k

/-- The frame of one part of a reply (R172). -/
def State.replyFrame (s : State) (i : NodeId) (d : Dir) (payload : List Byte) : Frame :=
  s.ownFrame 10 d.opposite s.shownEpoch .nodeId i payload

theorem State.sendReplyFrame_room {s : State} {p : Port} {i : NodeId} {d : Dir} {payload : List Byte} (hm : s.mated p = true) (hi : i ≠ s.nodeId)
    (h : (s.port p).normalQ.length < 16) : ∃ y, s.sendReplyFrame p i d payload = s.setPort p y ∧ y.pilot = (s.port p).pilot
      ∧ y.normalQ.length ≤ (s.port p).normalQ.length + 1 ∧ s.replyFrame i d payload ∈ y.tx.toList ++ y.normalQ
      ∧ ∀ g ∈ (s.port p).tx.toList ++ (s.port p).normalQ, g ∈ y.tx.toList ++ y.normalQ := by
  obtain ⟨y, hy, hf, hg⟩ := LinePort.enqueue_room (f := s.replyFrame i d payload) h
  refine ⟨y, ?_, (LinePort.enqueue_quiet (of_decide_eq_true hm) hy).pilot, LinePort.enqueue_normalQ hy, hf, hg⟩
  have ho : s.isOwnDestination .nodeId i = false := decide_eq_false hi
  rw [State.sendReplyFrame, State.originate, State.originateWith_one ho, State.complete_eq (show 10 ≤ 11 by decide)]
  exact State.sendOne_room hm hy

/-- The parts of a reply, with room for them all, are held at their port, which alone changes. -/
theorem State.sendReplyFrames_room {s : State} {p : Port} {i : NodeId} {d : Dir} {ps : List (List Byte)} (hm : s.mated p = true)
    (hi : i ≠ s.nodeId) (h : (s.port p).normalQ.length + ps.length ≤ 16) :
    ∃ y, ps.foldl (fun acc q => acc.sendReplyFrame p i d q) s = s.setPort p y
      ∧ (∀ q ∈ ps, s.replyFrame i d q ∈ y.tx.toList ++ y.normalQ)
      ∧ ∀ g ∈ (s.port p).tx.toList ++ (s.port p).normalQ, g ∈ y.tx.toList ++ y.normalQ := by
  induction ps generalizing s with
  | nil => exact ⟨s.port p, (s.setPort_port p).symm, fun q hq => absurd hq List.not_mem_nil, fun g hg => hg⟩
  | cons q ps ih =>
    rw [List.length_cons] at h
    obtain ⟨y, hy, hpil, hlen, hf, hold⟩ := State.sendReplyFrame_room (d := d) (payload := q) hm hi (by omega)
    have hport : (s.setPort p y).port p = y := State.port_setPort p y s
    have hm' : (s.setPort p y).mated p = true := by rw [State.mated, hport, hpil]; exact hm
    obtain ⟨z, hz, hfs, hold'⟩ := ih hm' (by cases p <;> exact hi) (by rw [hport]; omega)
    rw [hport] at hold'
    have hframe (q : List Byte) : (s.setPort p y).replyFrame i d q = s.replyFrame i d q := by cases p <;> rfl
    refine ⟨z, ?_, fun w hw => ?_, fun g hg => hold' g (hold g hg)⟩
    · rw [List.foldl_cons, hy, hz, State.setPort_setPort]
    · rcases List.mem_cons.mp hw with rfl | hw
      · exact hold' _ hf
      · rw [← hframe]; exact hfs w hw

/-- The first part of a reply begins with its code and its tag (12.5). -/
theorem replyPayloads_first (kind : Nat) (h l : Byte) (st : Status) (results : List Byte) (size : Nat) :
    ∃ q ∈ replyPayloads kind (u16 h l) st results size, q.take 3 = [byte kind, h, l] := by
  unfold replyPayloads
  have hpos := pieces_pos 15 size results
  rw [show Config.maxParts = 15 + 1 from rfl]
  cases hp : pieces (15 + 1) size results with
  | nil => rw [hp] at hpos; exact absurd hpos (by decide)
  | cons p ps => exact ⟨_, List.mem_cons_self, by rw [be16_u16]; rfl⟩

/-! ## A request of the line taken (R172, R173) -/

/-- A request that passes both tests is carried out (R173). -/
theorem State.judge_passes {v : Service} {o : Origin} {r : Request} {s : State} (hf : v.form r.args = true)
    (hw : v.write = false ∨ s.mgmt.working.coach.remoteConfig = true) : s.judge v o r = v.act o r s := by
  rw [State.judge, if_neg (by simp [hf]), if_neg]
  rintro ⟨h1, -, h2⟩
  rcases hw with h | h
  · rw [h] at h1; exact absurd h1 (by decide)
  · rw [h] at h2; exact absurd h2 (by decide)

/-- A write of the line is not permitted where the remote-configuration bit is clear (R173). -/
theorem State.judge_barred {v : Service} {d : Delivery} {r : Request} {s : State} (hf : v.form r.args = true) (hw : v.write = true)
    (hc : s.mgmt.working.coach.remoteConfig = false) : s.judge v d.origin r = (.plain .notPermitted, s) := by
  rw [State.judge, if_neg (by simp [hf]), if_pos ⟨hw, rfl, hc⟩]

theorem State.run_line {v : Service} {s : State} {d : Delivery} {rest : List Delivery} {h l : Byte} {args : List Byte} {a : Answer} {u : State}
    (hv : v.code < 256) (hs : s.holds 9 d rest) (hp : d.frame.payload = byte v.code :: h :: l :: args)
    (hj : ({ s with delivered := rest } : State).judge v d.origin { kind := v.code, tag := u16 h l, args := args } = (a, u))
    (hd : takeClass 9 (u.sendAnswer d.origin { kind := v.code, tag := u16 h l, args := args } a).delivered = none)
    (hr : (u.sendAnswer d.origin { kind := v.code, tag := u16 h l, args := args } a).link.rx = []) :
    s.run (fun x => x.serve .line v) = .next (u.sendAnswer d.origin { kind := v.code, tag := u16 h l, args := args } a) := by
  have hread : readRequest (byte v.code :: h :: l :: args) = some { kind := v.code, tag := u16 h l, args := args } := by
    simp [readRequest, byte_toNat_of_lt _ hv]
  rw [State.run, hs.1]
  refine congrArg _ ?_
  simp only [State.serve, State.serveLine, hs.2, hp, hread, if_true, State.answer, hj]
  rw [State.drainLine_none hd, State.drainLink_empty hr]

/-- A reply of one part by the line is one frame of class 10 (R172). -/
theorem State.sendReply_lineOne (p : Port) (i : NodeId) (d : Dir) (code tag : Nat) (st : Status) {results : List Byte} (h : results.length ≤ 259)
    (s : State) : s.sendReply (.line p i d) code tag st results =
      s.sendReplyFrame p i d (byte code :: (be16 tag ++ [byte st.code, 0x80] ++ results)) := by
  have hp : pieces Config.maxParts linePartBytes results = [results] := if_pos h
  rw [State.sendReply, replyPayloads, hp]
  rfl

/-- A request of the line that does nothing and is answered in one part (R172). -/
theorem State.run_line_answers {v : Service} {s : State} {d : Delivery} {rest : List Delivery} {h l : Byte} {args : List Byte} {st : Status}
    {results : List Byte} (hv : v.code < 256) (hs : s.holds 9 d rest) (hp : d.frame.payload = byte v.code :: h :: l :: args)
    (ht : takeClass 9 rest = none) (hr : s.link.rx = []) (hl : results.length ≤ 259)
    (hj : ({ s with delivered := rest } : State).judge v d.origin { kind := v.code, tag := u16 h l, args := args } =
      (.now st results, { s with delivered := rest })) :
    s.run (fun x => x.serve .line v) = .next (({ s with delivered := rest } : State).originate
      { cls := 10, dir := (match d.frame.dir with
          | .away => .toward
          | .toward => .away)
        epoch := if s.census.cs = .settled then s.census.epoch else 0, destKind := .nodeId, destVal := d.frame.srcId
        payload := [byte v.code, h, l, byte st.code, 0x80] ++ results } (.one d.port)) := by
  have hsend : ({ s with delivered := rest } : State).sendAnswer d.origin { kind := v.code, tag := u16 h l, args := args } (.now st results) =
      ({ s with delivered := rest } : State).sendReplyFrame d.port d.frame.srcId d.frame.dir
        (byte v.code :: (be16 (u16 h l) ++ [byte st.code, 0x80] ++ results)) := State.sendReply_lineOne _ _ _ _ _ _ hl _
  have q := State.sendReplyFrame_quiet d.port d.frame.srcId d.frame.dir (byte v.code :: (be16 (u16 h l) ++ [byte st.code, 0x80] ++ results))
    { s with delivered := rest }
  rw [State.run_line hv hs hp hj (by rw [hsend, q.delivered]; exact ht) (by rw [hsend, q.rx]; exact hr), hsend, State.sendReplyFrame,
    Dir.opposite_eq, State.shownEpoch_eq, be16_u16]
  rfl

/-! ## The same request by both routes -/

/-- Two states whose blocks are the same, ports and coach link aside. -/
structure Beside (t u : State) : Prop where
  events : t.events = u.events
  notices : t.notices = u.notices
  sense : t.sense = u.sense
  heater : t.heater = u.heater
  alloc : t.alloc = u.alloc
  mgmt : t.mgmt = u.mgmt
  census : t.census = u.census
  line : t.line = u.line
  doors : t.doors = u.doors
  summary : t.summary = u.summary
  nodeId : t.nodeId = u.nodeId
  strap : t.strap = u.strap
  freeCount : t.freeCount = u.freeCount

theorem State.beside (z : State) (p : Port) (y : LinePort) (k : Link) : Beside (z.setPort p y) { z with link := k } := by
  cases p <;> exact ⟨rfl, rfl, rfl, rfl, rfl, rfl, rfl, rfl, rfl, rfl, rfl, rfl, rfl⟩

/-- What a request of the line leaves beside the same request of the coach link: the same blocks, and its reply at the port of its
arrival. -/
structure Served (d : Delivery) (rest : List Delivery) (code : Nat) (h l : Byte) (t u : State) : Prop where
  beside : Beside t u
  powered : t.powered = true
  delivered : t.delivered = rest
  rx : t.link.rx = []
  reply : ∃ f ∈ (t.port d.port).tx.toList ++ (t.port d.port).normalQ,
    f.cls = 10 ∧ f.destKind = .nodeId ∧ f.destVal = d.frame.srcId ∧ f.payload.take 3 = [byte code, h, l]

section
variable {v : Service} {s : State} {d : Delivery} {rest : List Delivery} {h l : Byte} {args : List Byte}

/-- The replies to a request of the line that has left `z`. -/
theorem State.run_line_served {st : Status} {results : List Byte} {z z' : State} (hv : v.code < 256) (hs : s.holds 9 d rest)
    (hp : d.frame.payload = byte v.code :: h :: l :: args) (ht : takeClass 9 rest = none) (hr : s.link.rx = []) (hm : s.mated d.port = true)
    (hi : d.frame.srcId ≠ s.nodeId)
    (hj : ({ s with delivered := rest } : State).judge v d.origin { kind := v.code, tag := u16 h l, args := args } = (.now st results, z))
    (a : Alike { s with delivered := rest } d.port results z z') (k : Link) :
    ∃ t, s.run (fun x => x.serve .line v) = .next t ∧ Served d rest v.code h l t { z' with link := k } := by
  have hmx : ({ s with delivered := rest } : State).mated d.port = s.mated d.port := by cases d.port <;> rfl
  obtain ⟨y, hy, hframes, -⟩ := State.sendReplyFrames_room (s := z) (p := d.port) (i := d.frame.srcId) (d := d.frame.dir)
    (ps := replyPayloads v.code (u16 h l) st results linePartBytes) (by rw [a.mated, hmx]; exact hm) (by rw [a.nodeId]; exact hi)
    (by rw [replyPayloads, replyParts_length]; exact a.room)
  have hsend : z.sendAnswer d.origin { kind := v.code, tag := u16 h l, args := args } (.now st results) = z.setPort d.port y := hy
  have hdel : (z.setPort d.port y).delivered = rest := by rw [State.setPort_delivered, a.delivered]
  have hrx : (z.setPort d.port y).link.rx = [] := by rw [State.setPort_link, a.rx]; exact hr
  refine ⟨_, State.run_line hv hs hp hj (by rw [hsend, hdel]; exact ht) (by rw [hsend]; exact hrx), ?_⟩
  rw [hsend, a.same]
  obtain ⟨q, hq, hq3⟩ := replyPayloads_first v.code h l st results linePartBytes
  refine ⟨State.beside z d.port y k, ?_, hdel, hrx, z.replyFrame d.frame.srcId d.frame.dir q, ?_, rfl, rfl, rfl, hq3⟩
  · rw [State.setPort_powered, a.powered]
    exact hs.1
  · rw [State.port_setPort]
    exact hframes q hq

/-- A request that the coach link does not enter does the same by the line as over the coach link (R172, R173). -/
theorem State.line_beside_link (hmem : v ∈ services) (hv : v.code < 256) (ha : v.Alike) (hs : s.holds 9 d rest)
    (hp : d.frame.payload = byte v.code :: h :: l :: args) (ht : takeClass 9 rest = none) (hr : s.link.rx = [])
    (hc : s.mgmt.working.coach.remoteConfig = true) (hx : s.Ready d.port) (hsend : s.link.sending ≠ none) (hq : s.link.txQ = [])
    (hres : s.link.reserved = 0) (hb : s.link.backlog = []) (hi : d.frame.srcId ≠ s.nodeId) :
    ∃ t u, s.run (fun x => x.serve .line v) = .next t
      ∧ ({ s with delivered := rest, link := { s.link with rx := [{ kind := 4, payload := d.frame.payload }] } } : State).run
          (fun x => x.serve .coachLink v) = .next u
      ∧ Served d rest v.code h l t u := by
  generalize hs' : ({ s with delivered := rest, link := { s.link with rx := [{ kind := 4, payload := d.frame.payload }] } } : State) = s'
  have hasks : s'.asks v.code h l args := by rw [← hs', hp]; exact ⟨hs.1, rfl, hq, hb, hres, hsend⟩
  have hready : ({ s with delivered := rest } : State).Ready d.port := hx.congr (by cases d.port <;> rfl)
  by_cases hf : v.form args = true
  · obtain ⟨st, results, z, z', hz, hz', a⟩ :=
      ha d.origin { kind := v.code, tag := u16 h l, args := args } { s with delivered := rest } d.port hready hsend hq hres
    have hj : ({ s with delivered := rest } : State).judge v d.origin { kind := v.code, tag := u16 h l, args := args } = (.now st results, z) := by
      rw [State.judge_passes (s := { s with delivered := rest }) (r := { kind := v.code, tag := u16 h l, args := args }) hf (.inr hc), hz]
    have hplaces : (v.act .coachLink { kind := v.code, tag := u16 h l, args := args } s').1.places =
        (v.act .coachLink { kind := v.code, tag := u16 h l, args := args } ({ s with delivered := rest } : State)).1.places := by
      rw [← hs']
      exact Service.act_places hmem _ _ ({ s with delivered := rest } : State) _
    have hact : v.act .coachLink { kind := v.code, tag := u16 h l, args := args }
        (s'.taken (v.act .coachLink { kind := v.code, tag := u16 h l, args := args } ({ s with delivered := rest } : State)).1.places) =
          (.now st results, z') := by
      rw [← hs']; exact hz'
    have hrun := State.run_taken hv hasks hf hplaces hact ((Link.enterReply_rx _ _ _).trans a.rx')
    obtain ⟨t, hline, served⟩ := State.run_line_served hv hs hp ht hr hx.mated hi hj a _
    exact ⟨t, _, hline, hrun, served⟩
  · have hbad : v.form args = false := Bool.eq_false_iff.mpr hf
    have hj : ({ s with delivered := rest } : State).judge v d.origin { kind := v.code, tag := u16 h l, args := args } =
        (.plain .badRequest, { s with delivered := rest }) := if_pos hbad
    obtain ⟨t, hline, served⟩ := State.run_line_served hv hs hp ht hr hx.mated hi hj (Alike.refl hready (Nat.zero_le _) 0) _
    refine ⟨t, _, hline, State.run_badRequest hv hasks hbad, ?_⟩
    rw [← hs']
    exact served

end

end Sys2Proof.Machine
end

section
open Sys2Proof Sys2Proof.Machine

/-- Settles O60: what is not permitted, refused, read, or of an unchanged staging is answered alone; a STORE is taken with the line as its
route back; and every other request does what it does over the coach link. -/
theorem lineRequestsServed : Obligations.LineRequestsServed := by
  intro s d rest h l args c code hs hp ht hr answers
  have empty (hl : args.length = 0) : noArgs args = true := by rw [List.length_eq_zero_iff.mp hl]; rfl
  have sized (n : Nat) (hl : args.length = n) : argsOf n args = true := decide_eq_true hl
  refine ⟨fun hc hm => ?_, fun hc hx hcode hargs => ?_, fun hx hcode hargs => ?_, fun results hl hm hargs => ?_,
    fun byLink hm hc hmated htx hu hn hsend hq hres hb hi => ?_, fun hc hx hcode hargs hi => ?_, fun hc hx hcode hargs hi he hsound => ?_⟩
  · have barred (v : Service) (hv : v.code < 256) (hw : v.write = true) (hf : v.form args = true)
        (hp : d.frame.payload = byte v.code :: h :: l :: args) :=
      State.run_line_answers (v := v) (st := .notPermitted) (results := []) hv hs hp ht hr (Nat.zero_le _)
        (State.judge_barred hf hw hc)
    simp only [List.mem_cons, Prod.mk.injEq, List.not_mem_nil, or_false] at hm
    rcases hm with ⟨rfl, rfl, hl⟩ | ⟨rfl, rfl, hl⟩ | ⟨rfl, rfl, hl⟩ | ⟨rfl, rfl, hl⟩ | ⟨rfl, rfl, hl⟩ | ⟨rfl, rfl, hl⟩ | ⟨rfl, rfl, hl⟩ |
      ⟨rfl, rfl, hl⟩ | ⟨rfl, rfl, hl⟩ | ⟨rfl, rfl, hl⟩ | ⟨rfl, rfl, hl⟩ | ⟨rfl, rfl, hl⟩
    · exact barred clearCountersService (by decide) rfl (empty hl) hp
    · exact barred clearNoticesService (by decide) rfl (sized 2 hl) hp
    · exact barred setNoticeEnableService (by decide) rfl (sized 2 hl) hp
    · exact barred applyService (by decide) rfl (empty hl) hp
    · exact barred storeService (by decide) rfl (empty hl) hp
    · exact barred setBudgetService (by decide) rfl (sized 2 hl) hp
    · exact barred setSenseService (by decide) rfl (sized 12 hl) hp
    · exact barred sampleService (by decide) rfl (empty hl) hp
    · exact barred startCaptureService (by decide) rfl (empty hl) hp
    · exact barred stopCaptureService (by decide) rfl (empty hl) hp
    · exact barred clearGroupFaultService (by decide) rfl (sized 1 hl) hp
    · exact barred restartService (by decide) rfl (empty hl) hp
  · subst hx hcode
    obtain ⟨x, f, vh, vl, rfl, h1, h5⟩ := hargs
    have hf : loadForm [x, f, vh, vl] = true := by
      have hx : (TableName.ofCode x.toNat).isSome = true := by
        obtain e | e | e | e | e : x.toNat = 1 ∨ x.toNat = 2 ∨ x.toNat = 3 ∨ x.toNat = 4 ∨ x.toNat = 5 := by omega
        all_goals rw [e]; rfl
      simp [loadForm, hx, readValues]
    exact State.run_line_answers (v := loadTableService) (st := .notPermitted) (results := []) (by decide) hs hp ht hr (Nat.zero_le _)
      (State.judge_barred hf rfl hc)
  · subst hx hcode hargs
    exact State.run_line_answers (v := recensusService) (st := .refused) (results := []) (by decide) hs hp ht hr (Nat.zero_le _) rfl
  · subst hargs
    have read (v : Service) (hv : v.code < 256) (hf : v.form = noArgs) (hw : v.write = false) (results : State → List Byte)
        (ha : v.act = readAct results) (hd : results { s with delivered := rest } = results s) (hl : (results s).length ≤ 259)
        (hp : d.frame.payload = byte v.code :: h :: l :: []) :=
      State.run_line_answers (v := v) (st := .ok) (results := results s) hv hs hp ht hr hl
        (by rw [State.judge_passes (by rw [hf]; rfl) (.inl hw), ha, readAct, hd])
    simp only [List.mem_cons, Prod.mk.injEq, List.not_mem_nil, or_false] at hm
    rcases hm with ⟨rfl, rfl, rfl⟩ | ⟨rfl, rfl, rfl⟩ | ⟨rfl, rfl, rfl⟩ | ⟨rfl, rfl, rfl⟩ | ⟨rfl, rfl, rfl⟩ | ⟨rfl, rfl, rfl⟩
    · exact read identifyService (by decide) rfl rfl State.identifyResults rfl rfl hl hp
    · exact read readConsistService (by decide) rfl rfl State.consistResults rfl rfl hl hp
    · exact read readDoorService (by decide) rfl rfl State.doorResults rfl rfl hl hp
    · exact read readHeatingService (by decide) rfl rfl State.heatingResults rfl rfl hl hp
    · exact read readSenseService (by decide) rfl rfl State.senseResults rfl rfl hl hp
    · exact read readNoticesService (by decide) rfl rfl State.noticeResults rfl rfl hl hp
  · have served : ∃ v ∈ services, v.code < 256 ∧ v.Alike ∧ code = v.code ∧ (exec c = fun x => x.run fun y => y.serve .line v)
        ∧ (exec byLink = fun x => x.run fun y => y.serve .coachLink v) := by
      simp only [List.mem_cons, Prod.mk.injEq, List.not_mem_nil, or_false] at hm
      rcases hm with ⟨rfl, rfl, rfl⟩ | ⟨rfl, rfl, rfl⟩ | ⟨rfl, rfl, rfl⟩ | ⟨rfl, rfl, rfl⟩ | ⟨rfl, rfl, rfl⟩ | ⟨rfl, rfl, rfl⟩ | ⟨rfl, rfl, rfl⟩ |
        ⟨rfl, rfl, rfl⟩ | ⟨rfl, rfl, rfl⟩ | ⟨rfl, rfl, rfl⟩ | ⟨rfl, rfl, rfl⟩ | ⟨rfl, rfl, rfl⟩ | ⟨rfl, rfl, rfl⟩ | ⟨rfl, rfl, rfl⟩ |
        ⟨rfl, rfl, rfl⟩ | ⟨rfl, rfl, rfl⟩ | ⟨rfl, rfl, rfl⟩ | ⟨rfl, rfl, rfl⟩ | ⟨rfl, rfl, rfl⟩ | ⟨rfl, rfl, rfl⟩
      · exact ⟨identifyService, by simp [services], by decide, (readAct_routeless rfl fun _ _ => rfl).alike, rfl, rfl, rfl⟩
      · exact ⟨readConsistService, by simp [services], by decide, (readAct_routeless rfl fun _ _ => rfl).alike, rfl, rfl, rfl⟩
      · exact ⟨readDoorService, by simp [services], by decide, (readAct_routeless rfl fun _ _ => rfl).alike, rfl, rfl, rfl⟩
      · exact ⟨readHeatingService, by simp [services], by decide, (readAct_routeless rfl fun _ _ => rfl).alike, rfl, rfl, rfl⟩
      · exact ⟨readSenseService, by simp [services], by decide, (readAct_routeless rfl fun _ _ => rfl).alike, rfl, rfl, rfl⟩
      · exact ⟨readCaptureService, by simp [services], by decide, captureAct_routeless.alike, rfl, rfl, rfl⟩
      · exact ⟨readCountersService, by simp [services], by decide, countersAct_routeless.alike, rfl, rfl, rfl⟩
      · exact ⟨readNoticesService, by simp [services], by decide, (readAct_routeless rfl fun _ _ => rfl).alike, rfl, rfl, rfl⟩
      · exact ⟨clearCountersService, by simp [services], by decide, clearCountersAct_routeless.alike, rfl, rfl, rfl⟩
      · exact ⟨clearNoticesService, by simp [services], by decide, clearNotices_alike, rfl, rfl, rfl⟩
      · exact ⟨setNoticeEnableService, by simp [services], by decide, setEnableAct_routeless.alike, rfl, rfl, rfl⟩
      · exact ⟨loadTableService, by simp [services], by decide, loadAct_routeless.alike, rfl, rfl, rfl⟩
      · exact ⟨applyService, by simp [services], by decide, apply_alike, rfl, rfl, rfl⟩
      · exact ⟨setBudgetService, by simp [services], by decide, budgetAct_routeless.alike, rfl, rfl, rfl⟩
      · exact ⟨setSenseService, by simp [services], by decide, setSense_alike, rfl, rfl, rfl⟩
      · exact ⟨sampleService, by simp [services], by decide, sampleAct_routeless.alike, rfl, rfl, rfl⟩
      · exact ⟨startCaptureService, by simp [services], by decide, startCaptureAct_routeless.alike, rfl, rfl, rfl⟩
      · exact ⟨stopCaptureService, by simp [services], by decide, stopCaptureAct_routeless.alike, rfl, rfl, rfl⟩
      · exact ⟨clearGroupFaultService, by simp [services], by decide, groupFaultAct_routeless.alike, rfl, rfl, rfl⟩
      · exact ⟨restartService, by simp [services], by decide, restartAct_routeless.alike, rfl, rfl, rfl⟩
    obtain ⟨v, hmem, hv, ha, rfl, hline, hlink⟩ := served
    obtain ⟨t, u, h1, h2, b, hpow, hdel, hrx, hreply⟩ :=
      State.line_beside_link hmem hv ha hs hp ht hr hc ⟨of_decide_eq_true hmated, htx, hu, hn⟩ hsend hq hres hb hi
    rw [hline, hlink]
    exact ⟨t, u, h1, h2, b.events, b.notices, b.sense, b.heater, b.alloc, b.mgmt, b.census, b.line, b.doors, b.summary, b.nodeId, hpow, b.strap,
      hdel, b.freeCount, hrx, hreply⟩
  · subst hx hcode hargs
    have hact := storeAct_idle (o := d.origin) (r := { kind := 14, tag := u16 h l, args := [] }) (s := { s with delivered := rest }) hi
    exact State.run_line (v := storeService) (by decide) hs hp
      ((State.judge_passes (v := storeService) (s := { s with delivered := rest }) (r := { kind := 14, tag := u16 h l, args := [] }) rfl
        (.inr hc)).trans hact) ht hr
  · subst hx hcode hargs
    have hact := applyAct_same d.origin { kind := 13, tag := u16 h l, args := [] } (s := { s with delivered := rest }) hi he hsound
    exact State.run_line_answers (v := applyService) (st := .ok) (results := [0]) (by decide) hs hp ht hr (by decide)
      ((State.judge_passes (v := applyService) (s := { s with delivered := rest }) (r := { kind := 13, tag := u16 h l, args := [] }) rfl
        (.inr hc)).trans hact)

end
